-- ==== Sys2Proof/Word.lean ====
section
/-! DEFINITION. The plainest types of the ZR-6120: bytes, half words, words, the index ranges of its
tables and the unit of time. -/

namespace Sys2Proof

/-- A byte, 8 bits (00_scope, Numbers and units). -/
abbrev Byte := BitVec 8

/-- A 16-bit word: a voice sample's pattern, a key word, a free-running 16-bit count. -/
abbrev Half := BitVec 16

/-- A 32-bit memory word, a frame number, a tick counter value. -/
abbrev Word := BitVec 32

/-- A 30-bit word address (R16); a byte address is four times the word address. -/
abbrev WordAddr := BitVec 30

/-- An endpoint number 0–511 (R140). -/
abbrev EpNo := Fin 512

/-- A call number 0–127 (R99). -/
abbrev CallNo := Fin 128

/-- A talk ring number 0–255 (R41). -/
abbrev RingNo := Fin 256

/-- A frame slot of a ring, 0–3 (R41). -/
abbrev FrameSlotNo := Fin 4

/-- A mailbox slot number 0–31 (R145). -/
abbrev MboxNo := Fin 32

/-- A directory index 0–1023 (R141). -/
abbrev EntryNo := Fin 1024

/-- A key lane number 0–7 (R79). -/
abbrev LaneNo := Fin 8

/-- An instant, in nanoseconds. The manual's instants are in µs and name halves of them
(1.5 µs activations, one and a half internal periods), so a finer unit holds every one of them
exactly. DESIGN CHOICE (log 3). -/
abbrev Instant := Nat

end Sys2Proof
end

