-- ==== Sys2Proof/Syntax.lean ====
section
/-! DEFINITION. The commands of the ZR-6120: one constructor of Instr per row of
spec/opcode_table.json, with the row's operands. A command is one event of the part. A command whose
event can fall at any instant carries that instant t; the events whose instant the part's own records
fix (an expiry, a leaving of the activation window, a completion) carry none (log 3). -/

namespace Sys2Proof

/-- A data word of a write with its four byte enables; enable i governs byte i (R16). -/
structure WriteWord where
  data : Word
  en   : BitVec 4
  deriving DecidableEq, Repr, Inhabited

/-- Four 16-bit key words, k0 at the lowest address (R66). -/
structure Key where
  k0 : Half
  k1 : Half
  k2 : Half
  k3 : Half
  deriving DecidableEq, Repr, Inhabited

/-- Memory's answer to a downstream request: OK (with the data words of a read), NOT-RESERVED, or
FAULT (R17, R36). -/
inductive Answer where
  | ok (data : List Word)
  | notReserved
  | fault
  deriving DecidableEq, Repr

/-- Which event of the frame timer a tick row names: the expiry of the internal period (R122), the
guard's expiry (R124), or an FSYNC edge at an instant (R123, R125). -/
inductive TickCause where
  | internalExpiry
  | guardExpiry
  | fsyncEdge (t : Instant)
  deriving DecidableEq, Repr

/-- The commands, one constructor per row of spec/opcode_table.json. -/
inductive Instr where
  /-- HARD_RESET (R11): RESET_N falls. -/
  | hardReset
  /-- RESET_N_RISE (R11, R1): RESET_N rises; the strap pins stand at the values given. -/
  | resetNRise (anchorSel : BitVec 8) (bootEp : EpNo)
  /-- READ (R20): an endpoint offers a READ of len words. -/
  | read (t : Instant) (ep : EpNo) (addr : WordAddr) (len : Nat)
  /-- WRITE (R20): an endpoint offers a WRITE of the data words. -/
  | write (t : Instant) (ep : EpNo) (addr : WordAddr) (data : List WriteWord)
  /-- READ_RESERVE (R143): an endpoint offers a READ-RESERVE of len words. -/
  | readReserve (t : Instant) (ep : EpNo) (addr : WordAddr) (len : Nat)
  /-- WRITE_IF_RESERVED (R147): an endpoint offers a WRITE-IF-RESERVED of the data words. -/
  | writeIfReserved (t : Instant) (ep : EpNo) (addr : WordAddr) (data : List WriteWord)
  /-- TRANSFORM_ENTRY (R47): the earliest eligible VOICE request enters a free transform place. -/
  | transformEntry (t : Instant)
  /-- DOWNSTREAM_GRANT (R34): memory takes the arbiter's next request. -/
  | downstreamGrant (t : Instant)
  /-- MEMORY_ANSWER (R36): memory answers the i-th of the requests awaiting it, oldest first. -/
  | memoryAnswer (t : Instant) (i : Nat) (a : Answer)
  /-- RESPONSE_RETURN (R19): the exchange-bus port returns endpoint ep's next response. -/
  | responseReturn (t : Instant) (ep : EpNo)
  /-- SELF_TRAFFIC_PLACEMENT (R38): waiting blocks place their entries. -/
  | selfTrafficPlacement (t : Instant)
  /-- RING_DRAIN_END (R43): a DRAINING ring whose count is 0 goes FREE. -/
  | ringDrainEnd (t : Instant) (ring : RingNo)
  /-- SIGNATURE_WRITE (R2): memory answers OK the i-th awaiting request, a permitted signature write. -/
  | signatureWrite (t : Instant) (i : Nat)
  /-- ANCHOR_SELF_READ_RETURN (R3): memory answers the anchor self-read. -/
  | anchorSelfReadReturn (t : Instant) (a : Answer)
  /-- ORDER_PRODUCER_COUNT_WRITE (R165): memory answers OK the i-th awaiting request, an in-range
  write of the order producer count. -/
  | orderProducerCountWrite (t : Instant) (i : Nat)
  /-- COMPLETION_CONSUMER_COUNT_WRITE (R169): memory answers OK the i-th awaiting request, an
  in-range write of the completion consumer count. -/
  | completionConsumerCountWrite (t : Instant) (i : Nat)
  /-- CLAIM (R148): memory answers OK the i-th awaiting request, a claim. -/
  | claim (t : Instant) (i : Nat)
  /-- RELEASE (R149): memory answers OK the i-th awaiting request, a release. -/
  | release (t : Instant) (i : Nat)
  /-- GO_ADMIT (R150): memory answers OK the i-th awaiting request, a go word ADMIT. -/
  | goAdmit (t : Instant) (i : Nat)
  /-- GO_RESIGN (R150): memory answers OK the i-th awaiting request, a go word RESIGN. -/
  | goResign (t : Instant) (i : Nat)
  /-- GO_ANSWER (R150): memory answers OK the i-th awaiting request, a go word ANSWER. -/
  | goAnswer (t : Instant) (i : Nat)
  /-- REQUEST_SELF_READ_RETURN (R151): memory answers slot m's request self-read. -/
  | requestSelfReadReturn (t : Instant) (m : MboxNo) (a : Answer)
  /-- ANSWER_SELF_READ_RETURN (R154): memory answers slot m's answer self-read. -/
  | answerSelfReadReturn (t : Instant) (m : MboxNo) (a : Answer)
  /-- ORDER_FETCH_START (R166): the engine starts fetching the next order. -/
  | orderFetchStart (t : Instant)
  /-- ORDER_FETCH_FAULT (R166): the fetch outstanding is answered FAULT. -/
  | orderFetchFault (t : Instant)
  /-- BAD_ORDER_KIND (R178): the fetch returns an entry with this kind code, which names no order. -/
  | badOrderKind (t : Instant) (kind : Byte)
  /-- OPEN_CALL (R103): the fetch returns an OPEN-CALL with these fields (10.4). -/
  | openCall (t : Instant) (call : Half) (count level : Byte) (e0 e1 e2 e3 : Half) (key : Key)
  /-- ADD_MEMBER (R104): the fetch returns an ADD-MEMBER. -/
  | addMember (t : Instant) (call ep : Half)
  /-- DROP_MEMBER (R104): the fetch returns a DROP-MEMBER. -/
  | dropMember (t : Instant) (call ep : Half)
  /-- CLOSE_CALL (R110): the fetch returns a CLOSE-CALL. -/
  | closeCall (t : Instant) (call : Half)
  /-- REKEY_NOW (R112): the fetch returns a REKEY-NOW; level 0xFF carries no comfort level. -/
  | rekeyNow (t : Instant) (call : Half) (level : Byte)
  /-- SET_TIMING (R135): the fetch returns a SET-TIMING; the period is in µs. -/
  | setTiming (t : Instant) (source : Byte) (period : Word)
  /-- SET_ENDPOINT (R158): the fetch returns a SET-ENDPOINT. -/
  | setEndpoint (t : Instant) (ep : Half) (role order : Byte)
  /-- SET_DIRECTORY (R159): the fetch returns a SET-DIRECTORY. -/
  | setDirectory (t : Instant) (index : Half) (enabled : Byte) (number : Word) (secret : Key)
  /-- REVOKE (R160): the fetch returns a REVOKE. -/
  | revoke (t : Instant) (ep : Half)
  /-- UNLOCK (R161): the fetch returns an UNLOCK. -/
  | unlock (t : Instant) (index : Half)
  /-- REPORT_ENDPOINTS (R175): the fetch returns a REPORT of kind ENDPOINTS. -/
  | reportEndpoints (t : Instant) (first count : Half) (buffer : Word)
  /-- REPORT_CALL (R175): the fetch returns a REPORT of kind CALL. -/
  | reportCall (t : Instant) (call : Half) (buffer : Word)
  /-- REPORT_SUMMARY (R175): the fetch returns a REPORT of kind SUMMARY. -/
  | reportSummary (t : Instant) (buffer : Word)
  /-- REPORT_COMPLETION (R175): every record write of the REPORT in execution has been answered. -/
  | reportCompletion (t : Instant)
  /-- RESTART (R8): the fetch returns a RESTART. -/
  | restart (t : Instant)
  /-- DRAINING_END (R10): draining has ended and the ring has room. -/
  | drainingEnd (t : Instant)
  /-- UNPLANNED_ENTRY (R10): memory answers the RESTART completion's write. -/
  | unplannedEntry (t : Instant) (a : Answer)
  /-- NOTICE_DELIVERY (R172): backlog notices are written while room remains. -/
  | noticeDelivery (t : Instant)
  /-- HELD_COMPLETION_WRITE (R170): the held completion is written once the backlog is empty. -/
  | heldCompletionWrite (t : Instant)
  /-- INTERNAL_EXPIRY (R122, R124): the internal period expires. -/
  | internalExpiry
  /-- GUARD_EXPIRY (R124): the guard expires. -/
  | guardExpiry
  /-- FSYNC_EDGE (R123, R125): a rising edge on FSYNC. -/
  | fsyncEdge (t : Instant)
  /-- ADMIT_AGING (R84): waiting ADMIT requests 8 or more ticks old become ADMIT-AGED. -/
  | admitAging (t : Instant)
  /-- LOCK_EXPIRY (R142): locks whose locked-until tick the counter has risen to are removed. -/
  | lockExpiry (t : Instant)
  /-- TIMING_CHANGE_TAKE_EFFECT (R136): the first taken tick that finds a timing change ARMED. -/
  | timingChangeTakeEffect (cause : TickCause)
  /-- BLANKING_END (R137): the next taken tick after the blanking tick. -/
  | blankingEnd (cause : TickCause)
  /-- TIMING_CHANGE_COMPLETION (R137): the waiting SET-TIMING's DONE completion is written. -/
  | timingChangeCompletion (t : Instant)
  /-- VISIT (R113): the pass visits the next OPEN call. -/
  | visit (t : Instant)
  /-- REKEY_COUNTDOWN_EXPIRY (R116): the visit, of the next OPEN call, at which a rekey is due. -/
  | rekeyCountdownExpiry (t : Instant)
  /-- SLOT_CHECK (R133): the pass checks the next mailbox slot. -/
  | slotCheck (t : Instant)
  /-- SLOT_DEADLINE_EXPIRY (R156): the check, of the next mailbox slot, that expires it. -/
  | slotDeadlineExpiry (t : Instant)
  /-- CALL_CLOSE_END (R111): a CLOSING call goes FREE. -/
  | callCloseEnd (t : Instant) (call : CallNo)
  /-- ACTIVATION_WINDOW_LEAVE (R85): the oldest start in the window leaves it. -/
  | activationWindowLeave
  /-- CALL_ACTIVATION_COMPLETION (R92): the activation of a call's (or a detached) lane completes. -/
  | callActivationCompletion (lane : LaneNo)
  /-- ENTRY_ACTIVATION_COMPLETION (R93): the activation of a directory entry's lane completes. -/
  | entryActivationCompletion (lane : LaneNo)
  deriving DecidableEq, Repr

end Sys2Proof
end

