-- ==== Sys2Proof/Decode.lean ====
section
/-! DEFINITION. The command a word spells by the table's bits. No row of spec/opcode_table.json gives
bits (every row's "fields" is empty and none has "fixed"): the commands of this block are events at
its ports, not words of an instruction memory. So no word spells a command. -/

namespace Sys2Proof

/-- The command that the word w of nbits bits spells by the bits of spec/opcode_table.json: none, for
no row gives bits. -/
def decodeTableWord (_nbits _w : Nat) : Option Instr := none

end Sys2Proof
end

