-- ==== Sys2Proof/Config.lean ====
section
/-! DEFINITION. The sizes and constants the manual fixes for every ZR-6120, and the values it leaves
open, as constants without a body. -/

namespace Sys2Proof.Config

/-- Places of the hold queue (R18, R24). -/
def holdPlaces : Nat := 16

/-- Places of the response order table (R18, R19). -/
def responsePlaces : Nat := 32

/-- Places of the transform unit (R28). -/
def transformPlaces : Nat := 4

/-- Places of the self-traffic queue (R38). -/
def selfPlaces : Nat := 8

/-- The largest forwarded-run count (R34). -/
def runLimit : Nat := 3

/-- Reservations the monitor can hold (R143). -/
def reservationPlaces : Nat := 16

/-- Activation starts allowed in one window, and start instants listed (R85). -/
def windowStarts : Nat := 4

/-- Entries of the completion ring (R164). -/
def completionEntries : Nat := 64

/-- Entries of the order ring (R164). -/
def orderEntries : Nat := 32

/-- Nanoseconds in a microsecond. -/
def nsPerUs : Nat := 1000

/-- An activation takes 1.5 µs from start to completion (R79). -/
def activationNs : Nat := 1500

/-- The signature word of a plan record (R2). -/
def signature : Word := 0x7A526120#32

/-- The tag of the part's own downstream requests (R35). -/
def selfTag : Nat := 1023

/-- Bytes of VOICE, MAILBOX, and of ORDER and COMPLETION each (R12). -/
def voiceBytes : Nat := 327680
/-- Bytes of MAILBOX (R12). -/
def mailboxBytes : Nat := 2048
/-- Bytes of ORDER, and of COMPLETION: a 1,024-byte ring and a 64-byte index block (R12). -/
def ringAreaBytes : Nat := 1088
/-- Bytes of the anchor (R1). -/
def anchorBytes : Nat := 64

/-- FREE VALUE (log 16). The code a SUMMARY record would give the part state UNPLANNED: 10.1 lists
only '1 PLANNED'. Nothing constrains it. -/
opaque unplannedCode : Byte

/-- FREE VALUE (log 16). The code a SUMMARY record would give the part state QUIESCING: 10.1 lists
only '1 PLANNED'. Nothing constrains it. -/
opaque quiescingCode : Byte

end Sys2Proof.Config
end

