-- ==== Sys2Proof/Machine/State.lean ====
section
/-! DEFINITION. The state of the ZR-6120 as plain data: its records, tables, queues, counts and pins,
the model's own fields (marked so), its state after reset, and the reasons a step can stop. -/

namespace Sys2Proof.Machine

open Sys2Proof

/-! ## Requests, responses and the two ports (chapter 2) -/

/-- The four request kinds (R16). -/
inductive ReqKind where
  | read | write | readReserve | writeIfReserved
  deriving DecidableEq, Repr, Inhabited

/-- A request at the exchange-bus port (R16). For the two write kinds data has len entries. -/
structure Request where
  kind : ReqKind
  ep   : EpNo
  addr : WordAddr
  len  : Nat
  data : List WriteWord
  deriving DecidableEq, Repr

/-- What the region decoder sorted a request into (R12); passThrough is a request accepted while
UNPLANNED, which is sorted into no region (R7). -/
inductive Region where
  | passThrough | openMem | voice | mailbox | order | completion | anchor
  deriving DecidableEq, Repr

/-- The five violation kinds (R23). -/
inductive Violation where
  | shape | window | foreign | partialSample | mailbox
  deriving DecidableEq, Repr

/-- The event that a forwarded write becomes when memory answers it OK (R13): a signature event, a
producer or consumer count event with the value written, or the event of the write in flight on a
mailbox slot. -/
inductive Watch where
  | signature
  | orderCount (v : Half)
  | completionCount (v : Half)
  | mailbox (m : MboxNo)
  deriving DecidableEq, Repr

/-- An accepted request, as it moves from place to place (2.2). id is its place in the order of
acceptance (R19). off is its word offset from the base of its region at arrival (R24).
closedUnder says that its arrival call has gone CLOSING since (R47, log 9). -/
structure Accepted where
  id          : Nat
  req         : Request
  region      : Region
  off         : Nat
  arrivalCall : Option CallNo
  closedUnder : Bool
  watch       : Option Watch
  deriving DecidableEq, Repr

/-- A response (R17). -/
inductive Response where
  | ok (data : List Word)
  | refused
  | notReserved
  | fault
  deriving DecidableEq, Repr

/-- An entry of the response order table (R19). -/
structure RespEntry where
  id       : Nat
  ep       : EpNo
  response : Option Response
  deriving DecidableEq, Repr

/-- A response as the exchange-bus port returned it. -/
structure Returned where
  id       : Nat
  ep       : EpNo
  response : Response
  deriving DecidableEq, Repr

/-- The kinds a completion can have (R168). -/
inductive CompKind where
  | order | callEmptied | admitted | deadmitted | syncLost | syncRegained | slip | memoryFault
  deriving DecidableEq, Repr

/-- Which of the part's own accesses a self-traffic entry is (R38), so that its answer reaches the
block that issued it (R36). restart marks the entry write of the RESTART completion (R10). -/
inductive SelfSource where
  | anchorRead
  | planStatus
  | orderFetch
  | consumedCount
  | completionEntry (kind : CompKind) (restart : Bool)
  | completionCount
  | report
  | requestRead (m : MboxNo)
  | answerRead (m : MboxNo)
  | mirror (m : MboxNo)
  | challenge (m : MboxNo)
  | verdict (m : MboxNo)
  | claimClear (m : MboxNo)
  deriving DecidableEq, Repr

/-- An entry of the self-traffic queue (R38): a READ of len words, or a WRITE of len full words. -/
structure SelfEntry where
  isWrite : Bool
  addr    : Nat
  len     : Nat
  data    : List Word
  src     : SelfSource
  deriving DecidableEq, Repr

/-- The blocks that issue self traffic (R38). -/
inductive Block where
  | validator | engine | admission | callLogic | timer
  deriving DecidableEq, Repr

/-- A block waiting for places in the self-traffic queue (R38): the entries it places together, and
whether the scan pass waits with it (R129); or the next record write of the REPORT in execution,
whose records are built when it is placed (R175). -/
inductive Waiter where
  | entries (block : Block) (byPass : Bool) (es : List SelfEntry)
  | reportWrite
  deriving DecidableEq, Repr

/-- A request at the memory port (R16, R35). The address is a word address. -/
structure DsRequest where
  kind : ReqKind
  addr : Nat
  len  : Nat
  tag  : Nat
  data : List WriteWord
  deriving DecidableEq, Repr

/-- Where memory's answer to a downstream request goes (R36). -/
inductive DsSource where
  | forwarded (a : Accepted)
  | piece (id : Nat) (no : Nat)
  | self (src : SelfSource)
  deriving DecidableEq, Repr

/-- A granted downstream request that memory has not answered yet. -/
structure Awaiting where
  req : DsRequest
  src : DsSource
  deriving DecidableEq, Repr

/-! ## The transform unit (chapter 3) -/

/-- A piece of a VOICE request (R51, R57). no numbers the request's pieces in logical order; done is
memory's answer, OK (true) or FAULT (false). The address is a word address. -/
structure Piece where
  no     : Nat
  seg    : Fin 8
  addr   : Nat
  len    : Nat
  data   : List WriteWord
  issued : Bool
  done   : Option Bool
  deriving DecidableEq, Repr

/-- Where a sample of a member read comes from (R56, R57): a value decided already, or sample k of
piece no's answer, to be descrambled with the output word z. -/
inductive SampleSource where
  | value (x : Half)
  | stored (no : Nat) (k : Nat) (z : Half)
  deriving DecidableEq, Repr

/-- What a member request holds while in transform: the call, the ring, and the lane whose counts it
raised (R59). -/
structure Ticket where
  call : CallNo
  ring : RingNo
  lane : LaneNo
  deriving DecidableEq, Repr

/-- The course of a request in transform (R47): a non-member read, a member read with the byte order
it took at entry and its samples, or a member write with the slot and frame it was accepted
against. -/
inductive Course where
  | raw
  | memberRead (tk : Ticket) (bigEndian : Bool) (out : List SampleSource)
  | memberWrite (tk : Ticket) (slot : FrameSlotNo) (frame : Word)
  deriving DecidableEq, Repr

/-- A transform place in use (R28). -/
structure Xform where
  acc    : Accepted
  course : Course
  pieces : List Piece
  deriving DecidableEq, Repr

/-- The exchange-bus port, the hold queue, the transform places, the memory port and the self-traffic
queue (chapter 2). nextId is the model's own count of requests accepted (log 24); returned is the
model's own record of the exchange-bus port's last response (log 24). -/
structure Port where
  nextId    : Nat
  arrival   : Option Accepted
  hold      : List Accepted
  xforms    : List Xform
  responses : List RespEntry
  awaiting  : List Awaiting
  selfQ     : List SelfEntry
  waiters   : List Waiter
  runCount  : Nat
  returned  : Option Returned
  deriving DecidableEq, Repr

/-! ## Rings (chapter 3) -/

/-- An OPEN slot entry (R44). Bit s of fill is logical segment s. -/
structure OpenSlot where
  frame : Word
  tag   : Half
  fill  : BitVec 8
  deriving DecidableEq, Repr

/-- A ring's state (R41). -/
inductive RingState where
  | free
  | owned (call : CallNo) (owner : EpNo)
  | draining (call : CallNo)
  deriving DecidableEq, Repr

/-- A ring record (R41). A slot entry that is none is EMPTY. -/
structure Ring where
  state : RingState
  count : Nat
  slots : Vector (Option OpenSlot) 4
  deriving DecidableEq, Repr

/-- A FREE ring (R41). -/
def Ring.free : Ring := { state := .free, count := 0, slots := Vector.replicate 4 none }

/-! ## Key lanes (chapter 5) -/

/-- What a lane holds keys for (R79). -/
inductive Subject where
  | call (c : CallNo)
  | entry (d : EntryNo)
  deriving DecidableEq, Repr

/-- A lane's state (R79). -/
inductive LaneState where
  | empty | expanding | ready
  deriving DecidableEq, Repr

/-- The keys a lane holds (R79): previous, current with its epoch number, and next key of a call; or
the secret of a directory entry. -/
structure LaneKeys where
  prev   : Option Key
  cur    : Option Key
  epoch  : Option Half
  next   : Option Key
  secret : Option Key
  deriving DecidableEq, Repr

/-- No keys. -/
def LaneKeys.blank : LaneKeys :=
  { prev := .none, cur := .none, epoch := .none, next := .none, secret := .none }

/-- An expansion in flight (R79). -/
structure Expansion where
  start   : Instant
  finish  : Instant
  derives : Bool
  slots   : List MboxNo
  deriving DecidableEq, Repr

/-- A lane record (R79). -/
structure Lane where
  state     : LaneState
  subject   : Option Subject
  keys      : LaneKeys
  count     : Nat
  lastUse   : Instant
  expansion : Option Expansion
  deriving DecidableEq, Repr

/-- A lane after hard reset (R79). -/
def Lane.reset : Lane :=
  { state := .empty, subject := none, keys := LaneKeys.blank, count := 0, lastUse := 0,
    expansion := none }

/-- The five classes of activation request (R80), in the order of precedence of R87; admit_ is ADMIT. -/
inductive ActClass where
  | rekeyForced | voice | admitAged | rekey | admit_
  deriving DecidableEq, Repr

/-- A waiting activation request (R80). -/
structure ActRequest where
  subject : Subject
  cls     : ActClass
  age     : Instant
  derive_ : Bool
  slots   : List MboxNo
  askTick : Word
  deriving DecidableEq, Repr

/-! ## Calls (chapter 6) -/

/-- A call's state (R99). -/
inductive CallState where
  | free | opened | closing
  deriving DecidableEq, Repr

/-- A member and its talk ring (R99). -/
structure Member where
  ep   : EpNo
  ring : RingNo
  deriving DecidableEq, Repr

/-- A pending switch (R99): ADD or DROP, its endpoint, its order's sequence number. -/
structure Switch where
  isAdd : Bool
  ep    : EpNo
  seq   : Half
  deriving DecidableEq, Repr

/-- The previous key with its advance frame (R99). -/
structure PrevKey where
  key     : Key
  advance : Word
  deriving DecidableEq, Repr

/-- A call record (R99). -/
structure Call where
  state     : CallState
  members   : List Member
  frame     : Word
  epoch     : Half
  key       : Option Key
  prev      : Option PrevKey
  next      : Option Key
  countdown : Nat
  debt      : Nat
  rekeyNow  : Bool
  comfort   : Fin 8
  switches  : List Switch
  lane      : Option LaneNo
  closeSeq  : Option Half
  deriving DecidableEq, Repr

/-- The contents of a FREE call (R99). -/
def Call.free : Call :=
  { state := .free, members := [], frame := 0#32, epoch := 0#16, key := none, prev := none,
    next := none, countdown := 0, debt := 0, rekeyNow := false, comfort := 0, switches := [],
    lane := none, closeSeq := none }

/-! ## Frame timing (chapter 7) -/

/-- The timing states (R121). -/
inductive TimingState where
  | internal | externalLocked | externalLost
  deriving DecidableEq, Repr

/-- A tick source (R121). -/
inductive TickSource where
  | internal | external
  deriving DecidableEq, Repr

/-- Where a pass in flight stands (R121, R129): in the call phase with the call last visited, or in
the slot phase with the number of slots checked. -/
inductive PassPos where
  | calls (last : Option CallNo)
  | slots (checked : Nat)
  deriving DecidableEq, Repr

/-- A scan pass in flight (R121). -/
structure Pass where
  number : Word
  pos    : PassPos
  deriving DecidableEq, Repr

/-- The timing change (R121); the period is in µs. -/
inductive TimingChange where
  | none
  | armed (seq : Half) (source : TickSource) (period : Nat)
  | blanking (seq : Half)
  | waiting (seq : Half)
  deriving DecidableEq, Repr

/-- The frame timer's record (R121). The period is in µs. A pass that is none is idle. -/
structure Timer where
  source      : TickSource
  period      : Nat
  state       : TimingState
  running     : Bool
  nextExpiry  : Option Instant
  lastTick    : Instant
  counter     : Word
  slips       : Nat
  pass        : Option Pass
  pendingTick : Option Word
  change      : TimingChange
  deriving DecidableEq, Repr

/-! ## Extension admission (chapter 8) -/

/-- The roles (R140). -/
inductive Role where
  | unused | station | trunk | control
  deriving DecidableEq, Repr

/-- An endpoint record (R140). admitted is the directory index of state ADMITTED, none for OUT.
reservation is a word address. bigEndian is byte order BE. -/
structure EndpointRec where
  role           : Role
  admitted       : Option EntryNo
  bigEndian      : Bool
  call           : Option CallNo
  slot           : Option MboxNo
  reservation    : Option Nat
  shapeCount     : Nat
  windowCount    : Nat
  foreignCount   : Nat
  partialCount   : Nat
  mailboxCount   : Nat
  lastViolation  : Option Violation
  shortFrames    : Nat
  deriving DecidableEq, Repr

/-- An endpoint record after hard reset (R140). -/
def EndpointRec.reset : EndpointRec :=
  { role := .unused, admitted := none, bigEndian := false, call := none, slot := none,
    reservation := none, shapeCount := 0, windowCount := 0, foreignCount := 0, partialCount := 0,
    mailboxCount := 0, lastViolation := none, shortFrames := 0 }

/-- A directory entry (R141). -/
structure DirEntry where
  enabled    : Bool
  number     : Nat
  secret     : Key
  fails      : Nat
  lock       : Option Word
  admittedEp : Option EpNo
  deriving DecidableEq, Repr

/-- A directory entry after hard reset (R141). -/
def DirEntry.reset : DirEntry :=
  { enabled := false, number := 0, secret := ⟨0#16, 0#16, 0#16, 0#16⟩, fails := 0, lock := none,
    admittedEp := none }

/-- A reservation: an endpoint and a MAILBOX word address (R143). -/
structure Reservation where
  ep   : EpNo
  word : Nat
  deriving DecidableEq, Repr

/-- The states of a mailbox slot (R145). -/
inductive SlotState where
  | free | claimed | requested | challenged | answered | decided
  deriving DecidableEq, Repr

/-- The go code being served (R145); admit_ is ADMIT. -/
inductive GoCode where
  | admit_ | resign
  deriving DecidableEq, Repr

/-- What a watched write in flight on a slot is (R145). -/
inductive MarkKind where
  | claim | release | goAdmit | goResign | goAnswer
  deriving DecidableEq, Repr

/-- A watched write in flight on a slot (R145): what it is, its endpoint, the state it was judged in
(R149, R150), and whether RESTART voided it (R8). -/
structure Mark where
  kind   : MarkKind
  ep     : EpNo
  judged : SlotState
  voided : Bool
  deriving DecidableEq, Repr

/-- Verdict codes (R162). -/
inductive VerdictCode where
  | admitted | wrong | locked | noEntry | already | inUse | inCall | resigned | timeout | fault
  deriving DecidableEq, Repr

/-- A verdict with its detail (R162). -/
structure Verdict where
  code   : VerdictCode
  detail : Word
  deriving DecidableEq, Repr

/-- A mailbox slot record (R145); bigEndian is the byte order of the request (R152). -/
structure Mbox where
  state     : SlotState
  owner     : Option EpNo
  goCode    : Option GoCode
  entry     : Option EntryNo
  number    : Option Nat
  bigEndian : Option Bool
  challenge : Option Half
  answer    : Option (Half × Half)
  deadline  : Option Word
  verdict   : Option Verdict
  aged      : Bool
  inFlight  : Option Mark
  selfRead  : Bool
  deriving DecidableEq, Repr

/-- A FREE mailbox slot with nothing outstanding (R145). -/
def Mbox.free : Mbox :=
  { state := .free, owner := none, goCode := none, entry := none, number := none,
    bigEndian := none, challenge := none, answer := none, deadline := none, verdict := none,
    aged := false, inFlight := none, selfRead := false }

/-! ## Orders, completions and notices (chapter 9) -/

/-- Completion statuses (R168). -/
inductive Status where
  | done | badOrder | noCall | callTaken | notEligible | listFull | callFull | noRing | inCall
  | busy | fault
  deriving DecidableEq, Repr

/-- The subject of a completion (R168); the number is as the order named it (log 15). -/
inductive CompSubject where
  | none
  | call (n : Half)
  | endpoint (n : Half)
  | entry (n : Half)
  deriving DecidableEq, Repr

/-- A completion (R168). -/
structure Completion where
  kind    : CompKind
  status  : Status
  seq     : Half
  subject : CompSubject
  repeats : Nat
  data    : List Byte
  deriving DecidableEq, Repr

/-- A notice of the backlog (R171). -/
structure Notice where
  kind    : CompKind
  subject : CompSubject
  data    : List Byte
  repeats : Nat
  deriving DecidableEq, Repr

/-- What a REPORT reports (R175). -/
inductive ReportKind where
  | endpoints (first count : Nat)
  | call (c : CallNo)
  | summary
  deriving DecidableEq, Repr

/-- The progress of a REPORT (R175): its buffer's byte address, the record writes placed, those
placed and not answered, and whether any was answered FAULT. -/
structure ReportJob where
  kind        : ReportKind
  buffer      : Nat
  placed      : Nat
  outstanding : Nat
  faulted     : Bool
  deriving DecidableEq, Repr

/-- How far the order in execution has come (R164): its fetch is outstanding, its REPORT is being
written, or its RESTART is draining, with its completion written or not yet. -/
inductive OrderPhase where
  | fetching
  | report (job : ReportJob)
  | restart (written : Bool)
  deriving DecidableEq, Repr

/-- The order in execution (R164). -/
structure OrderExec where
  seq   : Half
  phase : OrderPhase
  deriving DecidableEq, Repr

/-- The order engine's record (R164). -/
structure Engine where
  orderProducer      : Half
  orderConsumed      : Half
  completionProducer : Half
  completionConsumer : Half
  inExec             : Option OrderExec
  held               : Option Completion
  backlog            : List Notice
  deriving DecidableEq, Repr

/-! ## The plan (chapter 1) -/

/-- The part states (1.3). -/
inductive PartState where
  | unplanned | planned | quiescing
  deriving DecidableEq, Repr

/-- The plan in force (1.2): byte addresses, µs, ticks and frames as the record gives them. -/
structure Plan where
  voiceBase      : Nat
  mailboxBase    : Nat
  orderBase      : Nat
  completionBase : Nat
  control        : List EpNo
  source         : TickSource
  period         : Nat
  tAw            : Nat
  challengeLimit : Nat
  lockout        : Nat
  rekeyInterval  : Nat
  challengeStart : Half
  deriving DecidableEq, Repr

/-- The plan validator (R2, R6). -/
structure Validator where
  inFlight : Bool
  pending  : Bool
  count    : Half
  deriving DecidableEq, Repr

/-! ## The machine -/

/-- The state of the part. now (the instant of the latest event) and pending (the commands that wait)
are the model's own fields. -/
structure State where
  now          : Instant
  resetLow     : Bool
  anchorSel    : BitVec 8
  bootEp       : EpNo
  part         : PartState
  plan         : Option Plan
  validator    : Validator
  endpoints    : Vector EndpointRec 512
  directory    : Vector DirEntry 1024
  mailboxes    : Vector Mbox 32
  monitor      : List Reservation
  challengeCtr : Half
  rings        : Vector Ring 256
  calls        : Vector Call 128
  lanes        : Vector Lane 8
  waiting      : List ActRequest
  starts       : List Instant
  timer        : Timer
  engine       : Engine
  port         : Port
  alert        : Bool
  pending      : List Instr
  deriving DecidableEq, Repr

/-- Reasons to stop with a fault. None: every failure the manual describes (a FAULT answer of memory,
a refused request) has an effect on the part's state, and the part goes on. -/
inductive Fault where
  deriving DecidableEq, Repr

/-- Reasons to refuse a command. -/
inductive Refusal where
  /-- Raised by exec alone, for a row that has no meaning yet. Safe: nothing is claimed of it. -/
  | notModelled (mnemonic : String)
  deriving DecidableEq, Repr

/-- The exchange-bus and memory ports after hard reset: every structure empty (R40). -/
def Port.reset : Port :=
  { nextId := 0, arrival := none, hold := [], xforms := [], responses := [], awaiting := [],
    selfQ := [], waiters := [], runCount := 0, returned := none }

/-- The frame timer after hard reset (R11, R121). The settings are set at the first taking; until then
the source and period named here play no part (log 5). -/
def Timer.reset : Timer :=
  { source := .internal, period := 0, state := .internal, running := false, nextExpiry := none,
    lastTick := 0, counter := 0#32, slips := 0, pass := none, pendingTick := none,
    change := .none }

/-- The order engine after hard reset (R164). -/
def Engine.reset : Engine :=
  { orderProducer := 0#16, orderConsumed := 0#16, completionProducer := 0#16,
    completionConsumer := 0#16, inExec := none, held := none, backlog := [] }

/-- The part right after hard reset (R11, R40, R41, R79, R99, R121, R140, R141, R145, R164). The
straps' values are the pins' own: the ones named here are a DESIGN CHOICE (log 5). -/
def State.reset : State :=
  { now := 0, resetLow := false, anchorSel := 0#8, bootEp := 0, part := .unplanned, plan := none,
    validator := { inFlight := false, pending := false, count := 0#16 },
    endpoints := Vector.replicate 512 EndpointRec.reset,
    directory := Vector.replicate 1024 DirEntry.reset,
    mailboxes := Vector.replicate 32 Mbox.free,
    monitor := [], challengeCtr := 0#16,
    rings := Vector.replicate 256 Ring.free,
    calls := Vector.replicate 128 Call.free,
    lanes := Vector.replicate 8 Lane.reset,
    waiting := [], starts := [],
    timer := Timer.reset, engine := Engine.reset, port := Port.reset,
    alert := false, pending := [] }

end Sys2Proof.Machine
end

