-- ==== Sys2Proof/Machine/Operands.lean ====
section
/-! DEFINITION. The memory formats of chapter 10: the fields of words the part reads (plan record,
order entries, request and answer words) and the words it writes (plan status, completions, mailbox
words, report records). Every multi-byte field is little-endian. -/

namespace Sys2Proof.Machine

open Sys2Proof

/-! ## Bytes, halves and words -/

/-- Byte k (0–3) of a word; byte 0 lies at the lowest address. -/
def byteOf (w : Word) (k : Nat) : Byte := (w >>> (8 * k)).setWidth 8

/-- The 16-bit field at byte offset 0 of a word. -/
def loHalf (w : Word) : Half := w.setWidth 16

/-- The 16-bit field at byte offset 2 of a word. -/
def hiHalf (w : Word) : Half := (w >>> 16).setWidth 16

/-- The word with the given 16-bit fields at byte offsets 0 and 2. -/
def wordOfHalves (lo hi : Half) : Word := lo.setWidth 32 ||| (hi.setWidth 32 <<< 16)

/-- The word with the given bytes at byte offsets 0 to 3. -/
def wordOfBytes (b0 b1 b2 b3 : Byte) : Word :=
  b0.setWidth 32 ||| (b1.setWidth 32 <<< 8) ||| (b2.setWidth 32 <<< 16) ||| (b3.setWidth 32 <<< 24)

/-- The low-order byte of a 16-bit value. -/
def loByte (h : Half) : Byte := h.setWidth 8

/-- The high-order byte of a 16-bit value. -/
def hiByte (h : Half) : Byte := (h >>> 8).setWidth 8

/-- The two bytes of a 16-bit value exchanged (R58, R62 stage 4). -/
def swapBytes (h : Half) : Half := (h <<< 8) ||| (h >>> 8)

/-- Word k of a read's data; a read's data have one word for each word it covers (R36), so the 0 for
a missing word is never used. -/
def wordAt (ws : List Word) (k : Nat) : Word := ws.getD k 0#32

/-- The four 16-bit words of a key whose first byte is at the start of word lo (R66). -/
def keyOf (lo hi : Word) : Key :=
  { k0 := loHalf lo, k1 := hiHalf lo, k2 := loHalf hi, k3 := hiHalf hi }

/-- A byte from a number. -/
def byteN (n : Nat) : Byte := BitVec.ofNat 8 n

/-- A 16-bit value from a number. -/
def halfN (n : Nat) : Half := BitVec.ofNat 16 n

/-- A 32-bit value from a number. -/
def wordN (n : Nat) : Word := BitVec.ofNat 32 n

/-- A 1-bit flag as a byte. -/
def flagByte (b : Bool) : Byte := if b then 1#8 else 0#8

/-- The bytes of a 16-bit value, low-order first. -/
def bytesOfHalf (h : Half) : List Byte := [loByte h, hiByte h]

/-- The bytes of a 32-bit value, low-order first. -/
def bytesOfWord (w : Word) : List Byte := [byteOf w 0, byteOf w 1, byteOf w 2, byteOf w 3]

/-- Bytes at ascending addresses packed into words; a last word that is cut short is filled with 0. -/
def packBytes : List Byte → List Word
  | b0 :: b1 :: b2 :: b3 :: rest => wordOfBytes b0 b1 b2 b3 :: packBytes rest
  | [] => []
  | [b0] => [wordOfBytes b0 0#8 0#8 0#8]
  | [b0, b1] => [wordOfBytes b0 b1 0#8 0#8]
  | [b0, b1, b2] => [wordOfBytes b0 b1 b2 0#8]

/-! ## The plan record (10.2) -/

/-- The fields of a plan record as read (10.2). A control field of 0xFFFF is absent. -/
structure PlanFields where
  voiceBase      : Nat
  mailboxBase    : Nat
  orderBase      : Nat
  completionBase : Nat
  control        : List Nat
  source         : Nat
  tAw            : Nat
  challengeStart : Half
  period         : Nat
  lockout        : Nat
  rekeyInterval  : Nat
  challengeLimit : Nat
  signature      : Word
  deriving DecidableEq, Repr

/-- The present control endpoint fields among four (R177). -/
def presentControl (fs : List Half) : List Nat :=
  (fs.filter fun f => f ≠ 0xFFFF#16).map BitVec.toNat

/-- The plan record's fields from its 16 words (10.2, R177). -/
def planFields (ws : List Word) : PlanFields :=
  { voiceBase := (wordAt ws 1).toNat
    mailboxBase := (wordAt ws 2).toNat
    orderBase := (wordAt ws 3).toNat
    completionBase := (wordAt ws 4).toNat
    control := presentControl
      [loHalf (wordAt ws 5), hiHalf (wordAt ws 5), loHalf (wordAt ws 6), hiHalf (wordAt ws 6)]
    source := (byteOf (wordAt ws 7) 0).toNat
    tAw := (byteOf (wordAt ws 7) 1).toNat
    challengeStart := hiHalf (wordAt ws 7)
    period := (wordAt ws 8).toNat
    lockout := (loHalf (wordAt ws 9)).toNat
    rekeyInterval := (hiHalf (wordAt ws 9)).toNat
    challengeLimit := (byteOf (wordAt ws 10) 0).toNat
    signature := wordAt ws 15 }

/-- The outcome of a validation (R3, R4): TAKEN, BUSY, or INVALID with its reason. -/
inductive PlanOutcome where
  | taken | busy
  | signature | alignment | range | controlList | overlap | fault
  deriving DecidableEq, Repr

/-- The outcome byte of the plan status word (10.2). -/
def PlanOutcome.code : PlanOutcome → Byte
  | .taken => 1#8
  | .busy => 3#8
  | .signature => 2#8
  | .alignment => 2#8
  | .range => 2#8
  | .controlList => 2#8
  | .overlap => 2#8
  | .fault => 2#8

/-- The reason byte of the plan status word, 0 unless INVALID (10.2, R177). -/
def PlanOutcome.reason : PlanOutcome → Byte
  | .taken => 0#8
  | .busy => 0#8
  | .signature => 1#8
  | .alignment => 2#8
  | .range => 3#8
  | .controlList => 4#8
  | .overlap => 5#8
  | .fault => 6#8

/-- The plan status word (R6, 10.2). -/
def planStatusWord (o : PlanOutcome) (count : Half) : Word :=
  wordOfBytes o.code o.reason (loByte count) (hiByte count)

/-! ## Order entries (10.4) -/

/-- An order as its entry gives it, its fields not yet checked (10.4). unknown is an entry whose kind
code names no order. -/
inductive Order where
  | unknown (kind : Byte)
  | openCall (call : Half) (count level : Byte) (e0 e1 e2 e3 : Half) (key : Key)
  | addMember (call ep : Half)
  | dropMember (call ep : Half)
  | closeCall (call : Half)
  | rekeyNow (call : Half) (level : Byte)
  | setTiming (source : Byte) (period : Word)
  | setEndpoint (ep : Half) (role order : Byte)
  | setDirectory (index : Half) (enabled : Byte) (number : Word) (secret : Key)
  | revoke (ep : Half)
  | unlock (index : Half)
  | report (kind : Byte) (first count : Half) (buffer : Word)
  | restart
  deriving DecidableEq, Repr

/-- The kind codes that name an order (10.4). -/
def orderKindCodes : List Byte :=
  [0x01#8, 0x02#8, 0x03#8, 0x04#8, 0x05#8, 0x10#8, 0x20#8, 0x21#8, 0x22#8, 0x23#8, 0x30#8, 0x3F#8]

/-- The order in the 8 words of an order entry (10.4). -/
def decodeOrder (ws : List Word) : Order :=
  let w := wordAt ws
  let kind := byteOf (w 0) 0
  if kind = 0x01#8 then
    .openCall (loHalf (w 1)) (byteOf (w 1) 2) (byteOf (w 1) 3)
      (loHalf (w 2)) (hiHalf (w 2)) (loHalf (w 3)) (hiHalf (w 3)) (keyOf (w 4) (w 5))
  else if kind = 0x02#8 then .addMember (loHalf (w 1)) (loHalf (w 2))
  else if kind = 0x03#8 then .dropMember (loHalf (w 1)) (loHalf (w 2))
  else if kind = 0x04#8 then .closeCall (loHalf (w 1))
  else if kind = 0x05#8 then .rekeyNow (loHalf (w 1)) (byteOf (w 1) 3)
  else if kind = 0x10#8 then .setTiming (byteOf (w 1) 0) (w 2)
  else if kind = 0x20#8 then .setEndpoint (loHalf (w 2)) (byteOf (w 2) 2) (byteOf (w 2) 3)
  else if kind = 0x21#8 then
    .setDirectory (loHalf (w 1)) (byteOf (w 1) 2) (w 2) (keyOf (w 4) (w 5))
  else if kind = 0x22#8 then .revoke (loHalf (w 2))
  else if kind = 0x23#8 then .unlock (loHalf (w 1))
  else if kind = 0x30#8 then
    .report (byteOf (w 1) 0) (hiHalf (w 1)) (loHalf (w 2)) (w 3)
  else if kind = 0x3F#8 then .restart
  else .unknown kind

/-! ## Completion entries (10.5) -/

/-- The kind byte of a completion (10.5). -/
def CompKind.code : CompKind → Byte
  | .order => 0#8
  | .callEmptied => 1#8
  | .admitted => 2#8
  | .deadmitted => 3#8
  | .syncLost => 4#8
  | .syncRegained => 5#8
  | .slip => 6#8
  | .memoryFault => 7#8

/-- The status byte of a completion (10.5); code 9 is not used. -/
def Status.code : Status → Byte
  | .done => 0#8
  | .badOrder => 1#8
  | .noCall => 2#8
  | .callTaken => 3#8
  | .notEligible => 4#8
  | .listFull => 5#8
  | .callFull => 6#8
  | .noRing => 7#8
  | .inCall => 8#8
  | .busy => 10#8
  | .fault => 11#8

/-- The subject kind byte of a completion (10.5). -/
def CompSubject.code : CompSubject → Byte
  | .none => 0#8
  | .call _ => 1#8
  | .endpoint _ => 2#8
  | .entry _ => 3#8

/-- The subject field of a completion, all ones when absent (10.5, 10.7). -/
def CompSubject.value : CompSubject → Half
  | .none => 0xFFFF#16
  | .call n => n
  | .endpoint n => n
  | .entry n => n

/-- The four words of a completion entry (10.5). -/
def completionWords (c : Completion) : List Word :=
  [ wordOfBytes c.kind.code c.status.code (loByte c.seq) (hiByte c.seq),
    wordOfBytes c.subject.code (byteN c.repeats) (loByte c.subject.value) (hiByte c.subject.value),
    wordOfBytes (c.data.getD 0 0#8) (c.data.getD 1 0#8) (c.data.getD 2 0#8) (c.data.getD 3 0#8),
    wordOfBytes (byteN c.data.length) 0#8 0#8 0#8 ]

/-- The reasons of DEADMITTED (10.5). -/
inductive Reason where
  | moved | resigned | role | directory | revoked
  deriving DecidableEq, Repr

/-- The reason byte of DEADMITTED (10.5). -/
def Reason.code : Reason → Byte
  | .moved => 1#8
  | .resigned => 2#8
  | .role => 3#8
  | .directory => 4#8
  | .revoked => 5#8

/-- The data of MEMORY-FAULT for a faulted self-write: its source, and the slot for the mailbox
sources (10.5); none for the accesses whose fault raises no such notice (R174). -/
def SelfSource.faultData : SelfSource → Option (List Byte)
  | .consumedCount => some [1#8]
  | .completionEntry _ _ => some [2#8]
  | .completionCount => some [3#8]
  | .mirror m => some [4#8, byteN m.val]
  | .challenge m => some [5#8, byteN m.val]
  | .verdict m => some [6#8, byteN m.val]
  | .claimClear m => some [7#8, byteN m.val]
  | .planStatus => some [8#8]
  | .anchorRead => none
  | .orderFetch => none
  | .report => none
  | .requestRead _ => none
  | .answerRead _ => none

/-! ## Mailbox words (10.6) -/

/-- The slot state byte of the state mirror (10.1). -/
def SlotState.code : SlotState → Byte
  | .free => 0#8
  | .claimed => 1#8
  | .requested => 2#8
  | .challenged => 3#8
  | .answered => 4#8
  | .decided => 5#8

/-- The state mirror word (10.6). -/
def mirrorWord (st : SlotState) (aged : Bool) : Word := wordOfBytes st.code (flagByte aged) 0#8 0#8

/-- Verdict codes (10.6). -/
def VerdictCode.code : VerdictCode → Word
  | .admitted => 1#32
  | .wrong => 2#32
  | .locked => 3#32
  | .noEntry => 4#32
  | .already => 5#32
  | .inUse => 6#32
  | .inCall => 7#32
  | .resigned => 8#32
  | .timeout => 9#32
  | .fault => 10#32

/-- The verdict code and detail words (10.6). -/
def verdictWords (v : Verdict) : List Word := [v.code.code, v.detail]

/-- What an ADMIT request's two words name (10.6, R179): directory index, extension number, and
whether the byte order is BE. -/
structure RequestWords where
  index     : Nat
  number    : Nat
  bigEndian : Bool
  deriving DecidableEq, Repr

/-- The request words of a slot, at offsets 8 and 12 (10.6, R179). -/
def requestWords (ws : List Word) : RequestWords :=
  { index := (loHalf (wordAt ws 0)).toNat
    number := (wordAt ws 1).toNat
    bigEndian := (byteOf (wordAt ws 0) 2).getLsbD 0 }

/-! ## Codes of report records (10.1) -/

/-- Role codes. -/
def Role.code : Role → Byte
  | .unused => 0#8
  | .station => 1#8
  | .trunk => 2#8
  | .control => 3#8

/-- Violation kind codes. -/
def Violation.code : Violation → Byte
  | .shape => 0#8
  | .window => 1#8
  | .foreign => 2#8
  | .partialSample => 3#8
  | .mailbox => 4#8

/-- Call state codes. -/
def CallState.code : CallState → Byte
  | .free => 0#8
  | .opened => 1#8
  | .closing => 2#8

/-- Lane state codes. -/
def LaneState.code : LaneState → Byte
  | .empty => 0#8
  | .expanding => 1#8
  | .ready => 2#8

/-- Timing state codes. -/
def TimingState.code : TimingState → Byte
  | .internal => 0#8
  | .externalLocked => 1#8
  | .externalLost => 2#8

/-- The part state code; only PLANNED has one in the manual (log 16). -/
def PartState.code : PartState → Byte
  | .planned => 1#8
  | .unplanned => Config.unplannedCode
  | .quiescing => Config.quiescingCode

/-- An optional number in a one-byte field, all ones when absent (10.7). -/
def optByte (o : Option Nat) : Byte :=
  match o with
  | some n => byteN n
  | none => 0xFF#8

/-- An optional number in a two-byte field, all ones when absent (10.7). -/
def optHalf (o : Option Nat) : Half :=
  match o with
  | some n => halfN n
  | none => 0xFFFF#16

/-! ## Report records (10.7) -/

/-- The 16 bytes of an ENDPOINTS record. -/
def endpointRecord (e : EndpointRec) : List Byte :=
  [e.role.code, flagByte e.admitted.isSome]
    ++ bytesOfHalf (optHalf (e.admitted.map Fin.val))
    ++ bytesOfHalf (halfN e.shortFrames)
    ++ [flagByte e.bigEndian, optByte (e.call.map Fin.val), optByte (e.slot.map Fin.val),
        (match e.lastViolation with | some v => v.code | none => 0xFF#8),
        byteN e.shapeCount, byteN e.windowCount, byteN e.foreignCount, byteN e.partialCount,
        byteN e.mailboxCount, 0#8]

/-- A member's four bytes in a CALL report; all ones beyond the member count. -/
def memberBytes (o : Option Member) : List Byte :=
  match o with
  | some m => bytesOfHalf (halfN m.ep.val) ++ [byteN m.ring.val, 0#8]
  | none => [0xFF#8, 0xFF#8, 0xFF#8, 0xFF#8]

/-- A pending switch's eight bytes in a CALL report; all ones beyond the switch count. -/
def switchBytes (o : Option Switch) : List Byte :=
  match o with
  | some w =>
    [if w.isAdd then 1#8 else 2#8, 0#8] ++ bytesOfHalf (halfN w.ep.val) ++ bytesOfHalf w.seq
      ++ [0#8, 0#8]
  | none => [0xFF#8, 0xFF#8, 0xFF#8, 0xFF#8, 0xFF#8, 0xFF#8, 0xFF#8, 0xFF#8]

/-- The 64 bytes of a CALL report. -/
def callRecord (n : CallNo) (c : Call) : List Byte :=
  [byteN n.val, c.state.code, byteN c.members.length, byteN c.comfort.val]
    ++ bytesOfWord c.frame
    ++ bytesOfHalf c.epoch ++ [flagByte c.prev.isSome, flagByte c.next.isSome]
    ++ bytesOfWord (match c.prev with | some p => p.advance | none => 0xFFFFFFFF#32)
    ++ bytesOfHalf (halfN c.countdown) ++ [byteN c.debt, flagByte c.rekeyNow]
    ++ [optByte (c.lane.map Fin.val), flagByte c.closeSeq.isSome]
    ++ bytesOfHalf (c.closeSeq.getD 0xFFFF#16)
    ++ memberBytes c.members[0]? ++ memberBytes c.members[1]?
    ++ memberBytes c.members[2]? ++ memberBytes c.members[3]?
    ++ [byteN c.switches.length, 0#8, 0#8, 0#8]
    ++ switchBytes c.switches[0]? ++ switchBytes c.switches[1]?
    ++ [0#8, 0#8, 0#8, 0#8]

/-- A lane's four bytes in a SUMMARY report. A detached lane has no subject (R98). -/
def laneBytes (l : Lane) : List Byte :=
  match l.subject with
  | none => [l.state.code, 0#8, 0xFF#8, 0xFF#8]
  | some (.call c) => [l.state.code, 1#8] ++ bytesOfHalf (halfN c.val)
  | some (.entry d) => [l.state.code, 2#8] ++ bytesOfHalf (halfN d.val)

end Sys2Proof.Machine
end

