-- ==== Sys2Proof/Machine/Scramble.lean ====
section
/-! DEFINITION. The scrambling transform (chapter 4): the generator G and each use made of it. All
arithmetic on half words wraps mod 65536. -/

namespace Sys2Proof.Machine

open Sys2Proof

/-- The generator G(K, n, d) (R62). -/
def gen (k : Key) (n d : Half) : Half :=
  let p := n + k.k0
  let q := n ^^^ k.k1 ^^^ d
  let P := p * 40693#16 + k.k2
  let Q := q * 36969#16 + k.k3
  P ^^^ swapBytes Q

/-- The domain of the samples and the permutation of ring r: both bytes equal r (R64). -/
def ringDomain (r : RingNo) : Half := halfN (r.val * 257)

/-- The domain of comfort samples (R64). -/
def comfortDomain : Half := 0x3CC3#16

/-- The domain of rekey derivation (R64). -/
def rekeyDomain : Half := 0x5A3C#16

/-- The domain of admission answers (R64). -/
def answerDomain : Half := 0xC3A5#16

/-- The counter n(F, j) of a position (R65). -/
def counter (frame : Word) (j : Nat) : Half := halfN (frame.toNat * 168 + j)

/-- The output word z of sample j of a frame of ring r (R67). -/
def sampleOut (k : Key) (frame : Word) (r : RingNo) (j : Nat) : Half :=
  gen k (counter frame j) (ringDomain r)

/-- Scrambling of a sample's pattern x (R67). -/
def scramble (k : Key) (frame : Word) (r : RingNo) (j : Nat) (x : Half) : Half :=
  x + sampleOut k frame r j

/-- Descrambling of a stored pattern y (R68). -/
def descramble (k : Key) (frame : Word) (r : RingNo) (j : Nat) (y : Half) : Half :=
  y - sampleOut k frame r j

/-- The eight permutation values of a frame of a ring (R69). -/
def permValue (k : Key) (frame : Word) (r : RingNo) (s : Nat) : Half :=
  gen k (counter frame (160 + s)) (ringDomain r)

/-- The rank of value s among eight values, equal values in ascending order of index (R69). -/
def rankOf (v : Nat → Half) (s : Nat) : Nat :=
  ((List.range 8).filter fun u => decide (v u < v s) || (decide (u < s) && decide (v u = v s))).length

/-- The segment permutation π of a frame of a ring (R69). -/
def segPlace (k : Key) (frame : Word) (r : RingNo) (s : Nat) : Nat :=
  rankOf (permValue k frame r) s

/-- The comfort sample of a position, as a pattern (R71): an arithmetic shift right by 12 − L. -/
def comfortSample (k : Key) (frame : Word) (j : Nat) (level : Fin 8) : Half :=
  if level = 0 then 0#16
  else (gen k (counter frame j) comfortDomain).sshiftRight (12 - level.val)

/-- The key of epoch E + 1 from the key of epoch E (R73). -/
def deriveKey (k : Key) (epoch : Half) : Key :=
  let w := fun i => gen k (halfN (epoch.toNat * 168 + i)) rekeyDomain
  { k0 := w 0, k1 := w 1, k2 := w 2, k3 := w 3 }

/-- The two words expected in answer to a challenge (R75). -/
def expectedAnswer (secret : Key) (challenge : Half) : Half × Half :=
  (gen secret challenge answerDomain, gen secret (challenge + 1#16) answerDomain)

/-- A sample's value as an endpoint of the given byte order sends or receives it (R58). The exchange
of the two bytes is its own inverse, so the same operation serves both directions. -/
def convertOrder (bigEndian : Bool) (x : Half) : Half := if bigEndian then swapBytes x else x

end Sys2Proof.Machine
end

