-- ==== Sys2Proof/Machine/Tables.lean ====
section
/-! DEFINITION. Walks over a table: change every entry, and list the entries that satisfy a test. Both
are structural recursions on the table's list, so that they evaluate in one walk. -/

namespace Sys2Proof.Machine

/-- The table with every entry changed. -/
def mapTab {α : Type} {n : Nat} (f : α → α) (v : Vector α n) : Vector α n :=
  ⟨⟨v.toArray.toList.map f⟩, by simp⟩

/-- The positions, from i upward, of the elements of a list that satisfy a test. -/
def idxsFrom {α : Type} (n : Nat) (p : α → Bool) : Nat → List α → List (Fin n)
  | _, [] => []
  | i, x :: xs =>
    if h : i < n then
      if p x then ⟨i, h⟩ :: idxsFrom n p (i + 1) xs else idxsFrom n p (i + 1) xs
    else []

/-- The numbers of the entries of a table that satisfy a test, in ascending order. -/
def tabIdxs {α : Type} {n : Nat} (p : α → Bool) (v : Vector α n) : List (Fin n) :=
  idxsFrom n p 0 v.toList

end Sys2Proof.Machine
end

