-- ==== Sys2Proof/Machine/Flags.lean ====
section
/-! DEFINITION. The conditions and status levels the rules test: room in the completion ring, ALERT,
a lock in force, a saturating count, a start in the activation window, membership, and the lane
condition. -/

namespace Sys2Proof.Machine

open Sys2Proof

/-- A saturating count one higher, stopping at its maximum (00_scope, Arithmetic). -/
def satSucc (max n : Nat) : Nat := if n < max then n + 1 else max

/-- The plan in force. The blank record stands where there is none (UNPLANNED); no rule consults it
then. -/
def State.thePlan (s : State) : Plan :=
  s.plan.getD
    { voiceBase := 0, mailboxBase := 0, orderBase := 0, completionBase := 0, control := [],
      source := .internal, period := 0, tAw := 0, challengeLimit := 0, lockout := 0,
      rekeyInterval := 0, challengeStart := 0#16 }

/-- The part is PLANNED or QUIESCING: it holds a plan, sorts requests and raises notices. -/
def State.hasPlan (s : State) : Bool :=
  match s.part with
  | .unplanned => false
  | .planned => true
  | .quiescing => true

/-- Completions written and not yet consumed (R170). -/
def Engine.used (e : Engine) : Nat := (e.completionProducer - e.completionConsumer).toNat

/-- The completion ring has room (R170). -/
def Engine.room (e : Engine) : Bool := decide (e.used < Config.completionEntries)

/-- The level of ALERT (R173). -/
def State.alertLevel (s : State) : Bool :=
  s.hasPlan
    && (decide (s.engine.completionProducer ≠ s.engine.completionConsumer)
        || !s.engine.backlog.isEmpty)

/-- A lock of a directory entry is in force: the counter has not reached its locked-until tick
(R142). -/
def DirEntry.lockInForce (d : DirEntry) (counter : Word) : Bool :=
  match d.lock with
  | none => false
  | some u => decide (2147483648 ≤ (counter - u).toNat)

/-- A deadline tick has been reached at the given pass number (R133). -/
def deadlineReached (passNumber deadline : Word) : Bool :=
  decide ((passNumber - deadline).toNat < 2147483648)

/-- An activation started at st is in the window at the instant (R85). -/
def inWindow (tAw : Nat) (now st : Instant) : Bool := decide (now < st + tAw * Config.nsPerUs)

/-- The window has room for another start (R85). -/
def State.windowRoom (s : State) : Bool :=
  decide ((s.starts.filter (inWindow s.thePlan.tAw s.now)).length < Config.windowStarts)

/-- An endpoint is in a call's member list. -/
def Call.hasMember (c : Call) (e : EpNo) : Bool := c.members.any fun m => m.ep = e

/-- The call that owns or drains a ring. -/
def RingState.call? : RingState → Option CallNo
  | .free => none
  | .owned c _ => some c
  | .draining c => some c

/-- A lane's state is READY. -/
def Lane.isReady (l : Lane) : Bool := decide (l.state = .ready)

/-- The READY lane of a call, where it holds one. -/
def State.readyLane (s : State) (c : CallNo) : Option LaneNo :=
  match s.calls[c].lane with
  | none => none
  | some l => if s.lanes[l].isReady then some l else none

/-- The ring a VOICE request addresses, from its offset in VOICE: a ring is 320 words (R45). -/
def Accepted.ring (a : Accepted) : RingNo := ⟨a.off / 320 % 256, Nat.mod_lt _ (by decide)⟩

/-- The first word address of VOICE when a VOICE request was accepted. -/
def Accepted.voiceWord (a : Accepted) : Nat := a.req.addr.toNat - a.off

/-- The 80-word slots a VOICE request touches, by the word address of each (R24, R26). -/
def Accepted.touched (a : Accepted) : List Nat :=
  let first := a.off / 80
  let last := (a.off + a.req.len - 1) / 80
  if first = last then [a.voiceWord + 80 * first]
  else [a.voiceWord + 80 * first, a.voiceWord + 80 * last]

/-- Two VOICE requests touch a common slot (R26). -/
def Accepted.sharesSlot (a b : Accepted) : Bool := a.touched.any fun x => b.touched.contains x

/-- A request goes to the transform unit rather than being forwarded (R20). -/
def Accepted.isVoice (a : Accepted) : Bool := decide (a.region = .voice)

/-- The OPEN call of whose ring's call the request's endpoint is a member, for a VOICE request: the
member case of R47 and the first half of the lane condition (R27). -/
def State.memberCall (s : State) (a : Accepted) : Option CallNo :=
  if a.isVoice then
    match s.rings[a.ring].state.call? with
    | none => none
    | some c =>
      if s.calls[c].state = .opened && s.calls[c].hasMember a.req.ep then some c else none
  else none

/-- The lane condition of a request (R27). -/
def State.laneCondition (s : State) (a : Accepted) : Bool :=
  match s.memberCall a with
  | none => false
  | some c => (s.readyLane c).isNone

/-- The obstacle of R25: an earlier-accepted request of the same endpoint is held. -/
def State.endpointObstacle (s : State) (a : Accepted) : Bool :=
  s.port.hold.any fun h => decide (h.id < a.id) && decide (h.req.ep = a.req.ep)

/-- The obstacle of R26: an earlier-accepted VOICE request that touches a common slot is held or in
transform. -/
def State.slotObstacle (s : State) (a : Accepted) : Bool :=
  (s.port.hold.any fun h => h.isVoice && decide (h.id < a.id) && h.sharesSlot a)
    || (s.port.xforms.any fun x => decide (x.acc.id < a.id) && x.acc.sharesSlot a)

/-- An obstacle of R25 or R26. -/
def State.obstacle (s : State) (a : Accepted) : Bool :=
  s.endpointObstacle a || (a.isVoice && s.slotObstacle a)

/-- A VOICE request may enter transform when a place is free (R28). -/
def State.eligible (s : State) (a : Accepted) : Bool :=
  a.isVoice && !s.obstacle a && !s.laneCondition a

/-- The upstream port accepts a request (R18, R11). -/
def State.accepts (s : State) : Bool :=
  !s.resetLow && s.port.arrival.isNone
    && decide (s.port.hold.length < Config.holdPlaces)
    && decide (s.port.responses.length < Config.responsePlaces)

/-- The ticket of a member request in transform. -/
def Course.ticket : Course → Option Ticket
  | .raw => none
  | .memberRead tk _ _ => some tk
  | .memberWrite tk _ _ => some tk

/-- A member request of the call is in a transform place (R111). -/
def State.inTransform (s : State) (c : CallNo) : Bool :=
  s.port.xforms.any fun x =>
    match x.course.ticket with
    | none => false
    | some tk => decide (tk.call = c)

/-- A ring's mark in the ring free map (R41). -/
def Ring.isFree (r : Ring) : Bool :=
  match r.state with
  | .free => true
  | .owned _ _ => false
  | .draining _ => false

/-- The FREE rings, lowest first: the ring free map (R41, R101). -/
def State.freeRings (s : State) : List RingNo := tabIdxs Ring.isFree s.rings

/-- A call is OPEN (R99). -/
def Call.isOpen (c : Call) : Bool :=
  match c.state with
  | .opened => true
  | .free => false
  | .closing => false

/-- A call is CLOSING (R99). -/
def Call.isClosing (c : Call) : Bool :=
  match c.state with
  | .closing => true
  | .free => false
  | .opened => false

/-- A call is FREE (R99). -/
def Call.isFree (c : Call) : Bool :=
  match c.state with
  | .free => true
  | .opened => false
  | .closing => false

/-- An endpoint may be a member: a TRUNK, or a STATION in state ADMITTED (R102, check 3). -/
def EndpointRec.eligible (e : EndpointRec) : Bool :=
  match e.role with
  | .trunk => true
  | .station => e.admitted.isSome
  | .unused => false
  | .control => false

/-- A blanking interval is in force (R136). -/
def Timer.blanking (t : Timer) : Bool :=
  match t.change with
  | .blanking _ => true
  | .none => false
  | .armed _ _ _ => false
  | .waiting _ => false

end Sys2Proof.Machine
end

