-- ==== Sys2Proof/Machine/Ops.lean ====
section
/-! DEFINITION. The named operations over the state: updates of one record, placing self traffic
(R38), writing completions (R168), raising and delivering notices (R171, R172), deciding responses
(R19) and recording refusals (R23). -/

namespace Sys2Proof.Machine

open Sys2Proof

/-! ## Updates of one record -/

/-- The state at an event that falls at instant t; time does not run back (log 3). -/
def State.atInstant (s : State) (t : Instant) : State := { s with now := max s.now t }

/-- Replace an endpoint record. -/
def State.setEp (s : State) (e : EpNo) (r : EndpointRec) : State :=
  { s with endpoints := s.endpoints.set e r }

/-- Replace a directory entry. -/
def State.setEntry (s : State) (d : EntryNo) (r : DirEntry) : State :=
  { s with directory := s.directory.set d r }

/-- Replace a mailbox slot record. -/
def State.setMbox (s : State) (m : MboxNo) (r : Mbox) : State :=
  { s with mailboxes := s.mailboxes.set m r }

/-- Replace a ring record. -/
def State.setRing (s : State) (r : RingNo) (x : Ring) : State :=
  { s with rings := s.rings.set r x }

/-- Replace a call record. -/
def State.setCall (s : State) (c : CallNo) (x : Call) : State :=
  { s with calls := s.calls.set c x }

/-- Replace a lane record. -/
def State.setLane (s : State) (l : LaneNo) (x : Lane) : State :=
  { s with lanes := s.lanes.set l x }

/-- Replace the timer's record. -/
def State.setTimer (s : State) (x : Timer) : State := { s with timer := x }

/-- Replace the order engine's record. -/
def State.setEngine (s : State) (x : Engine) : State := { s with engine := x }

/-- Replace the ports' record. -/
def State.setPort (s : State) (x : Port) : State := { s with port := x }

/-! ## Self traffic (R38) -/

/-- A self-write of full words. -/
def selfWrite (addr : Nat) (data : List Word) (src : SelfSource) : SelfEntry :=
  { isWrite := true, addr := addr, len := data.length, data := data, src := src }

/-- A self-read. -/
def selfRead (addr len : Nat) (src : SelfSource) : SelfEntry :=
  { isWrite := false, addr := addr, len := len, data := [], src := src }

/-- The queue has places for n entries. -/
def Port.fits (p : Port) (n : Nat) : Bool := decide (p.selfQ.length + n ≤ Config.selfPlaces)

/-- Place the entries of one event together, or wait behind the blocks that asked before (R38). -/
def Port.place (p : Port) (block : Block) (byPass : Bool) (es : List SelfEntry) : Port :=
  if p.waiters.isEmpty && p.fits es.length then { p with selfQ := p.selfQ ++ es }
  else { p with waiters := p.waiters ++ [.entries block byPass es] }

/-- Place the entries of one event for a block. -/
def State.place (s : State) (block : Block) (byPass : Bool) (es : List SelfEntry) : State :=
  s.setPort (s.port.place block byPass es)

/-- The scan pass waits for a place in the queue (R129). Entries of a pass that a taking or UNPLANNED
ended keep their mark until they are placed, so a pass started later waits for them too. DESIGN CHOICE
(log 41). -/
def Port.passWaits (p : Port) : Bool :=
  p.waiters.any fun w =>
    match w with
    | .entries _ byPass _ => byPass
    | .reportWrite => false

/-! ## Completions (R168) -/

/-- The self-writes of a completion: its entry, then the new producer count (R168, 10.3). -/
def completionWrites (base : Nat) (producer : Half) (c : Completion) (restart : Bool) :
    List SelfEntry :=
  [ selfWrite (base / 4 + 4 * (producer.toNat % Config.completionEntries)) (completionWords c)
      (.completionEntry c.kind restart),
    selfWrite (base / 4 + 256) [wordOfHalves (producer + 1#16) 0#16] .completionCount ]

/-- Write a completion: it takes its entry, the producer count rises, and the two self-writes are
placed together (R168). The writer has tested for room. -/
def State.writeCompletion (s : State) (block : Block) (byPass : Bool) (c : Completion)
    (restart : Bool := false) : State :=
  let p := s.engine.completionProducer
  (s.setEngine { s.engine with completionProducer := p + 1#16 }).place block byPass
    (completionWrites s.thePlan.completionBase p c restart)

/-- A completion of kind ORDER (R168). -/
def orderCompletion (seq : Half) (status : Status) (subject : CompSubject) (data : List Byte) :
    Completion :=
  { kind := .order, status := status, seq := seq, subject := subject, repeats := 1, data := data }

/-- A notice as a completion (R172). -/
def Notice.completion (n : Notice) : Completion :=
  { kind := n.kind, status := .done, seq := 0#16, subject := n.subject, repeats := n.repeats,
    data := n.data }

/-! ## Notices (R171, R172) -/

/-- A backlog with a notice added as the newest, or merged with the one of its kind (R171). -/
def addNotice (n : Notice) : List Notice → List Notice
  | [] => [n]
  | b :: bs =>
    if b.kind = n.kind then { n with repeats := satSucc 255 b.repeats } :: bs
    else b :: addNotice n bs

/-- Deliver up to fuel notices of the backlog, oldest first, while the ring has room (R172). The pass
does not wait for their entries, though a visit may have raised them. DESIGN CHOICE (log 38). -/
def State.deliverN : Nat → State → State
  | 0, s => s
  | fuel + 1, s =>
    match s.engine.backlog with
    | [] => s
    | n :: rest =>
      if s.engine.room then
        State.deliverN fuel
          ((s.setEngine { s.engine with backlog := rest }).writeCompletion .engine false n.completion)
      else s

/-- Deliver the backlog while the ring has room (R172). -/
def State.deliver (s : State) : State := s.deliverN s.engine.backlog.length

/-- Raise a notice: it enters the backlog, and it is delivered at once if the ring has room (R171,
R172). In UNPLANNED none is raised (R7, R171). -/
def State.raise (s : State) (kind : CompKind) (subject : CompSubject) (data : List Byte) : State :=
  if s.hasPlan then
    (s.setEngine { s.engine with
      backlog := addNotice { kind := kind, subject := subject, data := data, repeats := 1 }
        s.engine.backlog }).deliver
  else s

/-- Raise DEADMITTED for an endpoint (R171). -/
def State.raiseDeadmitted (s : State) (e : EpNo) (r : Reason) : State :=
  s.raise .deadmitted (.endpoint (halfN e.val)) [r.code]

/-! ## The end of an order's execution (R167, R170) -/

/-- The order in execution ends, with no completion written now (R167). -/
def State.endExecution (s : State) : State := s.setEngine { s.engine with inExec := none }

/-- The order in execution ends with a completion: written at once with room and no notice waiting,
else held (R170). -/
def State.finish (s : State) (c : Completion) : State :=
  let s := s.endExecution
  if s.engine.room && s.engine.backlog.isEmpty then s.writeCompletion .engine false c
  else s.setEngine { s.engine with held := some c }

/-- Write the held completion if the backlog is empty and the ring has room (R170, R172). -/
def State.writeHeld (s : State) : State :=
  match s.engine.held with
  | none => s
  | some c =>
    if s.engine.room && s.engine.backlog.isEmpty then
      (s.setEngine { s.engine with held := none }).writeCompletion .engine false c
    else s

/-! ## Responses and refusals (R19, R23) -/

/-- The response order table with the response of a request decided (R19). -/
def decideResponse (id : Nat) (r : Response) (es : List RespEntry) : List RespEntry :=
  es.map fun e => if e.id = id then { e with response := some r } else e

/-- Decide the response of a request (R19). -/
def State.respond (s : State) (id : Nat) (r : Response) : State :=
  s.setPort { s.port with responses := decideResponse id r s.port.responses }

/-- An endpoint's record with a refusal counted and set as its last kind (R23). -/
def EndpointRec.refused (e : EndpointRec) (v : Violation) : EndpointRec :=
  match v with
  | .shape => { e with shapeCount := satSucc 255 e.shapeCount, lastViolation := some v }
  | .window => { e with windowCount := satSucc 255 e.windowCount, lastViolation := some v }
  | .foreign => { e with foreignCount := satSucc 255 e.foreignCount, lastViolation := some v }
  | .partialSample => { e with partialCount := satSucc 255 e.partialCount, lastViolation := some v }
  | .mailbox => { e with mailboxCount := satSucc 255 e.mailboxCount, lastViolation := some v }

/-- Refuse a request: record the violation and decide its response REFUSED (R23). A request accepted
under a plan and refused only after entry to UNPLANNED is recorded as well. DESIGN CHOICE (log 11). -/
def State.refuse (s : State) (a : Accepted) (v : Violation) : State :=
  (s.setEp a.req.ep (s.endpoints[a.req.ep].refused v)).respond a.id .refused

/-! ## Reservations (R143, R144) -/

/-- Clear an endpoint's reservation field. -/
def State.clearReservationField (s : State) (e : EpNo) : State :=
  s.setEp e { s.endpoints[e] with reservation := none }

/-- Clear the reservation fields of the holders listed. -/
def State.clearFields (s : State) : List Reservation → State
  | [] => s
  | r :: rs => (s.clearReservationField r.ep).clearFields rs

/-- Remove the reservations that satisfy p, with their holders' fields (R144). -/
def State.removeReservations (s : State) (p : Reservation → Bool) : State :=
  ({ s with monitor := s.monitor.filter fun r => !p r }).clearFields (s.monitor.filter p)

/-- Remove every reservation (R5, R10). -/
def State.emptyMonitor (s : State) : State := s.removeReservations fun _ => true

/-- The words of a write that it writes at least one byte of (R144). -/
def writtenWords (addr : Nat) : List WriteWord → List Nat
  | [] => []
  | w :: ws => if w.en = 0#4 then writtenWords (addr + 1) ws
      else addr :: writtenWords (addr + 1) ws

/-- A write granted downstream clears every reservation on the words it writes (R144, R39). -/
def State.clearByWrite (s : State) (addr : Nat) (data : List WriteWord) : State :=
  s.removeReservations fun r => (writtenWords addr data).contains r.word

/-- Set a reservation at the grant of a READ-RESERVE (R143). -/
def State.reserve (s : State) (e : EpNo) (word : Nat) : State :=
  let s := s.removeReservations fun r => decide (r.ep = e)
  let s :=
    if s.monitor.length < Config.reservationPlaces then s
    else
      match s.monitor with
      | [] => s
      | old :: rest => State.clearReservationField { s with monitor := rest } old.ep
  State.setEp { s with monitor := s.monitor ++ [{ ep := e, word := word }] } e
    { s.endpoints[e] with reservation := some word }

/-! ## Watched count writes voided (R165, R169) -/

/-- An accepted request whose producer or consumer count write is no event any more. A signature write
stays one, whatever endpoint wrote it and whatever state the part has come to. DESIGN CHOICE (log 39). -/
def Accepted.voidCount (a : Accepted) : Accepted :=
  match a.watch with
  | some (.orderCount _) => { a with watch := none }
  | some (.completionCount _) => { a with watch := none }
  | some .signature => a
  | some (.mailbox _) => a
  | none => a

/-- The same for a request awaiting memory. -/
def Awaiting.voidCount (w : Awaiting) : Awaiting :=
  match w.src with
  | .forwarded a => { w with src := .forwarded a.voidCount }
  | .piece _ _ => w
  | .self _ => w

/-- At a taking and at entry to UNPLANNED, the count writes judged before are no events any more
(R165, R169). A signature write accepted from a CONTROL endpoint under the plan stays an event (R13,
R40). DESIGN CHOICE (log 39). -/
def Port.voidCounts (p : Port) : Port :=
  { p with
    arrival := p.arrival.map Accepted.voidCount
    hold := p.hold.map Accepted.voidCount
    awaiting := p.awaiting.map Awaiting.voidCount }

end Sys2Proof.Machine
end

