-- ==== Sys2Proof/Machine/Lanes.lean ====
section
/-! DEFINITION. Key lanes (chapter 5): the waiting activation requests and their classes, grants by
class and age within the window, eviction and re-expansion, and completions of a call's lane. -/

namespace Sys2Proof.Machine

open Sys2Proof

/-! ## Waiting requests (R80 to R84) -/

/-- A subject's waiting request (R80). -/
def State.waitingFor (s : State) (u : Subject) : Option ActRequest :=
  s.waiting.find? fun r => r.subject = u

/-- Replace the waiting requests. -/
def State.setWaiting (s : State) (w : List ActRequest) : State := { s with waiting := w }

/-- Withdraw a subject's waiting request (R96). -/
def State.withdraw (s : State) (u : Subject) : State :=
  s.setWaiting (s.waiting.filter fun r => r.subject ≠ u)

/-- Change a subject's waiting request. -/
def State.updateWaiting (s : State) (u : Subject) (f : ActRequest → ActRequest) : State :=
  s.setWaiting (s.waiting.map fun r => if r.subject = u then f r else r)

/-- A lane is EXPANDING for the subject. -/
def State.expandingFor (s : State) (u : Subject) : Bool :=
  (List.finRange 8).any fun l =>
    decide (s.lanes[l].state = .expanding) && decide (s.lanes[l].subject = some u)

/-- A lane is EXPANDING for the call with derivation (R82). -/
def State.derivingFor (s : State) (c : CallNo) : Bool :=
  (List.finRange 8).any fun l =>
    decide (s.lanes[l].state = .expanding) && decide (s.lanes[l].subject = some (.call c))
      && (match s.lanes[l].expansion with | some x => x.derives | none => false)

/-- The calls, holding no lane, for which a held request has the lane condition (R27, R81). -/
def State.voiceWants (s : State) : List CallNo :=
  s.port.hold.filterMap fun h =>
    match s.memberCall h with
    | none => none
    | some c => if (s.readyLane c).isNone && s.calls[c].lane.isNone then some c else none

/-- A waiting request with its class brought up to date with the conditions of class VOICE (R81), or
none where it is withdrawn. -/
def State.reclass (s : State) (wants : List CallNo) (r : ActRequest) : Option ActRequest :=
  match r.subject with
  | .entry _ => some r
  | .call c =>
    match r.cls with
    | .voice =>
      if wants.contains c then some r
      else if r.derive_ then
        some { r with cls := if s.calls[c].debt = 8 then .rekeyForced else .rekey, age := s.now }
      else none
    | .rekey => if wants.contains c then some { r with cls := .voice, age := s.now } else some r
    | .rekeyForced => some r
    | .admitAged => some r
    | .admit_ => some r

/-- A VOICE ask for a call that has no waiting request (R81). -/
def State.askVoice (s : State) : List CallNo → State
  | [] => s
  | c :: cs =>
    (if (s.waitingFor (.call c)).isSome then s
     else s.setWaiting (s.waiting ++
      [{ subject := .call c, cls := .voice, age := s.now, derive_ := false, slots := [],
         askTick := 0#32 }])).askVoice cs

/-- The hold queue's asks and the classes of call requests after an event (R27, R81). -/
def State.voiceUpkeep (s : State) : State :=
  let wants := s.voiceWants
  (s.setWaiting (s.waiting.filterMap (s.reclass wants))).askVoice wants

/-- Call logic's ask for a rekey at a visit (R82). -/
def State.askRekey (s : State) (c : CallNo) : State :=
  let forced := decide (s.calls[c].debt = 8)
  if s.derivingFor c then s
  else if (s.waitingFor (.call c)).isSome then
    s.updateWaiting (.call c) fun r =>
      if forced then { r with derive_ := true, cls := .rekeyForced, age := s.now }
      else { r with derive_ := true }
  else
    s.setWaiting (s.waiting ++
      [{ subject := .call c, cls := if forced then .rekeyForced else .rekey, age := s.now,
         derive_ := true, slots := [], askTick := 0#32 }])

/-! ## Granting (R85 to R91) -/

/-- The place of a class in the order of precedence (R87). -/
def ActClass.rank : ActClass → Nat
  | .rekeyForced => 0
  | .voice => 1
  | .admitAged => 2
  | .rekey => 3
  | .admit_ => 4

/-- A subject's place among requests of equal class and age: the lower number, a call before a
directory entry (R87). -/
def Subject.rank : Subject → Nat
  | .call c => 2 * c.val
  | .entry d => 2 * d.val + 1

/-- Request a comes before request b (R87). -/
def ActRequest.before (a b : ActRequest) : Bool :=
  if a.cls.rank ≠ b.cls.rank then decide (a.cls.rank < b.cls.rank)
  else if a.age ≠ b.age then decide (a.age < b.age)
  else decide (a.subject.rank < b.subject.rank)

/-- A request in the arrival stage or the hold queue is a member request of the call (R88). -/
def State.memberWaits (s : State) (c : CallNo) : Bool :=
  let isMember := fun (a : Accepted) =>
    a.isVoice && decide (s.rings[a.ring].state.call? = some c) && s.calls[c].hasMember a.req.ep
  s.port.hold.any isMember || s.port.arrival.any isMember

/-- A lane is evictable (R88). -/
def State.evictable (s : State) (l : LaneNo) : Bool :=
  let x := s.lanes[l]
  decide (x.state = .ready) && decide (x.count = 0)
    && (match x.subject with
        | none => true
        | some u =>
          (s.waitingFor u).isNone
            && (match u with | .call c => !s.memberWaits c | .entry _ => true))

/-- The first element of a list that no later one precedes. -/
def firstBy {α : Type} (before : α → α → Bool) : List α → Option α
  | [] => none
  | x :: xs =>
    match firstBy before xs with
    | none => some x
    | some y => if before y x then some y else some x

/-- The lane for a request that needs one: the lowest EMPTY lane, else the evictable lane with the
oldest last-use stamp, the lower-numbered of equals (R88). -/
def State.freeLane (s : State) : Option LaneNo :=
  match (List.finRange 8).find? fun l => s.lanes[l].state = .empty with
  | some l => some l
  | none =>
    firstBy (fun a b => decide (s.lanes[a].lastUse < s.lanes[b].lastUse))
      ((List.finRange 8).filter s.evictable)

/-- The lane a waiting request would start on, and whether in place; none when it cannot start now
(R87). -/
def State.startLane (s : State) (r : ActRequest) : Option (LaneNo × Bool) :=
  if s.expandingFor r.subject then none
  else
    match r.subject with
    | .entry _ => s.freeLane.map fun l => (l, false)
    | .call c =>
      match s.calls[c].lane with
      | none => s.freeLane.map fun l => (l, false)
      | some l => if r.derive_ && s.lanes[l].isReady then some (l, true) else none

/-- The window's list with a start added; of four, the oldest is dropped (R85). -/
def addStart (starts : List Instant) (t : Instant) : List Instant :=
  (if starts.length < Config.windowStarts then starts else starts.drop 1) ++ [t]

/-- Take a lane from the call that holds it (R89). -/
def State.evict (s : State) (l : LaneNo) : State :=
  match s.lanes[l].subject with
  | some (.call c) => s.setCall c { s.calls[c] with lane := none }
  | some (.entry _) => s
  | none => s

/-- Start an activation on a lane (R89, R90), or in place (R91). -/
def State.start (s : State) (r : ActRequest) (l : LaneNo) (inPlace : Bool) : State :=
  let s := s.withdraw r.subject
  let x : Expansion :=
    { start := s.now, finish := s.now + Config.activationNs, derives := r.derive_,
      slots := r.slots }
  let s := { s with starts := addStart s.starts s.now }
  if inPlace then
    s.setLane l { s.lanes[l] with state := .expanding, expansion := some x }
  else
    let s := s.evict l
    let s := s.setLane l { s.lanes[l] with
      state := .expanding, subject := some r.subject, keys := LaneKeys.blank, count := 0,
      expansion := some x }
    match r.subject with
    | .call c => s.setCall c { s.calls[c] with lane := some l }
    | .entry _ => s

/-- The waiting request that is granted next: the first of those that can start now (R87). -/
def State.nextGrant (s : State) : Option ActRequest :=
  firstBy ActRequest.before (s.waiting.filter fun r => (s.startLane r).isSome)

/-- Grant while the window has room and a request can start, at most fuel times (R87). -/
def State.grantN : Nat → State → State
  | 0, s => s
  | fuel + 1, s =>
    if s.windowRoom && s.hasPlan then
      match s.nextGrant with
      | none => s
      | some r =>
        match s.startLane r with
        | none => s
        | some (l, inPlace) => State.grantN fuel (s.start r l inPlace)
    else s

/-- The arbiter considers grants (R87). A window has room for at most four starts made at one
instant, so four grants are all an event can bring. -/
def State.grantAll (s : State) : State := s.grantN Config.windowStarts

/-! ## A call's lane (R92, R94, R96) -/

/-- The keys the call record holds, as a lane takes them (R92, R94). -/
def Call.laneKeys (c : Call) : LaneKeys :=
  { prev := c.prev.map PrevKey.key, cur := c.key, epoch := some c.epoch, next := c.next,
    secret := none }

/-- A READY lane of the call takes the call record's keys (R94). -/
def State.syncLane (s : State) (c : CallNo) : State :=
  match s.readyLane c with
  | none => s
  | some l => s.setLane l { s.lanes[l] with keys := s.calls[c].laneKeys }

/-- The key a lane holds for an epoch tag, if it holds one (R50, R94). -/
def LaneKeys.forTag (k : LaneKeys) (tag : Half) : Option Key :=
  if k.epoch = some tag then k.cur
  else if k.epoch = some (tag + 1#16) then k.prev
  else none

/-- A lane that goes EMPTY: no subject and no keys; the last-use stamp is kept (R79, R92, R93, R96). -/
def Lane.emptied (l : Lane) : Lane :=
  { l with state := .empty, subject := none, keys := LaneKeys.blank, count := 0, expansion := none }

/-- The derivation at a completion: a derived next key is recorded in the call record, unless one is
held already (R92, R118). -/
def State.derive_ (s : State) (c : CallNo) : State :=
  match s.calls[c].next, s.calls[c].key with
  | none, some k =>
    s.setCall c { s.calls[c] with next := some (deriveKey k s.calls[c].epoch) }
  | none, none => s
  | some _, _ => s

/-- The completion of an activation of a call's lane, or of a detached lane (R92). -/
def State.completeCall (s : State) (l : LaneNo) (x : Expansion) : State :=
  match s.lanes[l].subject with
  | none => s.setLane l s.lanes[l].emptied
  | some (.entry _) => s
  | some (.call c) =>
    let s := if s.calls[c].state = .opened && x.derives then s.derive_ c else s
    s.setLane l { s.lanes[l] with
      state := .ready, keys := s.calls[c].laneKeys, lastUse := s.now, expansion := none }

/-- A call's lane when the call goes FREE: a READY lane goes EMPTY, an EXPANDING one is detached
(R96). -/
def State.releaseLane (s : State) (c : CallNo) : State :=
  match s.calls[c].lane with
  | none => s
  | some l =>
    match s.lanes[l].state with
    | .ready => s.setLane l s.lanes[l].emptied
    | .expanding => s.setLane l { s.lanes[l] with subject := none }
    | .empty => s

/-- A member request raises the counts of its ring and its lane (R59, R95). -/
def State.raiseCounts (s : State) (tk : Ticket) : State :=
  let s := s.setRing tk.ring { s.rings[tk.ring] with count := s.rings[tk.ring].count + 1 }
  s.setLane tk.lane { s.lanes[tk.lane] with count := s.lanes[tk.lane].count + 1 }

/-- The lane's last-use stamp at the leaving of a member request (R95). -/
def State.stampLane (s : State) (l : LaneNo) : State :=
  s.setLane l { s.lanes[l] with lastUse := s.now }

end Sys2Proof.Machine
end

