-- ==== Sys2Proof/Machine/Calls.lean ====
section
/-! DEFINITION. Calls (chapter 6) and the visit of a call (chapter 7): members and rings, the call
orders, the end of a close, switches, the epoch life, and the six points of a visit. -/

namespace Sys2Proof.Machine

open Sys2Proof

/-! ## Rings and members (R42, R43, R44, R101) -/

/-- A call's number as a completion's subject. -/
def callSubject (c : CallNo) : CompSubject := .call (halfN c.val)

/-- A ring given to a member of a call, with the slot of frame W opened under the current epoch and
the other slots EMPTY (R42, R44, R101). -/
def givenRing (c : CallNo) (e : EpNo) (frame : Word) (epoch : Half) : Ring :=
  { state := .owned c e, count := 0,
    slots := (Vector.replicate 4 none).set (frame.toNat % 4)
      (some { frame := frame, tag := epoch, fill := 0#8 }) (Nat.mod_lt _ (by decide)) }

/-- An endpoint joins a call: it enters the member list's end, its call field names the call, and it
is given the ring (R100, R101, R106). -/
def State.join (s : State) (c : CallNo) (e : EpNo) (r : RingNo) : State :=
  let s := s.setCall c { s.calls[c] with
    members := s.calls[c].members ++ [{ ep := e, ring := r }] }
  let s := s.setEp e { s.endpoints[e] with call := some c }
  s.setRing r (givenRing c e s.calls[c].frame s.calls[c].epoch)

/-- Endpoints join with the rings listed, in member order (R101). -/
def State.joinAll (s : State) (c : CallNo) : List (EpNo × RingNo) → State
  | [] => s
  | (e, r) :: rest => (s.join c e r).joinAll c rest

/-- A DRAINING ring whose in-transform count is 0 goes FREE, its slots EMPTY (R43). -/
def State.endRingDrain (s : State) (r : RingNo) : State :=
  match s.rings[r].state with
  | .draining _ => if s.rings[r].count = 0 then s.setRing r Ring.free else s
  | .free => s
  | .owned _ _ => s

/-- A ring goes DRAINING with all four slots EMPTY, and FREE at once if no member request in transform
addresses it (R43). -/
def State.drainRing (s : State) (c : CallNo) (r : RingNo) : State :=
  (s.setRing r { s.rings[r] with
    state := .draining c, slots := Vector.replicate 4 none }).endRingDrain r

/-- The talk ring of a member. -/
def Call.ringOf (c : Call) (e : EpNo) : Option RingNo :=
  (c.members.find? fun m => m.ep = e).map Member.ring

/-- An endpoint leaves its call's member list: its call field is cleared and its ring drains (R107,
R108). -/
def State.leave (s : State) (c : CallNo) (e : EpNo) (r : RingNo) : State :=
  let s := s.setCall c { s.calls[c] with members := s.calls[c].members.filter fun m => m.ep ≠ e }
  let s := s.setEp e { s.endpoints[e] with call := none }
  s.drainRing c r

/-! ## Closing (R109, R110, R111) -/

/-- The requests not yet in transform whose arrival call is c are now requests of a closed call
(R47, R110). -/
def Accepted.close (c : CallNo) (a : Accepted) : Accepted :=
  if a.arrivalCall = some c then { a with closedUnder := true } else a

/-- A call goes CLOSING: its waiting activation request is withdrawn, and the requests that wait for
it lose it (R110, R96). -/
def State.goClosing (s : State) (c : CallNo) : State :=
  let s := s.setCall c { s.calls[c] with state := .closing }
  let s := s.withdraw (.call c)
  s.setPort { s.port with
    arrival := s.port.arrival.map (Accepted.close c)
    hold := s.port.hold.map (Accepted.close c) }

/-- An OPEN call whose member list is empty closes itself and raises CALL-EMPTIED (R109). -/
def State.closeIfEmptied (s : State) (c : CallNo) : State :=
  if s.calls[c].state = .opened && s.calls[c].members.isEmpty then
    (s.goClosing c).raise .callEmptied (callSubject c) []
  else s

/-- The completions that wait for a call's close: NO-CALL for each switch left, then DONE for the
CLOSE-CALL (R111). -/
def Call.closeCompletions (x : Call) (c : CallNo) : List Completion :=
  (x.switches.map fun w => orderCompletion w.seq .noCall (callSubject c) [])
    ++ (match x.closeSeq with
        | none => []
        | some q => [orderCompletion q .done (callSubject c) []])

/-- Write completions in order (R111). The pass does not wait for their entries, though a visit may have
brought the close about. DESIGN CHOICE (log 38). -/
def State.writeAll (s : State) : List Completion → State
  | [] => s
  | c :: cs => (s.writeCompletion .callLogic false c).writeAll cs

/-- The members of a call that goes FREE leave it (R100, R111). -/
def State.clearCalls (s : State) : List Member → State
  | [] => s
  | m :: ms => (s.setEp m.ep { s.endpoints[m.ep] with call := none }).clearCalls ms

/-- The rings OWNED by the call go FREE with their slots EMPTY (R42, R111). -/
def freeOwned (c : CallNo) (r : Ring) : Ring :=
  match r.state with
  | .owned c' _ => if c' = c then Ring.free else r
  | .free => r
  | .draining _ => r

/-- A call goes FREE at the end of its close (R111, R96). -/
def State.freeCall (s : State) (c : CallNo) : State :=
  let s := s.writeAll (s.calls[c].closeCompletions c)
  let s := { s with rings := mapTab (freeOwned c) s.rings }
  let s := s.clearCalls s.calls[c].members
  (s.releaseLane c).setCall c Call.free

/-- A CLOSING call may go FREE: nothing of it is in transform, and the ring has room for its waiting
completions (R111; in QUIESCING it has none, R8, R9). -/
def State.closeReady (s : State) (c : CallNo) : Bool :=
  decide (s.calls[c].state = .closing) && !s.inTransform c
    && decide (s.engine.used + (s.calls[c].closeCompletions c).length ≤ Config.completionEntries)

/-- The end of a call's close, if it may end now (R111). -/
def State.endClose (s : State) (c : CallNo) : State := if s.closeReady c then s.freeCall c else s

/-- The ends of the closes of the calls listed, in that order (log 8). -/
def State.endCloses (s : State) : List CallNo → State
  | [] => s
  | c :: cs => (s.endClose c).endCloses cs

/-! ## The call orders (R102 to R112) -/

/-- The call a number names, where it is one (R178). -/
def callOf (n : Half) : Option CallNo := if h : n.toNat < 128 then some ⟨n.toNat, h⟩ else none

/-- The endpoint a number names, where it is one (R178). -/
def epOf (n : Half) : Option EpNo := if h : n.toNat < 512 then some ⟨n.toNat, h⟩ else none

/-- The directory entry a number names, where it is one. -/
def entryOf (n : Nat) : Option EntryNo := if h : n < 1024 then some ⟨n, h⟩ else none

/-- The checks of OPEN-CALL in order; the first that fails decides (R102). -/
def State.openCallCheck (s : State) (c : CallNo) (eps : List EpNo) : Option Status :=
  if !s.calls[c].isFree then some .callTaken
  else if !decide eps.Nodup then some .notEligible
  else if eps.any fun e => !s.endpoints[e].eligible then some .notEligible
  else if eps.any fun e => s.endpoints[e].call.isSome then some .notEligible
  else if s.freeRings.length < eps.length then some .noRing
  else none

/-- The record of a call just opened, before its members join (R103). -/
def openedCall (interval : Nat) (key : Key) (level : Fin 8) : Call :=
  { Call.free with
    state := .opened, key := some key, countdown := interval, comfort := level }

/-- The rings of a call's members, one data byte each, in member order (10.5). -/
def Call.ringBytes (c : Call) : List Byte := c.members.map fun m => byteN m.ring.val

/-- OPEN-CALL at its execution (R102, R103). -/
def State.doOpenCall (s : State) (seq : Half) (c : CallNo) (eps : List EpNo) (key : Key)
    (level : Fin 8) : State :=
  match s.openCallCheck c eps with
  | some st => s.finish (orderCompletion seq st (callSubject c) [])
  | none =>
    let rings := s.freeRings.take eps.length
    let s := s.setCall c (openedCall s.thePlan.rekeyInterval key level)
    let s := s.joinAll c (eps.zip rings)
    s.finish (orderCompletion seq .done (callSubject c) s.calls[c].ringBytes)

/-- ADD-MEMBER and DROP-MEMBER at their execution (R104). -/
def State.doSwitch (s : State) (seq : Half) (isAdd : Bool) (c : CallNo) (e : EpNo) : State :=
  if s.calls[c].state ≠ .opened then
    s.finish (orderCompletion seq .noCall (callSubject c) [])
  else if 2 ≤ s.calls[c].switches.length then
    s.finish (orderCompletion seq .listFull (callSubject c) [])
  else
    (s.setCall c { s.calls[c] with
      switches := s.calls[c].switches ++ [{ isAdd := isAdd, ep := e, seq := seq }] }).endExecution

/-- CLOSE-CALL at its execution (R110). -/
def State.doCloseCall (s : State) (seq : Half) (c : CallNo) : State :=
  if s.calls[c].state ≠ .opened then
    s.finish (orderCompletion seq .noCall (callSubject c) [])
  else
    ((s.setCall c { s.calls[c] with closeSeq := some seq }).goClosing c).endExecution

/-- REKEY-NOW at its execution (R112). -/
def State.doRekeyNow (s : State) (seq : Half) (c : CallNo) (level : Option (Fin 8)) : State :=
  if s.calls[c].state ≠ .opened then
    s.finish (orderCompletion seq .noCall (callSubject c) [])
  else
    (s.setCall c { s.calls[c] with
      rekeyNow := true, comfort := level.getD s.calls[c].comfort }).finish
        (orderCompletion seq .done (callSubject c) [])

/-! ## Removal on revocation (R108, R109) -/

/-- A revoked endpoint is removed from its call's member list at once (R108). -/
def State.removeMember (s : State) (c : CallNo) (e : EpNo) : State :=
  match s.calls[c].ringOf e with
  | none => s
  | some r => (s.leave c e r).closeIfEmptied c

/-! ## The visit of a call (R113 to R117, R130, R131) -/

/-- Point 2, first half: the previous key is retired at its advance frame plus 3 (R115). -/
def Call.retire (c : Call) : Call :=
  match c.prev with
  | none => c
  | some p => if c.frame = p.advance + 3#32 then { c with prev := none } else c

/-- The epoch advances at this visit: a next key is held and no previous key (R114). -/
def Call.advances (c : Call) : Bool := c.next.isSome && c.prev.isNone

/-- Point 2, second half: the epoch advances (R114). -/
def Call.advance (c : Call) (interval : Nat) : Call :=
  match c.next, c.key, c.prev with
  | some n, some k, none =>
    { c with
      prev := some { key := k, advance := c.frame }, key := some n, next := none,
      epoch := c.epoch + 1#16, countdown := interval, debt := 0, rekeyNow := false }
  | some n, none, none =>
    { c with
      key := some n, next := none, epoch := c.epoch + 1#16, countdown := interval, debt := 0,
      rekeyNow := false }
  | none, _, _ => c
  | some _, _, some _ => c

/-- Points 1 and 2 of a visit on the call record: W rises by 1, then the epoch work (R113, R130). -/
def Call.step12 (c : Call) (interval : Nat) : Call :=
  ({ c with frame := c.frame + 1#32 }).retire.advance interval

/-- The epoch advances at the call's next visit (R114, R116). -/
def Call.willAdvance (c : Call) : Bool := ({ c with frame := c.frame + 1#32 }).retire.advances

/-- Point 3: slot (W mod 4) of a member ring is opened (R44, R130). -/
def Ring.openSlot (r : Ring) (frame : Word) (epoch : Half) : Ring :=
  { r with
    slots := r.slots.set (frame.toNat % 4)
      (some { frame := frame, tag := epoch, fill := 0#8 }) (Nat.mod_lt _ (by decide)) }

/-- Point 3 on every member ring (R130). -/
def State.openSlots (s : State) (frame : Word) (epoch : Half) : List Member → State
  | [] => s
  | m :: ms => (s.setRing m.ring (s.rings[m.ring].openSlot frame epoch)).openSlots frame epoch ms

/-- A ring's slot of the given frame has a clear fill bit (R131). -/
def Ring.isShort (r : Ring) (frame : Word) : Bool :=
  match r.slots[frame.toNat % 4]'(Nat.mod_lt _ (by decide)) with
  | none => false
  | some o => decide (o.frame = frame) && decide (o.fill ≠ 0xFF#8)

/-- Point 4: the short-frame examination of the slot of frame W − 2 on every member ring (R131). -/
def State.examine (s : State) (frame : Word) : List Member → State
  | [] => s
  | m :: ms =>
    (if s.rings[m.ring].isShort frame then
      s.setEp m.ep { s.endpoints[m.ep] with
        shortFrames := satSucc 65535 s.endpoints[m.ep].shortFrames }
     else s).examine frame ms

/-- The checks of an ADD switch at its application (R106). -/
def State.addCheck (s : State) (c : CallNo) (e : EpNo) : Option Status :=
  if !s.endpoints[e].eligible || s.endpoints[e].call.isSome then some .notEligible
  else if 4 ≤ s.calls[c].members.length then some .callFull
  else if s.freeRings.isEmpty then some .noRing
  else none

/-- A completion written by the pass at a switch's application (R105, R129). -/
def State.writeSwitch (s : State) (w : Switch) (c : CallNo) (st : Status) (data : List Byte) :
    State :=
  s.writeCompletion .callLogic true (orderCompletion w.seq st (callSubject c) data)

/-- An ADD switch is applied (R106). -/
def State.applyAdd (s : State) (c : CallNo) (w : Switch) : State :=
  match s.addCheck c w.ep, s.freeRings with
  | none, r :: _ => (s.join c w.ep r).writeSwitch w c .done [byteN r.val]
  | none, [] => s.writeSwitch w c .noRing []
  | some st, _ => s.writeSwitch w c st []

/-- A DROP switch is applied (R107, R109): its completion is written, and then a call that it emptied
raises CALL-EMPTIED (log 36), both before the NO-CALL completions of its close (log 8). That order is
a DESIGN CHOICE. -/
def State.applyDrop (s : State) (c : CallNo) (w : Switch) : State :=
  match s.calls[c].ringOf w.ep with
  | none => s.writeSwitch w c .notEligible []
  | some r => ((s.leave c w.ep r).writeSwitch w c .done [byteN r.val]).closeIfEmptied c

/-- Point 5: the switches are applied in list order while the ring has room and the call is OPEN
(R105, R113). -/
def State.applySwitches : List Switch → CallNo → State → State
  | [], _, s => s
  | w :: ws, c, s =>
    if s.engine.room && decide (s.calls[c].state = .opened) then
      let s := s.setCall c { s.calls[c] with switches := ws }
      State.applySwitches ws c (if w.isAdd then s.applyAdd c w else s.applyDrop c w)
    else s

/-- A rekey is due: the countdown is 0 or the REKEY-NOW flag is set (R116). -/
def Call.rekeyDue (c : Call) : Bool := decide (c.countdown = 0) || c.rekeyNow

/-- Point 6: the countdown, and for a rekey due with no next key the debt and the ask (R116, R117). -/
def State.rekeyWork (s : State) (c : CallNo) (advanced : Bool) : State :=
  let x := s.calls[c]
  let x := if advanced then x else { x with countdown := x.countdown - 1 }
  let s := s.setCall c x
  if x.rekeyDue && x.next.isNone then
    (s.setCall c { x with debt := satSucc 8 x.debt }).askRekey c
  else s

/-- The visit of an OPEN call, points 1 to 6 (R113). -/
def State.visitCall (s : State) (c : CallNo) : State :=
  let advanced := s.calls[c].willAdvance
  let s := (s.setCall c (s.calls[c].step12 s.thePlan.rekeyInterval)).syncLane c
  let x := s.calls[c]
  let s := s.openSlots x.frame x.epoch x.members
  let s := s.examine (x.frame - 2#32) x.members
  let s := State.applySwitches s.calls[c].switches c s
  if s.calls[c].state = .opened then s.rekeyWork c advanced else s

end Sys2Proof.Machine
end

