-- ==== Sys2Proof/Machine/Admission.lean ====
section
/-! DEFINITION. Extension admission (chapter 8): the mailbox slot protocol, its self-writes, failure
counts and locks, the judgement of a MAILBOX request at its grant, the comparison of answers, and the
admission orders. -/

namespace Sys2Proof.Machine

open Sys2Proof

/-! ## The self-writes of a slot change (R146, R179) -/

/-- The word address of word k of slot m's area (10.6). -/
def State.mboxWord (s : State) (m : MboxNo) (k : Nat) : Nat :=
  s.thePlan.mailboxBase / 4 + 16 * m.val + k

/-- The write of the state mirror (R146). -/
def State.mirrorWrite (s : State) (m : MboxNo) : SelfEntry :=
  selfWrite (s.mboxWord m 5) [mirrorWord s.mailboxes[m].state s.mailboxes[m].aged] (.mirror m)

/-- The write of the challenge word (R146). -/
def State.challengeWrite (s : State) (m : MboxNo) (c : Half) : SelfEntry :=
  selfWrite (s.mboxWord m 6) [wordOfHalves c 0#16] (.challenge m)

/-- The write of the verdict words (R146). -/
def State.verdictWrite (s : State) (m : MboxNo) (v : Verdict) : SelfEntry :=
  selfWrite (s.mboxWord m 7) (verdictWords v) (.verdict m)

/-- The write of 0 to the claim word (R146). -/
def State.claimClearWrite (s : State) (m : MboxNo) : SelfEntry :=
  selfWrite (s.mboxWord m 0) [0#32] (.claimClear m)

/-- Write the state mirror again (R84, R83). -/
def State.writeMirror (s : State) (m : MboxNo) : State :=
  s.place .admission false [s.mirrorWrite m]

/-! ## Slots (R145, R146) -/

/-- A slot record that goes FREE: every field absent and the flags clear, but for a watched write in
flight and a self-read outstanding, which are left to finish (R145, R156, R157). -/
def Mbox.freed (x : Mbox) : Mbox := { Mbox.free with inFlight := x.inFlight, selfRead := x.selfRead }

/-- Clear the slot field of a slot's owner (R140). -/
def State.clearOwner (s : State) (m : MboxNo) : State :=
  match s.mailboxes[m].owner with
  | none => s
  | some e => s.setEp e { s.endpoints[e] with slot := none }

/-- A slot goes FREE (R145). -/
def State.freeSlot (s : State) (m : MboxNo) : State :=
  (s.clearOwner m).setMbox m s.mailboxes[m].freed

/-- A slot goes DECIDED with a verdict, its deadline set, its verdict words and mirror written (R146,
R151, R156). -/
def State.decideSlot (s : State) (m : MboxNo) (v : Verdict) : State :=
  let s := s.setMbox m { s.mailboxes[m] with
    state := .decided, verdict := some v, aged := false,
    deadline := some (s.timer.counter + wordN s.thePlan.challengeLimit) }
  s.place .admission false [s.verdictWrite m v, s.mirrorWrite m]

/-- A verdict with no detail (R179). -/
def verdict0 (c : VerdictCode) : Verdict := { code := c, detail := 0#32 }

/-! ## Failures and locks (R142) -/

/-- The ticks remaining of a lock (R151). -/
def DirEntry.ticksLeft (d : DirEntry) (counter : Word) : Word :=
  match d.lock with
  | none => 0#32
  | some u => u - counter

/-- A lock that has ended is removed (R151, R155). -/
def DirEntry.dropEnded (d : DirEntry) (counter : Word) : DirEntry :=
  if d.lockInForce counter then d else { d with lock := none }

/-- A failure locks the entry (R142). -/
def DirEntry.failureLocks (d : DirEntry) (counter : Word) : Bool :=
  !d.lockInForce counter && decide (2 ≤ d.fails)

/-- A failure counted against a directory entry (R142). -/
def DirEntry.fail (d : DirEntry) (counter : Word) (lockout : Nat) : DirEntry :=
  if d.lockInForce counter then d
  else if 2 ≤ d.fails then { d with fails := 0, lock := some (counter + wordN lockout) }
  else { d with fails := d.fails + 1 }

/-- Count a failure against an entry (R142). -/
def State.countFailure (s : State) (d : EntryNo) : State :=
  s.setEntry d (s.directory[d].fail s.timer.counter s.thePlan.lockout)

/-- Count a failure against the entry a slot names, if it names one. -/
def State.countSlotFailure (s : State) (m : MboxNo) : State :=
  match s.mailboxes[m].entry with
  | none => s
  | some d => s.countFailure d

/-! ## Going OUT (R141) -/

/-- An ADMITTED endpoint goes OUT, with both sides of the pair cleared and DEADMITTED raised (R141). -/
def State.deadmit (s : State) (e : EpNo) (r : Reason) : State :=
  match s.endpoints[e].admitted with
  | none => s
  | some d =>
    let s := s.setEp e { s.endpoints[e] with admitted := none }
    let s := s.setEntry d { s.directory[d] with admittedEp := none }
    s.raiseDeadmitted e r

/-! ## Admission checks in the lane bank (R83, R84) -/

/-- Add a slot to a list in which no slot stands twice (R80). -/
def addSlot (m : MboxNo) (l : List MboxNo) : List MboxNo := if l.contains m then l else l ++ [m]

/-- Set a slot's ADMIT-aged flag and write its mirror again (R83, R84). -/
def State.ageSlot (s : State) (m : MboxNo) : State :=
  (s.setMbox m { s.mailboxes[m] with aged := true }).writeMirror m

/-- Age the slots listed (R84). -/
def State.ageSlots (s : State) : List MboxNo → State
  | [] => s
  | m :: ms => (s.ageSlot m).ageSlots ms

/-- The admission controller asks for a check of a slot's entry (R83). -/
def State.askCheck (s : State) (m : MboxNo) : State :=
  match s.mailboxes[m].entry with
  | none => s
  | some d =>
    match s.waitingFor (.entry d) with
    | some r =>
      let s := s.updateWaiting (.entry d) fun r => { r with slots := addSlot m r.slots }
      if r.cls = .admitAged then s.ageSlot m else s
    | none =>
      s.setWaiting (s.waiting ++
        [{ subject := .entry d, cls := .admit_, age := s.now, derive_ := false, slots := [m],
           askTick := s.timer.counter }])

/-- Take a slot out of the waiting request that lists it; a request left with none is withdrawn
(R83). -/
def State.withdrawSlot (s : State) (m : MboxNo) : State :=
  s.setWaiting ((s.waiting.map fun r => { r with slots := r.slots.filter (· ≠ m) }).filter fun r =>
    match r.subject with
    | .call _ => true
    | .entry _ => !r.slots.isEmpty)

/-- A lane with a slot taken out of its expansion's list (R154). -/
def Lane.withoutSlot (m : MboxNo) (l : Lane) : Lane :=
  { l with expansion := l.expansion.map fun x => { x with slots := x.slots.filter (· ≠ m) } }

/-- Take a slot out of the list of an activation in flight (R154). -/
def State.dropFromExpansions (s : State) (m : MboxNo) : State :=
  { s with lanes := mapTab (Lane.withoutSlot m) s.lanes }

/-- A slot stands in a waiting request or in an activation in flight. -/
def State.slotListed (s : State) (m : MboxNo) : Bool :=
  (s.waiting.any fun r => r.slots.contains m)
    || (List.finRange 8).any fun l =>
      match s.lanes[l].expansion with
      | none => false
      | some x => x.slots.contains m

/-- A waiting request 8 or more ticks old becomes ADMIT-AGED; its age does not change (R84). -/
def ActRequest.aged (counter : Word) (r : ActRequest) : ActRequest :=
  if r.cls = .admit_ && decide (8 ≤ (counter - r.askTick).toNat) then { r with cls := .admitAged }
  else r

/-- The slots of the requests that become ADMIT-AGED now (R84). -/
def State.agingSlots (s : State) : List MboxNo :=
  (s.waiting.filter fun r =>
    r.cls = .admit_ && decide (8 ≤ (s.timer.counter - r.askTick).toNat)).flatMap ActRequest.slots

/-- The aging of waiting requests at the rise of the tick counter (R84). -/
def State.ageRequests (s : State) : State :=
  let ms := s.agingSlots
  (s.setWaiting (s.waiting.map (ActRequest.aged s.timer.counter))).ageSlots ms

/-! ## The judgement of a MAILBOX request at its grant (R147 to R150) -/

/-- What a judgement does with a request: it goes downstream (with the mark it records on a slot), or
it is answered. -/
inductive Judgement where
  | allow (mark : Option (MboxNo × Mark))
  | refuse (v : Violation)
  | notReserved
  deriving DecidableEq, Repr

/-- The slot and the word of it that lie at a word offset in MAILBOX (10.6). -/
def mboxAt (off : Nat) : MboxNo × Nat := (⟨off / 16 % 32, Nat.mod_lt _ (by decide)⟩, off % 16)

/-- The go code a word's value names (10.1). -/
def goMark (v : Word) : Option MarkKind :=
  if v = 1#32 then some .goAdmit
  else if v = 2#32 then some .goResign
  else if v = 3#32 then some .goAnswer
  else none

/-- The judgement of a plain WRITE to the claim word: a release (R149). -/
def judgeRelease (x : Mbox) (e : EpNo) (w : WriteWord) : Option Violation :=
  if w.en ≠ 0xF#4 || w.data ≠ 0#32 then some .mailbox
  else
    match x.state with
    | .free => some .mailbox
    | .claimed =>
      if x.owner ≠ some e then some .foreign else if x.inFlight.isSome then some .mailbox else none
    | .challenged =>
      if x.owner ≠ some e then some .foreign else if x.inFlight.isSome then some .mailbox else none
    | .decided =>
      if x.owner ≠ some e then some .foreign else if x.inFlight.isSome then some .mailbox else none
    | .requested => if x.owner ≠ some e then some .foreign else some .mailbox
    | .answered => if x.owner ≠ some e then some .foreign else some .mailbox

/-- The judgement of a go word write (R150). -/
def judgeGo (x : Mbox) (e : EpNo) (w : WriteWord) : Option Violation :=
  if x.owner ≠ some e || x.inFlight.isSome || w.en ≠ 0xF#4 then some .mailbox
  else
    match goMark w.data, x.state with
    | some .goAdmit, .claimed => none
    | some .goResign, .claimed => none
    | some .goAnswer, .challenged => none
    | _, _ => some .mailbox

/-- The judgement of one word of a WRITE to MAILBOX (R147, R179). -/
def judgeWord (x : Mbox) (e : EpNo) (k : Nat) (w : WriteWord) : Option Violation :=
  if k = 0 then judgeRelease x e w
  else if k = 1 then judgeGo x e w
  else if k = 4 then
    if x.owner = some e && x.state = .challenged && x.inFlight.isNone then none else some .mailbox
  else if k = 5 || k = 6 || k = 7 || k = 8 then some .mailbox
  else if x.owner = some e && x.state = .claimed && x.inFlight.isNone then none
  else some .mailbox

/-- The first refusal among the words of a burst, in ascending address order (R147). -/
def State.judgeWords (s : State) (e : EpNo) (off : Nat) : List WriteWord → Option Violation
  | [] => none
  | w :: ws =>
    let (m, k) := mboxAt off
    match judgeWord s.mailboxes[m] e k w with
    | some v => some v
    | none => s.judgeWords e (off + 1) ws

/-- A burst covers a claim word and any other word (R147). -/
def coversClaimAndOther (off len : Nat) : Bool :=
  decide (1 < len) && (List.range len).any fun i => decide ((off + i) % 16 = 0)

/-- The mark that an allowed WRITE records: a release, or the go code of the go word it covers (R149,
R150). -/
def State.writeMark (s : State) (e : EpNo) (off : Nat) : List WriteWord → Option (MboxNo × Mark)
  | [] => none
  | w :: ws =>
    let (m, k) := mboxAt off
    if k = 0 then
      some (m, { kind := .release, ep := e, judged := s.mailboxes[m].state, voided := false })
    else if k = 1 then
      (goMark w.data).map fun g =>
        (m, { kind := g, ep := e, judged := s.mailboxes[m].state, voided := false })
    else s.writeMark e (off + 1) ws

/-- A claim of the endpoint is in flight on the slot (R145). -/
def Mbox.claimOf (x : Mbox) (e : EpNo) : Bool :=
  match x.inFlight with
  | none => false
  | some k => decide (k.kind = .claim) && decide (k.ep = e)

/-- An endpoint has a claim in flight on some slot (R148, R158). -/
def State.claimInFlight (s : State) (e : EpNo) : Bool :=
  s.mailboxes.toList.any fun x => x.claimOf e

/-- The refusals of a claim (R148). -/
def State.claimRefused (s : State) (m : MboxNo) (e : EpNo) (w : WriteWord) : Bool :=
  decide (w.en ≠ 0xF#4) || decide (w.data ≠ wordN (e.val + 1))
    || decide (s.endpoints[e].role ≠ .station)
    || decide (s.mailboxes[m].state ≠ .free) || s.mailboxes[m].inFlight.isSome
    || s.endpoints[e].slot.isSome || s.claimInFlight e
    || decide (s.part = .quiescing)

/-- The judgement of a MAILBOX request at its grant (R147 to R150). For a WRITE-IF-RESERVED, reserved
says whether its endpoint held a reservation on the word before the judgement removed it (R144). -/
def State.judge (s : State) (a : Accepted) (reserved : Bool) : Judgement :=
  let e := a.req.ep
  match a.req.kind with
  | .read => .allow none
  | .readReserve => .allow none
  | .write =>
    if coversClaimAndOther a.off a.req.len then .refuse .mailbox
    else
      match s.judgeWords e a.off a.req.data with
      | some v => .refuse v
      | none => .allow (s.writeMark e a.off a.req.data)
  | .writeIfReserved =>
    if !reserved then .notReserved
    else
      let (m, k) := mboxAt a.off
      match k, a.req.data with
      | 0, w :: _ =>
        if s.claimRefused m e w then .refuse .mailbox
        else .allow (some (m, { kind := .claim, ep := e, judged := .free, voided := false }))
      | _, _ => .refuse .mailbox

/-- An endpoint holds a reservation on a word. -/
def State.holdsReservation (s : State) (e : EpNo) (word : Nat) : Bool :=
  s.monitor.any fun r => decide (r.ep = e) && decide (r.word = word)

/-! ## The slot events (R148 to R150) -/

/-- Clear the in-flight mark of a slot. -/
def State.clearMark (s : State) (m : MboxNo) : State :=
  s.setMbox m { s.mailboxes[m] with inFlight := none }

/-- The claim event (R148). -/
def State.claimEvent (s : State) (m : MboxNo) (k : Mark) : State :=
  if s.mailboxes[m].state = .free && !k.voided then
    let s := s.setMbox m { Mbox.free with
      state := .claimed, owner := some k.ep,
      deadline := some (s.timer.counter + wordN s.thePlan.challengeLimit),
      selfRead := s.mailboxes[m].selfRead }
    let s := s.setEp k.ep { s.endpoints[k.ep] with slot := some m }
    s.place .admission false [s.mirrorWrite m]
  else s

/-- The release event (R149). -/
def State.releaseEvent (s : State) (m : MboxNo) : State :=
  let s := if s.mailboxes[m].state = .challenged then s.countSlotFailure m else s
  let s := s.freeSlot m
  s.place .admission false [s.mirrorWrite m]

/-- The go events ADMIT and RESIGN (R150). -/
def State.goRequestEvent (s : State) (m : MboxNo) (g : GoCode) : State :=
  let s := s.setMbox m { s.mailboxes[m] with
    state := .requested, goCode := some g, deadline := none, selfRead := true }
  s.place .admission false [s.mirrorWrite m, selfRead (s.mboxWord m 2) 2 (.requestRead m)]

/-- The go event ANSWER (R150). -/
def State.goAnswerEvent (s : State) (m : MboxNo) : State :=
  let s := s.setMbox m { s.mailboxes[m] with
    state := .answered, deadline := none, selfRead := true }
  let s := s.place .admission false
    [s.mirrorWrite m, selfRead (s.mboxWord m 4) 1 (.answerRead m)]
  s.askCheck m

/-- The event of an allowed mailbox write that memory answered OK: the mark is cleared, and the event
has its effect if the slot is still in the state the write was judged in, with the writer as owner,
and RESTART has not voided it (R148 to R150, R157). -/
def State.mailboxEvent (s : State) (m : MboxNo) : State :=
  match s.mailboxes[m].inFlight with
  | none => s
  | some k =>
    let s := s.clearMark m
    let stands := decide (s.mailboxes[m].state = k.judged) && !k.voided
      && decide (s.mailboxes[m].owner = some k.ep)
    match k.kind with
    | .claim => s.claimEvent m k
    | .release => if stands then s.releaseEvent m else s
    | .goAdmit => if stands then s.goRequestEvent m .admit_ else s
    | .goResign => if stands then s.goRequestEvent m .resign else s
    | .goAnswer => if stands then s.goAnswerEvent m else s

/-! ## The self-reads (R151, R152, R154) -/

/-- A RESIGN is decided (R151). -/
def State.decideResign (s : State) (m : MboxNo) (e : EpNo) : State :=
  match s.endpoints[e].call with
  | some c => s.decideSlot m { code := .inCall, detail := wordN c.val }
  | none => (s.deadmit e .resigned).decideSlot m (verdict0 .resigned)

/-- An ADMIT that passes its checks is challenged (R152). -/
def State.challengeSlot (s : State) (m : MboxNo) (d : EntryNo) (r : RequestWords) : State :=
  let c := s.challengeCtr
  let s := { s with challengeCtr := c + 1#16 }
  let s := s.setMbox m { s.mailboxes[m] with
    state := .challenged, entry := some d, number := some r.number, bigEndian := some r.bigEndian,
    challenge := some c,
    deadline := some (s.timer.counter + wordN s.thePlan.challengeLimit) }
  s.place .admission false [s.challengeWrite m c, s.mirrorWrite m]

/-- An ADMIT is checked, and decided or challenged (R151, R152). -/
def State.decideAdmit (s : State) (m : MboxNo) (e : EpNo) (r : RequestWords) : State :=
  match entryOf r.index with
  | none => s.decideSlot m (verdict0 .noEntry)
  | some d =>
    let x := s.directory[d]
    if !x.enabled || x.number ≠ r.number then s.decideSlot m (verdict0 .noEntry)
    else if x.lockInForce s.timer.counter then
      s.decideSlot m { code := .locked, detail := x.ticksLeft s.timer.counter }
    else
      let s := s.setEntry d (x.dropEnded s.timer.counter)
      match s.endpoints[e].admitted with
      | some d' => s.decideSlot m { code := .already, detail := wordN d'.val }
      | none => s.challengeSlot m d r

/-- The return of the request words' self-read (R151, R157). -/
def State.requestReturn (s : State) (m : MboxNo) (a : Answer) : State :=
  let s := s.setMbox m { s.mailboxes[m] with selfRead := false }
  if s.mailboxes[m].state ≠ .requested then s
  else
    match a, s.mailboxes[m].owner, s.mailboxes[m].goCode with
    | .ok _, some e, some .resign => s.decideResign m e
    | .ok ws, some e, some .admit_ => s.decideAdmit m e (requestWords ws)
    | .ok _, _, _ => s
    | .fault, _, _ => s.decideSlot m (verdict0 .fault)
    | .notReserved, _, _ => s

/-- The return of the answer words' self-read (R154, R157). -/
def State.answerReturn (s : State) (m : MboxNo) (a : Answer) : State :=
  let s := s.setMbox m { s.mailboxes[m] with selfRead := false }
  if s.mailboxes[m].state ≠ .answered then s
  else
    match a with
    | .ok ws =>
      let s := s.setMbox m { s.mailboxes[m] with
        answer := some (loHalf (wordAt ws 0), hiHalf (wordAt ws 0)) }
      if s.slotListed m then s else s.askCheck m
    | .fault => ((s.withdrawSlot m).dropFromExpansions m).decideSlot m (verdict0 .fault)
    | .notReserved => s

/-! ## The comparison (R155) -/

/-- The owner of a slot is admitted at an entry (R155, step 4). -/
def State.admitOwner (s : State) (m : MboxNo) (d : EntryNo) (e : EpNo) : State :=
  let s :=
    match s.directory[d].admittedEp with
    | none => s
    | some o => if o = e then s else s.deadmit o .moved
  let s := s.setEp e { s.endpoints[e] with
    admitted := some d,
    bigEndian := s.mailboxes[m].bigEndian.getD s.endpoints[e].bigEndian }
  let s := s.setEntry d { s.directory[d] with admittedEp := some e, fails := 0 }
  let s := s.decideSlot m { code := .admitted, detail := wordN d.val }
  s.raise .admitted (.endpoint (halfN e.val)) []

/-- The endpoint, other than the owner, that the entry names and whose record names a call (R155,
step 3). -/
def State.inUseBy (s : State) (d : EntryNo) (e : EpNo) : Option EpNo :=
  match s.directory[d].admittedEp with
  | none => none
  | some o => if o ≠ e && s.endpoints[o].call.isSome then some o else none

/-- A ready slot of an entry's activation is decided (R155). -/
def State.compareSlot (s : State) (d : EntryNo) (m : MboxNo) : State :=
  let x := s.directory[d]
  let b := s.mailboxes[m]
  match b.state, b.selfRead, b.answer, b.challenge, b.owner with
  | .answered, false, some ans, some c, some e =>
    if !x.enabled || some x.number ≠ b.number then s.decideSlot m (verdict0 .noEntry)
    else if x.lockInForce s.timer.counter then
      s.decideSlot m { code := .locked, detail := x.ticksLeft s.timer.counter }
    else
      let s := s.setEntry d (x.dropEnded s.timer.counter)
      if expectedAnswer x.secret c ≠ ans then
        let locks := s.directory[d].failureLocks s.timer.counter
        let s := s.countFailure d
        if locks then s.decideSlot m { code := .locked, detail := wordN s.thePlan.lockout }
        else s.decideSlot m { code := .wrong, detail := wordN s.directory[d].fails }
      else
        match s.inUseBy d e with
        | some o => s.decideSlot m { code := .inUse, detail := wordN o.val }
        | none => s.admitOwner m d e
  | _, _, _, _, _ => s

/-- The ready slots of the list are decided in list order (R93, R155). -/
def State.compareSlots (s : State) (d : EntryNo) : List MboxNo → State
  | [] => s
  | m :: ms => (s.compareSlot d m).compareSlots d ms

/-- The completion of an activation of a directory entry (R93). -/
def State.completeEntry (s : State) (l : LaneNo) (d : EntryNo) (x : Expansion) : State :=
  let s := s.compareSlots d x.slots
  s.setLane l s.lanes[l].emptied

/-! ## Deadlines (R133, R156) -/

/-- A slot carries a deadline that the pass number has reached (R133). -/
def Mbox.expired (x : Mbox) (passNumber : Word) : Bool :=
  match x.state, x.deadline with
  | .claimed, some d => deadlineReached passNumber d
  | .challenged, some d => deadlineReached passNumber d
  | .decided, some d => deadlineReached passNumber d
  | _, _ => false

/-- A slot expires: it goes FREE, with the self-writes of its state, and from CHALLENGED a failure is
counted (R133, R146, R156). -/
def State.expireSlot (s : State) (m : MboxNo) : State :=
  let timedOut := decide (s.mailboxes[m].state ≠ .decided)
  let s := if s.mailboxes[m].state = .challenged then s.countSlotFailure m else s
  let s := s.freeSlot m
  s.place .admission true
    ((if timedOut then [s.verdictWrite m (verdict0 .timeout)] else [])
      ++ [s.claimClearWrite m, s.mirrorWrite m])

/-- A slot's check in the slot phase (R133). -/
def State.checkSlot (s : State) (m : MboxNo) (passNumber : Word) : State :=
  if s.mailboxes[m].expired passNumber then s.expireSlot m else s

/-! ## The admission orders (R158 to R161) -/

/-- The role a code names, CONTROL included (10.1). -/
def roleOf (code : Byte) : Option Role :=
  if code = 0#8 then some .unused
  else if code = 1#8 then some .station
  else if code = 2#8 then some .trunk
  else if code = 3#8 then some .control
  else none

/-- SET-ENDPOINT at its execution (R158). -/
def State.doSetEndpoint (s : State) (seq n : Half) (role : Role) (bigEndian : Bool) : State :=
  let done := fun (s : State) (st : Status) => s.finish (orderCompletion seq st (.endpoint n) [])
  match epOf n with
  | none => done s .badOrder
  | some e =>
    let r := s.endpoints[e]
    if role = .control || r.role = .control then done s .badOrder
    else if r.call.isSome then done s .inCall
    else if r.slot.isSome || s.claimInFlight e then done s .busy
    else
      let order := if role = .trunk then bigEndian else r.bigEndian
      let s :=
        if role ≠ r.role || order ≠ r.bigEndian then
          (s.setEp e { r with role := role, bigEndian := order }).deadmit e .role
        else s
      done s .done

/-- The endpoint that an entry names as admitted has a record that names a call (R159). -/
def State.entryInCall (s : State) (d : EntryNo) : Bool :=
  match s.directory[d].admittedEp with
  | none => false
  | some e => s.endpoints[e].call.isSome

/-- SET-DIRECTORY at its execution (R159). -/
def State.doSetDirectory (s : State) (seq n : Half) (enabled : Bool) (number : Nat) (secret : Key) :
    State :=
  let done := fun (s : State) (st : Status) => s.finish (orderCompletion seq st (.entry n) [])
  match entryOf n.toNat with
  | none => done s .badOrder
  | some d =>
    if 99999999 < number then done s .badOrder
    else if s.entryInCall d then done s .inCall
    else
      let was := s.directory[d].admittedEp
      let s := s.setEntry d { s.directory[d] with
        enabled := enabled, number := number, secret := secret }
      let s :=
        match was with
        | none => s
        | some e => s.deadmit e .directory
      done s .done

/-- REVOKE at its execution (R160). Its own completion is written or held here, before the NO-CALL
completions of the switches of a call that it empties, which the end of the close writes at the same
event (R111, R170). DESIGN CHOICE (log 8). -/
def State.doRevoke (s : State) (seq n : Half) : State :=
  let done := fun (s : State) (st : Status) => s.finish (orderCompletion seq st (.endpoint n) [])
  match epOf n with
  | none => done s .badOrder
  | some e =>
    let s := s.deadmit e .revoked
    let s :=
      match s.endpoints[e].call with
      | none => s
      | some c => s.removeMember c e
    done s .done

/-- UNLOCK at its execution (R161). -/
def State.doUnlock (s : State) (seq n : Half) : State :=
  let done := fun (s : State) (st : Status) => s.finish (orderCompletion seq st (.entry n) [])
  match entryOf n.toNat with
  | none => done s .badOrder
  | some d => done (s.setEntry d { s.directory[d] with lock := none, fails := 0 }) .done

end Sys2Proof.Machine
end

