-- ==== Sys2Proof/Machine/Timing.lean ====
section
/-! DEFINITION. Frame timing and the scan pass (chapter 7): ticks taken and slipped, the work at the
rise of the tick counter, changes of timing, and the steps of a pass. -/

namespace Sys2Proof.Machine

open Sys2Proof

/-! ## Intervals of the internal period -/

/-- One internal period of p µs (R122). -/
def periodNs (p : Nat) : Nat := p * Config.nsPerUs

/-- One and a half internal periods of p µs: the guard (R123). -/
def guardNs (p : Nat) : Nat := 3 * (p * Config.nsPerUs) / 2

/-- Half an internal period of p µs: the regain test (R125). -/
def halfNs (p : Nat) : Nat := p * Config.nsPerUs / 2

/-- The timing state a source starts in (R5, R136). -/
def TickSource.startState : TickSource → TimingState
  | .internal => .internal
  | .external => .externalLocked

/-- The interval from the start of a source to its first expiry (R121, R136). -/
def TickSource.firstExpiry (src : TickSource) (p : Nat) : Nat :=
  match src with
  | .internal => periodNs p
  | .external => guardNs p

/-- The source a code names (10.1). -/
def sourceOf (code : Byte) : Option TickSource :=
  if code = 1#8 then some .internal else if code = 2#8 then some .external else none

/-! ## The rise of the tick counter (R127) -/

/-- A directory entry whose locked-until tick equals the counter loses its lock (R127, R142). -/
def DirEntry.expire (counter : Word) (d : DirEntry) : DirEntry :=
  match d.lock with
  | none => d
  | some u => if u = counter then { d with lock := none } else d

/-- Every directory lock whose locked-until tick equals the counter is removed (R127, R142). -/
def State.expireLocks (s : State) : State :=
  { s with directory := mapTab (DirEntry.expire s.timer.counter) s.directory }

/-- An ARMED timing change takes effect at a tick's instant (R136). A change to EXTERNAL at an expiry
leaves EXTERNAL-LOCKED, in which an FSYNC edge taken later at the same instant is a second tick (R123),
though R126 counts one. DESIGN CHOICE (log 43). -/
def Timer.takeEffect (t : Timer) (seq : Half) (src : TickSource) (period : Nat) (inst : Instant) :
    Timer :=
  { t with
    source := src, period := period, state := src.startState,
    nextExpiry := some (inst + src.firstExpiry period), change := .blanking seq }

/-- The timing change at a taken tick: ARMED takes effect and begins blanking, BLANKING ends and
waits for its completion (R127, R136, R137). -/
def Timer.changeAtTick (t : Timer) (inst : Instant) : Timer :=
  match t.change with
  | .none => t
  | .armed seq src period => t.takeEffect seq src period inst
  | .blanking seq => { t with change := .waiting seq }
  | .waiting _ => t

/-- A tick at an instant is taken: the counter rises, and a pass starts or the pending tick is set
(R127). -/
def Timer.taken (t : Timer) (inst : Instant) : Timer :=
  let n := t.counter + 1#32
  match t.pass with
  | none => { t with counter := n, lastTick := inst, pass := some { number := n, pos := .calls none } }
  | some _ => { t with counter := n, lastTick := inst, pendingTick := some n }

/-- A tick finds a pass in flight and a tick pending (R127). -/
def Timer.slipsNow (t : Timer) : Bool := t.pass.isSome && t.pendingTick.isSome

/-- A tick at an instant is slipped: dropped and counted (R128). -/
def Timer.slipped (t : Timer) (inst : Instant) : Timer :=
  { t with lastTick := inst, slips := satSucc 65535 t.slips }

/-- A tick at an instant, taken or slipped according to the pass (R127, R128). -/
def State.tick (s : State) (inst : Instant) : State :=
  if s.timer.slipsNow then
    (s.setTimer (s.timer.slipped inst)).raise .slip .none []
  else
    let s := s.setTimer ((s.timer.taken inst).changeAtTick inst)
    s.ageRequests.expireLocks

/-! ## The timer's events (R122 to R126) -/

/-- The expiry due under the internal schedule: in INTERNAL and EXTERNAL-LOST (R122, R124). -/
def Timer.internalDue (t : Timer) : Option Instant :=
  if t.running then
    match t.state with
    | .internal => t.nextExpiry
    | .externalLost => t.nextExpiry
    | .externalLocked => none
  else none

/-- The guard's expiry, in EXTERNAL-LOCKED (R124). -/
def Timer.guardDue (t : Timer) : Option Instant :=
  if t.running then
    match t.state with
    | .externalLocked => t.nextExpiry
    | .internal => none
    | .externalLost => none
  else none

/-- The expiry of the internal period at instant e: the schedule moves on by one period, and the
expiry is a tick (R122, R124). -/
def State.internalTick (s : State) (e : Instant) : State :=
  ((s.atInstant e).setTimer
    { s.timer with nextExpiry := some (e + periodNs s.timer.period) }).tick e

/-- The expiry of the guard at instant e: EXTERNAL-LOST, SYNC-LOST, and a tick (R124). SYNC-LOST is
raised before the SLIP of a tick that slips. DESIGN CHOICE (log 36). -/
def State.guardTick (s : State) (e : Instant) : State :=
  (((s.atInstant e).setTimer
    { s.timer with state := .externalLost, nextExpiry := some (e + periodNs s.timer.period) }).raise
      .syncLost .none []).tick e

/-- A rising edge on FSYNC at the present instant (R123, R125). In INTERNAL and while no plan runs the
timer it has no effect (R121, R122). SYNC-REGAINED is raised before the SLIP of a tick that slips.
DESIGN CHOICE (log 36). In EXTERNAL-LOCKED every edge ticks, one at the instant of an expiry that has
put a change to EXTERNAL in force included. DESIGN CHOICE (log 43). -/
def State.edge (s : State) : State :=
  if s.timer.running then
    let guard := some (s.now + guardNs s.timer.period)
    match s.timer.state with
    | .internal => s
    | .externalLocked => (s.setTimer { s.timer with nextExpiry := guard }).tick s.now
    | .externalLost =>
      let ticks := decide (s.timer.lastTick + halfNs s.timer.period ≤ s.now)
      let s := (s.setTimer { s.timer with state := .externalLocked, nextExpiry := guard }).raise
        .syncRegained .none []
      if ticks then s.tick s.now else s
  else s

/-- The event of the frame timer that a cause names, where it is due: an expiry at its own instant,
or an FSYNC edge. -/
def State.timerEvent (s : State) (cause : TickCause) : State :=
  match cause with
  | .internalExpiry =>
    match s.timer.internalDue with
    | none => s
    | some e => s.internalTick e
  | .guardExpiry =>
    match s.timer.guardDue with
    | none => s
    | some e => s.guardTick e
  | .fsyncEdge t => (s.atInstant t).edge

/-- The event that a cause names is a taken tick in this state (R122 to R127). -/
def State.takesTick (s : State) (cause : TickCause) : Bool :=
  !s.timer.slipsNow &&
    match cause with
    | .internalExpiry => s.timer.internalDue.isSome
    | .guardExpiry => s.timer.guardDue.isSome
    | .fsyncEdge t =>
      s.timer.running &&
        match s.timer.state with
        | .internal => false
        | .externalLocked => true
        | .externalLost => decide (s.timer.lastTick + halfNs s.timer.period ≤ max s.now t)

/-! ## SET-TIMING (R135, R137) -/

/-- SET-TIMING at its execution (R135). -/
def State.doSetTiming (s : State) (seq : Half) (code : Byte) (period : Nat) : State :=
  match sourceOf code with
  | none => s.finish (orderCompletion seq .badOrder .none [])
  | some src =>
    if period < 5000 || 40000 < period then s.finish (orderCompletion seq .badOrder .none [])
    else
      match s.timer.change with
      | .none => (s.setTimer { s.timer with change := .armed seq src period }).endExecution
      | .armed _ _ _ => s.finish (orderCompletion seq .busy .none [])
      | .blanking _ => s.finish (orderCompletion seq .busy .none [])
      | .waiting _ => s.finish (orderCompletion seq .busy .none [])

/-- The DONE completion of a waiting SET-TIMING, when the ring has room (R137). -/
def State.writeTimingDone (s : State) : State :=
  match s.timer.change with
  | .waiting seq =>
    if s.engine.room then
      (s.setTimer { s.timer with change := .none }).writeCompletion .timer false
        (orderCompletion seq .done .none [])
    else s
  | .none => s
  | .armed _ _ _ => s
  | .blanking _ => s

/-! ## The scan pass (R129, R133) -/

/-- The call the pass visits next: the lowest-numbered OPEN call above the one last visited (R129). -/
def State.nextCall (s : State) (last : Option CallNo) : Option CallNo :=
  (tabIdxs Call.isOpen s.calls).find? fun c =>
    match last with
    | none => true
    | some l => decide (l < c)

/-- The visit that is the pass's next step: a pass is in its call phase, it waits for no place in the
self-traffic queue, and an OPEN call remains (R129). Once the slot phase has begun no call is visited,
one opened above the last call visited included (R132). DESIGN CHOICE (log 37). -/
def State.dueVisit (s : State) : Option (Pass × CallNo) :=
  if s.port.passWaits then none
  else
    match s.timer.pass with
    | none => none
    | some p =>
      match p.pos with
      | .slots _ => none
      | .calls last => (s.nextCall last).map fun c => (p, c)

/-- The slot check that is the pass's next step: every call has been visited, and a slot remains
(R129). -/
def State.dueCheck (s : State) : Option (Pass × MboxNo) :=
  if s.port.passWaits then none
  else
    match s.timer.pass with
    | none => none
    | some p =>
      match p.pos with
      | .slots n => if h : n < 32 then some (p, ⟨n, h⟩) else none
      | .calls last => if (s.nextCall last).isSome then none else some (p, 0)

/-- The pass visits a call (R129, R113). -/
def State.passVisit (s : State) (p : Pass) (c : CallNo) : State :=
  (s.setTimer { s.timer with pass := some { p with pos := .calls (some c) } }).visitCall c

/-- The pass checks a slot (R129, R133). -/
def State.passCheck (s : State) (p : Pass) (m : MboxNo) : State :=
  (s.setTimer { s.timer with pass := some { p with pos := .slots (m.val + 1) } }).checkSlot m
    p.number

/-- The pass ends when slot 31 has been checked and its entries are placed; a pending tick starts the
next pass (R129). -/
def State.endPass (s : State) : State :=
  if s.port.passWaits then s
  else
    match s.timer.pass with
    | none => s
    | some p =>
      match p.pos with
      | .calls _ => s
      | .slots n =>
        if n < 32 then s
        else
          match s.timer.pendingTick with
          | none => s.setTimer { s.timer with pass := none }
          | some k =>
            s.setTimer { s.timer with
              pass := some { number := k, pos := .calls none }, pendingTick := none }

end Sys2Proof.Machine
end

