-- ==== Sys2Proof/Machine/Reports.lean ====
section
/-! DEFINITION. The REPORT order (9.8): its checks, its record writes, each built from the state at
the event at which it is placed, its completion, and the placing of entries that wait for room in the
self-traffic queue (R38). -/

namespace Sys2Proof.Machine

open Sys2Proof

/-! ## The five areas of a plan (R3, R12) -/

/-- The areas VOICE, MAILBOX, ORDER, COMPLETION and anchor: first byte address and length (R12). -/
def planAreas (p : Plan) (anchor : Nat) : List (Nat × Nat) :=
  [(p.voiceBase, Config.voiceBytes), (p.mailboxBase, Config.mailboxBytes),
   (p.orderBase, Config.ringAreaBytes), (p.completionBase, Config.ringAreaBytes),
   (anchor, Config.anchorBytes)]

/-- Two byte ranges share a byte. -/
def rangesMeet (a b : Nat × Nat) : Bool := decide (a.1 < b.1 + b.2) && decide (b.1 < a.1 + a.2)

/-- The anchor's first byte address (R1). -/
def State.anchorByte (s : State) : Nat := s.anchorSel.toNat * 16777216

/-! ## Records (R176, 10.7) -/

/-- The records a REPORT writes in all (R175). -/
def ReportKind.records : ReportKind → Nat
  | .endpoints _ count => count
  | .call _ => 4
  | .summary => 3

/-- The writes of up to four records each (R175). -/
def ReportKind.writes (k : ReportKind) : Nat := (k.records + 3) / 4

/-- The 48 bytes of a SUMMARY report as the state stands (R176, 10.7). -/
def State.summaryRecord (s : State) : List Byte :=
  [s.part.code, s.timer.state.code]
    ++ bytesOfHalf (halfN s.timer.slips)
    ++ bytesOfWord s.timer.counter
    ++ [byteN s.port.hold.length, 0#8]
    ++ bytesOfHalf (halfN s.freeRings.length)
    ++ bytesOfHalf (halfN (s.endpoints.toList.filter fun e => e.admitted.isSome).length)
    ++ [0#8, 0#8]
    ++ s.lanes.toList.flatMap laneBytes

/-- The bytes of up to four ENDPOINTS records from an endpoint upward (R176, 10.7). -/
def State.endpointRecords (s : State) (first n : Nat) : List Byte :=
  ((s.endpoints.toList.drop first).take n).flatMap endpointRecord

/-- The bytes of a REPORT's write number k, as the state stands (R175). -/
def State.reportBytes (s : State) (kind : ReportKind) (k : Nat) : List Byte :=
  match kind with
  | .endpoints first count => s.endpointRecords (first + 4 * k) (min 4 (count - 4 * k))
  | .call c => callRecord c s.calls[c]
  | .summary => s.summaryRecord

/-- The self-write of a REPORT's write number k (R175). -/
def State.reportEntry (s : State) (job : ReportJob) (k : Nat) : SelfEntry :=
  selfWrite (job.buffer / 4 + 16 * k) (packBytes (s.reportBytes job.kind k)) .report

/-! ## Placing record writes (R175) -/

/-- Place up to fuel record writes of the REPORT in execution, each at the event of the one before it;
a write that finds the queue full, or blocks that asked before, waits (R175, R38). -/
def State.placeReportN : Nat → State → State
  | 0, s => s
  | fuel + 1, s =>
    match s.engine.inExec with
    | some { seq := q, phase := .report job } =>
      if job.placed < job.kind.writes then
        if s.port.waiters.isEmpty && s.port.fits 1 then
          let e := s.reportEntry job job.placed
          let s := s.setPort { s.port with selfQ := s.port.selfQ ++ [e] }
          State.placeReportN fuel (s.setEngine { s.engine with
            inExec := some { seq := q, phase := .report { job with
              placed := job.placed + 1, outstanding := job.outstanding + 1 } } })
        else s.setPort { s.port with waiters := s.port.waiters ++ [.reportWrite] }
      else s
    | some { seq := _, phase := .fetching } => s
    | some { seq := _, phase := .restart _ } => s
    | none => s

/-- Place the record writes of the REPORT in execution (R175): at most 16 of 4 records each. -/
def State.placeReport (s : State) : State := s.placeReportN 17

/-- Place waiting entries in the order in which their blocks asked, while they fit, at most fuel
groups (R38). Each takes a place, so nine are more than the queue can take. -/
def State.placeWaitingN : Nat → State → State
  | 0, s => s
  | fuel + 1, s =>
    match s.port.waiters with
    | [] => s
    | .entries _ _ es :: rest =>
      if s.port.fits es.length then
        State.placeWaitingN fuel
          (s.setPort { s.port with selfQ := s.port.selfQ ++ es, waiters := rest })
      else s
    | .reportWrite :: rest =>
      if s.port.fits 1 then
        match s.engine.inExec with
        | some { seq := q, phase := .report job } =>
          let e := s.reportEntry job job.placed
          let s := s.setPort { s.port with selfQ := s.port.selfQ ++ [e], waiters := rest }
          let s := s.setEngine { s.engine with
            inExec := some { seq := q, phase := .report { job with
              placed := job.placed + 1, outstanding := job.outstanding + 1 } } }
          State.placeWaitingN fuel s.placeReport
        | some { seq := _, phase := .fetching } =>
          State.placeWaitingN fuel (s.setPort { s.port with waiters := rest })
        | some { seq := _, phase := .restart _ } =>
          State.placeWaitingN fuel (s.setPort { s.port with waiters := rest })
        | none => State.placeWaitingN fuel (s.setPort { s.port with waiters := rest })
      else s

/-- The blocks that wait for room place their entries (R38). -/
def State.placeWaiting (s : State) : State := s.placeWaitingN (Config.selfPlaces + 1)

/-! ## The order and its completion (R175) -/

/-- The buffer lies in OPEN, within the byte space, on a multiple of 16 (R175). -/
def State.bufferOk (s : State) (buffer records : Nat) : Bool :=
  decide (buffer % 16 = 0) && decide (buffer + 16 * records ≤ 4294967296)
    && !(planAreas s.thePlan s.anchorByte).any (rangesMeet (buffer, 16 * records))

/-- The REPORT named by an entry's fields, where its operands are in range (R175, R178). -/
def reportOf (code : Byte) (first count : Nat) : Option ReportKind :=
  if code = 1#8 then
    if count = 0 || 64 < count || 512 < first + count then none else some (.endpoints first count)
  else if code = 2#8 then
    if h : first < 128 then some (.call ⟨first, h⟩) else none
  else if code = 3#8 then some .summary
  else none

/-- REPORT at its execution (R175). -/
def State.doReport (s : State) (seq : Half) (code : Byte) (first count buffer : Nat) : State :=
  match reportOf code first count with
  | none => s.finish (orderCompletion seq .badOrder .none [])
  | some k =>
    if s.bufferOk buffer k.records then
      let job : ReportJob :=
        { kind := k, buffer := buffer, placed := 0, outstanding := 0, faulted := false }
      (s.setEngine { s.engine with inExec := some { seq := seq, phase := .report job } }).placeReport
    else s.finish (orderCompletion seq .badOrder .none [])

/-- Every record write of the REPORT in execution has been answered (R175). -/
def ReportJob.finished (j : ReportJob) : Bool :=
  decide (j.kind.writes ≤ j.placed) && decide (j.outstanding = 0)

/-- The completion of a REPORT: DONE with the number of records, or FAULT with 0 (R175, 10.5). -/
def ReportJob.completion (j : ReportJob) (seq : Half) : Completion :=
  if j.faulted then orderCompletion seq .fault .none [0#8]
  else orderCompletion seq .done .none [byteN j.kind.records]

/-- The REPORT in execution completes when every record write has been answered (R175). -/
def State.finishReport (s : State) : State :=
  match s.engine.inExec with
  | some { seq := q, phase := .report job } =>
    if job.finished then s.finish (job.completion q) else s
  | some { seq := _, phase := .fetching } => s
  | some { seq := _, phase := .restart _ } => s
  | none => s

/-- Memory answers a record write (R174, R175). -/
def State.reportAnswer (s : State) (fault : Bool) : State :=
  match s.engine.inExec with
  | some { seq := q, phase := .report job } =>
    (s.setEngine { s.engine with
      inExec := some { seq := q, phase := .report { job with
        outstanding := job.outstanding - 1, faulted := job.faulted || fault } } }).finishReport
  | some { seq := _, phase := .fetching } => s
  | some { seq := _, phase := .restart _ } => s
  | none => s

end Sys2Proof.Machine
end

