-- ==== Sys2Proof/Machine/Engine.lean ====
section
/-! DEFINITION. The order engine (chapter 9), RESTART and draining (1.5), and the work that an event
brings about at that same event in whatever block it falls to: settle. -/

namespace Sys2Proof.Machine

open Sys2Proof

/-! ## Fetching (R166) -/

/-- The order engine may start a fetch: the conditions of R166 alone. That entries of the engine still
wait for places in the self-traffic queue (R38, R168) does not keep it from it. DESIGN CHOICE (log 35). -/
def State.mayFetch (s : State) : Bool :=
  decide (s.part = .planned) && s.engine.inExec.isNone && s.engine.held.isNone
    && decide (s.engine.orderProducer ≠ s.engine.orderConsumed)

/-- The self-read of the next order entry (R164, R166). -/
def State.fetchEntry (s : State) : SelfEntry :=
  selfRead (s.thePlan.orderBase / 4 + 8 * (s.engine.orderConsumed.toNat % Config.orderEntries)) 8
    .orderFetch

/-- The engine starts fetching the next order when it may (R166). -/
def State.startFetch (s : State) : State :=
  if s.mayFetch then
    (s.setEngine { s.engine with
      inExec := some { seq := s.engine.orderConsumed, phase := .fetching } }).place .engine false
        [s.fetchEntry]
  else s

/-! ## RESTART (R8, R10) -/

/-- A call at RESTART: an OPEN call goes CLOSING, and every call's switch list and close completion
are discarded (R8). -/
def State.restartCall (s : State) (c : CallNo) : State :=
  let s := s.setCall c { s.calls[c] with switches := [], closeSeq := none }
  if s.calls[c].state = .opened then s.goClosing c else s

/-- The calls listed at RESTART (R8). -/
def State.restartCalls (s : State) : List CallNo → State
  | [] => s
  | c :: cs => (s.restartCall c).restartCalls cs

/-- A mailbox slot at RESTART: a watched write in flight is voided, and a slot outside FREE goes FREE
with its claim word cleared and its mirror written (R8, R146). -/
def State.restartSlot (s : State) (m : MboxNo) : State :=
  let s := s.setMbox m { s.mailboxes[m] with
    inFlight := s.mailboxes[m].inFlight.map fun k => { k with voided := true } }
  if s.mailboxes[m].state = .free then s
  else
    let s := s.freeSlot m
    s.place .admission false [s.claimClearWrite m, s.mirrorWrite m]

/-- Every mailbox slot at RESTART, in ascending order (R8). -/
def State.restartSlots (s : State) : List MboxNo → State
  | [] => s
  | m :: ms => (s.restartSlot m).restartSlots ms

/-- A lane at RESTART: an activation of a directory entry in flight has its slot list emptied (R97). -/
def Lane.restarted (l : Lane) : Lane :=
  match l.subject with
  | some (.entry _) => { l with expansion := l.expansion.map fun x => { x with slots := [] } }
  | some (.call _) => l
  | none => l

/-- A waiting request is one for a call (R97). -/
def ActRequest.isCall (r : ActRequest) : Bool :=
  match r.subject with
  | .call _ => true
  | .entry _ => false

/-- RESTART at its execution (R8, R97). -/
def State.doRestart (s : State) (seq : Half) : State :=
  let s := { s with part := .quiescing }
  let s := s.setEngine { s.engine with
    inExec := some { seq := seq, phase := .restart false } }
  let s := s.restartCalls (tabIdxs (fun c => !c.isFree) s.calls)
  let s := s.restartSlots (List.finRange 32)
  let s := s.setWaiting (s.waiting.filter ActRequest.isCall)
  { s with lanes := mapTab Lane.restarted s.lanes }

/-- Draining has ended: every call is FREE, no lane is EXPANDING, no slot self-read is outstanding and
no watched write is in flight on a slot (R10). -/
def State.drained (s : State) : Bool :=
  s.calls.toList.all Call.isFree
    && s.lanes.toList.all (fun l => decide (l.state ≠ .expanding))
    && s.mailboxes.toList.all fun m => !m.selfRead && m.inFlight.isNone

/-- The RESTART completion is written when draining has ended, the backlog is empty and the ring has
room (R10). -/
def State.endDraining (s : State) : State :=
  match s.engine.inExec with
  | some { seq := q, phase := .restart false } =>
    if decide (s.part = .quiescing) && s.drained && s.engine.backlog.isEmpty && s.engine.room then
      (s.setEngine { s.engine with
        inExec := some { seq := q, phase := .restart true } }).writeCompletion .engine false
          (orderCompletion q .done .none []) true
    else s
  | some { seq := _, phase := .restart true } => s
  | some { seq := _, phase := .fetching } => s
  | some { seq := _, phase := .report _ } => s
  | none => s

/-- An endpoint at entry to UNPLANNED (R10, R140). -/
def EndpointRec.unplanned (e : EndpointRec) : EndpointRec :=
  { e with admitted := none, call := none, slot := none, reservation := none }

/-- A directory entry at entry to UNPLANNED (R10, R141). -/
def DirEntry.unplanned (d : DirEntry) : DirEntry :=
  { d with admittedEp := none, fails := 0, lock := none }

/-- The frame timer at entry to UNPLANNED: stopped, counters cleared, a pass in flight ended, a timing
change discarded; settings and state are kept (R10, R121, R138). -/
def Timer.stopped (t : Timer) : Timer :=
  { t with
    running := false, nextExpiry := none, counter := 0#32, slips := 0, pendingTick := none,
    pass := none, change := .none }

/-- The part enters UNPLANNED at the answer to the RESTART completion's write (R10). The pass ends, and
the entries of its steps that wait for places go on waiting as such. DESIGN CHOICE (log 41). -/
def State.enterUnplanned (s : State) : State :=
  { s with
    part := .unplanned
    plan := none
    endpoints := mapTab EndpointRec.unplanned s.endpoints
    directory := mapTab DirEntry.unplanned s.directory
    monitor := []
    timer := s.timer.stopped
    engine := Engine.reset
    port := s.port.voidCounts }

/-! ## The work of an event at that event -/

/-- The arrival stage after an event: a request that has an obstacle or a lane condition, or a VOICE
request that finds no transform place free, enters the hold queue at its tail (R20). -/
def State.retestArrival (s : State) : State :=
  match s.port.arrival with
  | none => s
  | some a =>
    if s.obstacle a || s.laneCondition a
        || (a.isVoice && decide (Config.transformPlaces ≤ s.port.xforms.length)) then
      s.setPort { s.port with arrival := none, hold := s.port.hold ++ [a] }
    else s

/-- What an event brings about at that event in the rings: entries that waited are placed (R38),
notices and a held completion are written with room (R172, R170), closes end (R111), a waiting
SET-TIMING and a RESTART are completed (R137, R10), the next fetch starts (R166), and a pass whose
work is done ends (R129). Where two writers compete for the last entry, either may be taken first
(R170): this order is the model's, and so is it that the command's own effect comes before it (log 8).
The engine goes on here though entries of its own may still wait for places in the self-traffic queue
(R38, R168): a DESIGN CHOICE (log 35). -/
def State.settleRings (s : State) : State :=
  let s := s.placeWaiting
  let s := s.deliver.writeHeld
  let s := s.endCloses (tabIdxs Call.isClosing s.calls)
  let s := s.writeTimingDone
  let s := s.endDraining
  let s := s.startFetch
  s.endPass

/-- What an event brings about at that event in the hold queue and the lane bank: the arrival stage is
tested again (R20), VOICE activations are asked for and withdrawn (R27, R81), and the arbiter
considers grants (R87). -/
def State.settleLanes (s : State) : State :=
  s.retestArrival.voiceUpkeep.grantAll.retestArrival

/-- The work that an event brings about at that same event (log 7); ALERT then has its level (R173). -/
def State.settle (s : State) : State :=
  let s := s.settleRings.settleLanes
  { s with alert := s.alertLevel }

/-! ## Executing an order (R166, R167, R178) -/

/-- The fields of an OPEN-CALL, where none is malformed (R178). -/
def openCallFields (call : Half) (count level : Byte) (eps : List Half) :
    Option (CallNo × List EpNo × Fin 8) :=
  if count.toNat < 2 || 4 < count.toNat then none
  else
    match callOf call, (eps.take count.toNat).mapM epOf with
    | some c, some es => if h : level.toNat < 8 then some (c, es, ⟨level.toNat, h⟩) else none
    | some _, none => none
    | none, _ => none

/-- A comfort level of REKEY-NOW: 0–7, or 0xFF for none; anything else is malformed (R178). -/
def rekeyLevel (level : Byte) : Option (Option (Fin 8)) :=
  if level = 0xFF#8 then some none
  else if h : level.toNat < 8 then some (some ⟨level.toNat, h⟩) else none

/-- The byte order a SET-ENDPOINT gives; it is read only for TRUNK (R178). -/
def orderOf (role : Role) (code : Byte) : Option Bool :=
  if role = .trunk then
    if code = 0#8 then some false else if code = 1#8 then some true else none
  else some false

/-- The enabled flag of a SET-DIRECTORY (R178). -/
def enabledOf (code : Byte) : Option Bool :=
  if code = 0#8 then some false else if code = 1#8 then some true else none

/-- A malformed order is completed BAD-ORDER, with no subject (R167, R178). -/
def State.badOrder (s : State) (seq : Half) : State :=
  s.finish (orderCompletion seq .badOrder .none [])

/-- An order is validated and carried out (R167, R178). -/
def State.execute (s : State) (seq : Half) (o : Order) : State :=
  match o with
  | .unknown _ => s.badOrder seq
  | .openCall call count level e0 e1 e2 e3 key =>
    match openCallFields call count level [e0, e1, e2, e3] with
    | none => s.badOrder seq
    | some (c, es, lv) => s.doOpenCall seq c es key lv
  | .addMember call ep =>
    match callOf call, epOf ep with
    | some c, some e => s.doSwitch seq true c e
    | _, _ => s.badOrder seq
  | .dropMember call ep =>
    match callOf call, epOf ep with
    | some c, some e => s.doSwitch seq false c e
    | _, _ => s.badOrder seq
  | .closeCall call =>
    match callOf call with
    | some c => s.doCloseCall seq c
    | none => s.badOrder seq
  | .rekeyNow call level =>
    match callOf call, rekeyLevel level with
    | some c, some lv => s.doRekeyNow seq c lv
    | _, _ => s.badOrder seq
  | .setTiming source period => s.doSetTiming seq source period.toNat
  | .setEndpoint ep role order =>
    match roleOf role with
    | none => s.badOrder seq
    | some r =>
      match orderOf r order with
      | none => s.badOrder seq
      | some be => s.doSetEndpoint seq ep r be
  | .setDirectory index enabled number secret =>
    match enabledOf enabled with
    | none => s.badOrder seq
    | some on => s.doSetDirectory seq index on number.toNat secret
  | .revoke ep => s.doRevoke seq ep
  | .unlock index => s.doUnlock seq index
  | .report kind first count buffer =>
    s.doReport seq kind first.toNat count.toNat buffer.toNat
  | .restart => s.doRestart seq

/-- The consumed count rises at the return of a fetch, and the new count is written to the ORDER index
block (R166). -/
def State.countConsumed (s : State) : State :=
  let n := s.engine.orderConsumed + 1#16
  (s.setEngine { s.engine with orderConsumed := n }).place .engine false
    [selfWrite (s.thePlan.orderBase / 4 + 257) [wordOfHalves n 0#16] .consumedCount]

/-- The order being fetched (R164). -/
def Engine.fetching (e : Engine) : Option Half :=
  match e.inExec with
  | some { seq := q, phase := .fetching } => some q
  | some { seq := _, phase := .report _ } => none
  | some { seq := _, phase := .restart _ } => none
  | none => none

/-- The fetch returns OK with an order (R166, R167). -/
def State.fetchReturn (s : State) (o : Order) : State :=
  match s.engine.fetching with
  | none => s
  | some q => s.countConsumed.execute q o

/-- The fetch returns FAULT: the order is completed FAULT and not carried out (R166). -/
def State.fetchFault (s : State) : State :=
  match s.engine.fetching with
  | none => s
  | some q => s.countConsumed.finish (orderCompletion q .fault .none [])

end Sys2Proof.Machine
end

