-- ==== Sys2Proof/Machine/Transform.lean ====
section
/-! DEFINITION. The transform unit (chapter 3): entry into transform and its three courses, pieces and
widening, the samples of a member read, the answers of pieces, fill bits, and the leaving of a
transform place. -/

namespace Sys2Proof.Machine

open Sys2Proof

/-! ## Where a request lies in its ring (R45, R51, R57) -/

/-- The run of a request's words that falls in one logical segment of one slot: first is the word
offset within the segment, skip the request's words before the run. -/
structure Run where
  slot  : FrameSlotNo
  seg   : Fin 8
  first : Nat
  len   : Nat
  skip  : Nat
  deriving DecidableEq, Repr

/-- The run in segment g of the ring (8 segments of 10 words for each slot), for a request of len
words from word r of the ring (R45). -/
def runAt (r len g : Nat) : Run :=
  { slot := ⟨g / 8 % 4, Nat.mod_lt _ (by decide)⟩, seg := ⟨g % 8, Nat.mod_lt _ (by decide)⟩,
    first := max r (10 * g) - 10 * g,
    len := min (r + len) (10 * g + 10) - max r (10 * g),
    skip := max r (10 * g) - r }

/-- The runs of a request, in logical order (R51, R57). -/
def runsOf (r len : Nat) : List Run :=
  (List.range ((r + len - 1) / 10 + 1 - r / 10)).map fun k => runAt r len (r / 10 + k)

/-- The word of its ring at which a VOICE request starts (R45). -/
def Accepted.ringWord (a : Accepted) : Nat := a.off % 320

/-- The slot in which a word of a ring lies (R45). -/
def slotOfWord (w : Nat) : FrameSlotNo := ⟨w / 80 % 4, Nat.mod_lt _ (by decide)⟩

/-- The word address of physical segment place p of a slot of a ring (R45). -/
def Accepted.segmentWord (a : Accepted) (slot : FrameSlotNo) (p : Nat) : Nat :=
  a.voiceWord + 320 * a.ring.val + 80 * slot.val + 10 * p

/-! ## What a member request takes at its entry (R50) -/

/-- What a member request takes at its entry for one slot it touches: the OPEN entry and the key of its
epoch tag; none where the slot is EMPTY or the lane does not hold that key (R50). -/
def State.takenSlot (s : State) (l : LaneNo) (r : RingNo) (k : FrameSlotNo) :
    Option (OpenSlot × Key) :=
  match s.rings[r].slots[k] with
  | none => none
  | some o => (s.lanes[l].keys.forTag o.tag).map fun key => (o, key)

/-! ## Pieces -/

/-- A list of pieces with one more at its place in ascending physical address order (R35, R51). -/
def insertPiece (p : Piece) : List Piece → List Piece
  | [] => [p]
  | q :: qs => if p.addr ≤ q.addr then p :: q :: qs else q :: insertPiece p qs

/-- Pieces in ascending physical address order (R35, R51). -/
def sortPieces : List Piece → List Piece
  | [] => []
  | p :: ps => insertPiece p (sortPieces ps)

/-! ## Member writes (R49 to R53) -/

/-- Both enables of the sample at half h (0 or 1) of a data word are set (R51, R52). -/
def wordWrites (w : WriteWord) (h : Nat) : Bool :=
  w.en.getLsbD (2 * h) && w.en.getLsbD (2 * h + 1)

/-- The 16 bits of a data word that hold the sample at half h (R58). -/
def wordHalf (w : WriteWord) (h : Nat) : Half := if h = 0 then loHalf w.data else hiHalf w.data

/-- The pattern of the sample at half h of a data word, from an endpoint of the given byte order, where
the word writes it (R53, R58). -/
def wordSample (w : WriteWord) (bigEndian : Bool) (h : Nat) : Option Half :=
  if wordWrites w h then some (convertOrder bigEndian (wordHalf w h)) else none

/-- A word of a piece whose two samples are given, where the piece writes them, as stored patterns. A
sample that is not written leaves both its enables clear (R51); its bytes are not written, and stand
here as 0 (log 22). -/
def pieceWord (lo hi : Option Half) : WriteWord :=
  { data := wordOfHalves (lo.getD 0#16) (hi.getD 0#16)
    en := (if lo.isSome then 3#4 else 0#4) ||| (if hi.isSome then 12#4 else 0#4) }

/-- What a member write takes at its entry: its endpoint's byte order, the slot's frame and key, the
ring and the comfort level (R50). -/
structure WriteTaken where
  bigEndian : Bool
  frame     : Word
  key       : Key
  ring      : RingNo
  level     : Fin 8
  deriving DecidableEq, Repr

/-- The stored pattern of the sample at half h of word k of segment seg, where the data word there
writes it (R53, R67). -/
def WriteTaken.stored (t : WriteTaken) (seg : Fin 8) (k : Nat) (w : WriteWord) (h : Nat) :
    Option Half :=
  (wordSample w t.bigEndian h).map fun x =>
    scramble t.key t.frame t.ring (20 * seg.val + 2 * k + h) x

/-- The stored pattern of the comfort sample at half h of word k of segment seg (R52, R71). -/
def WriteTaken.storedComfort (t : WriteTaken) (seg : Fin 8) (k h : Nat) : Half :=
  let j := 20 * seg.val + 2 * k + h
  scramble t.key t.frame t.ring j (comfortSample t.key t.frame j t.level)

/-- The words of a piece that is not widened: word i of the run lies at word first + i of the segment
(R51). -/
def WriteTaken.plainWords (t : WriteTaken) (seg : Fin 8) : Nat → List WriteWord → List WriteWord
  | _, [] => []
  | k, w :: ws =>
    pieceWord (t.stored seg k w 0) (t.stored seg k w 1) :: t.plainWords seg (k + 1) ws

/-- The data word of a request that covers word k of a segment, where one does: its run starts at word
first of the segment. -/
def runWord (first k : Nat) (ws : List WriteWord) : Option WriteWord :=
  if k < first then none else ws[k - first]?

/-- Word k of a widened piece: the samples the request writes, and scrambled comfort samples for the
others, every enable set (R52). -/
def WriteTaken.widenedWord (t : WriteTaken) (seg : Fin 8) (first : Nat) (ws : List WriteWord)
    (k : Nat) : WriteWord :=
  let sample := fun h =>
    match runWord first k ws with
    | none => t.storedComfort seg k h
    | some w => (t.stored seg k w h).getD (t.storedComfort seg k h)
  pieceWord (some (sample 0)) (some (sample 1))

/-- A run writes all 20 samples of its segment (R52). -/
def writesWhole (ws : List WriteWord) : Bool :=
  decide (ws.length = 10) && ws.all fun w => wordWrites w 0 && wordWrites w 1

/-- The piece of a member write for one run (R51, R52). -/
def Accepted.writePiece (a : Accepted) (t : WriteTaken) (fill : BitVec 8) (no : Nat) (run : Run) :
    Piece :=
  let ws := (a.req.data.drop run.skip).take run.len
  let base := a.segmentWord run.slot (segPlace t.key t.frame t.ring run.seg.val)
  if !fill.getLsbD run.seg.val && !writesWhole ws then
    { no := no, seg := run.seg, addr := base, len := 10,
      data := (List.range 10).map (t.widenedWord run.seg run.first ws), issued := false,
      done := none }
  else
    { no := no, seg := run.seg, addr := base + run.first, len := run.len,
      data := t.plainWords run.seg run.first ws, issued := false, done := none }

/-- The pieces of a member write for its runs, numbered from no (R51). -/
def Accepted.writePieces (a : Accepted) (t : WriteTaken) (fill : BitVec 8) :
    Nat → List Run → List Piece
  | _, [] => []
  | no, run :: runs => a.writePiece t fill no run :: a.writePieces t fill (no + 1) runs

/-- The ring is OWNED by the endpoint (R49). -/
def RingState.ownedBy (r : RingState) (e : EpNo) : Bool :=
  match r with
  | .owned _ o => decide (o = e)
  | .free => false
  | .draining _ => false

/-- The refusal of a member write at its entry, or what it takes: the first check that fails refuses it
(R49). A slot whose key the lane does not hold counts as EMPTY (R50). -/
def State.checkWrite (s : State) (a : Accepted) (c : CallNo) (l : LaneNo) :
    Except Violation (OpenSlot × Key) :=
  let slot := slotOfWord a.ringWord
  if !s.rings[a.ring].state.ownedBy a.req.ep then .error .foreign
  else if slotOfWord (a.ringWord + a.req.len - 1) ≠ slot then .error .shape
  else
    match s.takenSlot l a.ring slot with
    | none => .error .window
    | some (o, key) =>
      if o.frame = s.calls[c].frame || o.frame = s.calls[c].frame - 1#32 then .ok (o, key)
      else .error .window

/-! ## Member reads (R56, R57, R58) -/

/-- The samples and pieces of a member read for its runs, in logical order, pieces numbered from no
(R56, R57). -/
def State.readRuns (s : State) (a : Accepted) (l : LaneNo) (level : Fin 8) :
    Nat → List Run → List SampleSource × List Piece
  | _, [] => ([], [])
  | no, run :: runs =>
    let j0 := 20 * run.seg.val + 2 * run.first
    match s.takenSlot l a.ring run.slot with
    | none =>
      let (ss, ps) := s.readRuns a l level no runs
      ((List.range (2 * run.len)).map (fun _ => .value 0#16) ++ ss, ps)
    | some (o, key) =>
      if s.timer.blanking || !o.fill.getLsbD run.seg.val then
        let (ss, ps) := s.readRuns a l level no runs
        ((List.range (2 * run.len)).map
          (fun i => .value (comfortSample key o.frame (j0 + i) level)) ++ ss, ps)
      else
        let (ss, ps) := s.readRuns a l level (no + 1) runs
        ((List.range (2 * run.len)).map
          (fun i => .stored no i (sampleOut key o.frame a.ring (j0 + i))) ++ ss,
         { no := no, seg := run.seg,
           addr := a.segmentWord run.slot (segPlace key o.frame a.ring run.seg.val) + run.first,
           len := run.len, data := [], issued := false, done := none } :: ps)

/-- A sample's value once every piece has been answered OK. -/
def SampleSource.get : SampleSource → Half
  | .value x => x
  | .stored _ _ _ => 0#16

/-- The data words of a member read's response: each sample in the reader's byte order, sample j in
bytes 0 and 1 of its word and sample j + 1 in bytes 2 and 3 (R58). -/
def packSamples (bigEndian : Bool) : List SampleSource → List Word
  | a :: b :: rest =>
    wordOfHalves (convertOrder bigEndian a.get) (convertOrder bigEndian b.get)
      :: packSamples bigEndian rest
  | [_] => []
  | [] => []

/-- Sample k of a read piece's answer, as memory holds it: little-endian halves of its words. -/
def sampleOf (ws : List Word) (k : Nat) : Half :=
  if k % 2 = 0 then loHalf (wordAt ws (k / 2)) else hiHalf (wordAt ws (k / 2))

/-- A sample once piece no has been answered OK with data: descrambled (R57, R68). -/
def SampleSource.resolve (no : Nat) (ws : List Word) : SampleSource → SampleSource
  | .value x => .value x
  | .stored n k z => if n = no then .value (sampleOf ws k - z) else .stored n k z

/-! ## Entry into transform (R47) -/

/-- A request leaves the arrival stage or the hold queue (R20, R24). -/
def State.takeOut (s : State) (a : Accepted) : State :=
  s.setPort { s.port with
    arrival := s.port.arrival.filter fun x => x.id ≠ a.id
    hold := s.port.hold.filter fun x => x.id ≠ a.id }

/-- A request takes a transform place (R28). -/
def State.addXform (s : State) (a : Accepted) (course : Course) (ps : List Piece) : State :=
  s.setPort { s.port with
    xforms := s.port.xforms ++ [{ acc := a, course := course, pieces := sortPieces ps }] }

/-- A non-member request (R48): a READ goes to memory raw, a WRITE is refused FOREIGN. -/
def State.enterNonMember (s : State) (a : Accepted) : State :=
  match a.req.kind with
  | .read =>
    s.addXform a .raw
      [{ no := 0, seg := 0, addr := a.req.addr.toNat, len := a.req.len, data := [], issued := false,
         done := none }]
  | .write => s.refuse a .foreign
  | .readReserve => s.refuse a .foreign
  | .writeIfReserved => s.refuse a .foreign

/-- A member write's entry (R49 to R53). -/
def State.enterWrite (s : State) (a : Accepted) (c : CallNo) (l : LaneNo) : State :=
  match s.checkWrite a c l with
  | .error v => (s.refuse a v).stampLane l
  | .ok (o, key) =>
    let t : WriteTaken :=
      { bigEndian := s.endpoints[a.req.ep].bigEndian, frame := o.frame, key := key, ring := a.ring,
        level := s.calls[c].comfort }
    let tk : Ticket := { call := c, ring := a.ring, lane := l }
    (s.addXform a (.memberWrite tk (slotOfWord a.ringWord) o.frame)
      (a.writePieces t o.fill 0 (runsOf a.ringWord a.req.len))).raiseCounts tk

/-- A member read's entry (R56 to R58): with no piece it is answered at once. -/
def State.enterRead (s : State) (a : Accepted) (c : CallNo) (l : LaneNo) : State :=
  let be := s.endpoints[a.req.ep].bigEndian
  match s.readRuns a l s.calls[c].comfort 0 (runsOf a.ringWord a.req.len) with
  | (ss, []) => (s.respond a.id (.ok (packSamples be ss))).stampLane l
  | (ss, p :: ps) =>
    let tk : Ticket := { call := c, ring := a.ring, lane := l }
    (s.addXform a (.memberRead tk be ss) (p :: ps)).raiseCounts tk

/-- A request that has left its waiting place is classified and takes its course (R47). One whose
arrival call has gone CLOSING since is refused whatever call now holds its ring (R47, R111; log 9). -/
def State.enter (s : State) (a : Accepted) : State :=
  if a.closedUnder then s.refuse a .foreign
  else
    match s.memberCall a with
    | none => s.enterNonMember a
    | some c =>
      match s.readyLane c with
      | none => s
      | some l =>
        match a.req.kind with
        | .read => s.enterRead a c l
        | .write => s.enterWrite a c l
        | .readReserve => s.enterNonMember a
        | .writeIfReserved => s.enterNonMember a

/-- The earlier accepted of two requests. -/
def earlier (a b : Accepted) : Bool := decide (a.id < b.id)

/-- The VOICE request that enters transform next: the earliest accepted of the eligible ones, in the
arrival stage or the hold queue, while a place is free (R28). -/
def State.nextEntry (s : State) : Option Accepted :=
  if s.port.xforms.length < Config.transformPlaces then
    firstBy earlier ((s.port.hold ++ s.port.arrival.toList).filter s.eligible)
  else none

/-! ## The answers of pieces (R54, R55, R58) -/

/-- A member request leaves its transform place: its counts fall, its lane is stamped, and a DRAINING
ring whose count falls to 0 goes FREE (R55, R58, R59, R95, R43). -/
def State.leaveCounts (s : State) (tk : Ticket) : State :=
  let s := s.setRing tk.ring { s.rings[tk.ring] with count := s.rings[tk.ring].count - 1 }
  let s := s.setLane tk.lane { s.lanes[tk.lane] with count := s.lanes[tk.lane].count - 1 }
  (s.stampLane tk.lane).endRingDrain tk.ring

/-- The fill bit of a write piece answered OK is set where the slot still holds the opening the piece
was cut for (R54). -/
def State.setFill (s : State) (tk : Ticket) (slot : FrameSlotNo) (frame : Word) (seg : Fin 8) :
    State :=
  match s.rings[tk.ring].state, s.rings[tk.ring].slots[slot] with
  | .owned c _, some o =>
    if c = tk.call && o.frame = frame then
      s.setRing tk.ring { s.rings[tk.ring] with
        slots := s.rings[tk.ring].slots.set slot
          (some { o with fill := o.fill ||| (1#8 <<< seg.val) }) }
    else s
  | _, _ => s

/-- A piece with memory's answer recorded. -/
def Piece.answered (no : Nat) (ok : Bool) (p : Piece) : Piece :=
  if p.no = no then { p with done := some ok } else p

/-- A course after piece no was answered OK with data. -/
def Course.resolve (no : Nat) (ws : List Word) : Course → Course
  | .raw => .raw
  | .memberRead tk be out => .memberRead tk be (out.map (SampleSource.resolve no ws))
  | .memberWrite tk slot frame => .memberWrite tk slot frame

/-- A request in transform after memory answered its piece no (R36). -/
def Xform.answered (no : Nat) (a : Answer) (x : Xform) : Xform :=
  match a with
  | .ok ws =>
    { x with course := x.course.resolve no ws, pieces := x.pieces.map (Piece.answered no true) }
  | .notReserved => x
  | .fault => { x with pieces := x.pieces.map (Piece.answered no false) }

/-- Every piece has been answered (R55, R58). -/
def Xform.complete (x : Xform) : Bool := x.pieces.all fun p => p.done.isSome

/-- The response of a request whose pieces have all been answered; ws are the data of the last answer,
which are a raw read's own (R48, R55, R58). -/
def Xform.response (x : Xform) (ws : List Word) : Response :=
  if x.pieces.any fun p => p.done = some false then .fault
  else
    match x.course with
    | .raw => .ok ws
    | .memberRead _ be out => .ok (packSamples be out)
    | .memberWrite _ _ _ => .ok []

/-- The data of an answer. -/
def answerData : Answer → List Word
  | .ok ws => ws
  | .notReserved => []
  | .fault => []

/-- The fill bit that a piece's answer sets (R54). -/
def State.fillByAnswer (s : State) (x : Xform) (no : Nat) (a : Answer) : State :=
  match a, x.course, x.pieces.find? fun p => p.no = no with
  | .ok _, .memberWrite tk slot frame, some p => s.setFill tk slot frame p.seg
  | _, _, _ => s

/-- A request leaves its transform place with its response decided (R55, R58). -/
def State.leaveTransform (s : State) (x : Xform) (r : Response) : State :=
  let s := s.setPort { s.port with
    xforms := s.port.xforms.filter fun y => y.acc.id ≠ x.acc.id }
  let s :=
    match x.course.ticket with
    | none => s
    | some tk => s.leaveCounts tk
  s.respond x.acc.id r

/-- Memory answers piece no of the request in transform numbered id (R36, R54, R55, R58). -/
def State.pieceAnswer (s : State) (id no : Nat) (a : Answer) : State :=
  match s.port.xforms.find? fun x => x.acc.id = id with
  | none => s
  | some x =>
    let s := s.fillByAnswer x no a
    let x := x.answered no a
    if x.complete then s.leaveTransform x (x.response (answerData a))
    else s.setPort { s.port with
      xforms := s.port.xforms.map fun y => if y.acc.id = id then x else y }

end Sys2Proof.Machine
end

