-- ==== Sys2Proof/WellFormed.lean ====
section
/-! DEFINITION. Which commands are well formed: the operand ranges that the operands' types do not
already fix. A request covers 1–16 words (R16); a read answer carries at most 16 words, since a
downstream read covers at most 16 (R16, R36, R38). -/

namespace Sys2Proof

/-- A request's length is 1–16 words (R16). -/
def lengthOk (n : Nat) : Bool := decide (1 ≤ n) && decide (n ≤ 16)

/-- An answer carries at most 16 data words (R16, R36). -/
def Answer.dataOk : Answer → Bool
  | .ok data => decide (data.length ≤ 16)
  | .notReserved => true
  | .fault => true

/-- The well-formed commands. -/
def Instr.wellFormed : Instr → Bool
  | .read _ _ _ len => lengthOk len
  | .readReserve _ _ _ len => lengthOk len
  | .write _ _ _ data => lengthOk data.length
  | .writeIfReserved _ _ _ data => lengthOk data.length
  | .memoryAnswer _ _ a => a.dataOk
  | .anchorSelfReadReturn _ a => a.dataOk
  | .requestSelfReadReturn _ _ a => a.dataOk
  | .answerSelfReadReturn _ _ a => a.dataOk
  | .unplannedEntry _ a => a.dataOk
  | .hardReset => true
  | .resetNRise _ _ => true
  | .transformEntry _ => true
  | .downstreamGrant _ => true
  | .responseReturn _ _ => true
  | .selfTrafficPlacement _ => true
  | .ringDrainEnd _ _ => true
  | .signatureWrite _ _ => true
  | .orderProducerCountWrite _ _ => true
  | .completionConsumerCountWrite _ _ => true
  | .claim _ _ => true
  | .release _ _ => true
  | .goAdmit _ _ => true
  | .goResign _ _ => true
  | .goAnswer _ _ => true
  | .orderFetchStart _ => true
  | .orderFetchFault _ => true
  | .badOrderKind _ _ => true
  | .openCall _ _ _ _ _ _ _ _ _ => true
  | .addMember _ _ _ => true
  | .dropMember _ _ _ => true
  | .closeCall _ _ => true
  | .rekeyNow _ _ _ => true
  | .setTiming _ _ _ => true
  | .setEndpoint _ _ _ _ => true
  | .setDirectory _ _ _ _ _ => true
  | .revoke _ _ => true
  | .unlock _ _ => true
  | .reportEndpoints _ _ _ _ => true
  | .reportCall _ _ _ => true
  | .reportSummary _ _ => true
  | .reportCompletion _ => true
  | .restart _ => true
  | .drainingEnd _ => true
  | .noticeDelivery _ => true
  | .heldCompletionWrite _ => true
  | .internalExpiry => true
  | .guardExpiry => true
  | .fsyncEdge _ => true
  | .admitAging _ => true
  | .lockExpiry _ => true
  | .timingChangeTakeEffect _ => true
  | .blankingEnd _ => true
  | .timingChangeCompletion _ => true
  | .visit _ => true
  | .rekeyCountdownExpiry _ => true
  | .slotCheck _ => true
  | .slotDeadlineExpiry _ => true
  | .callCloseEnd _ _ => true
  | .activationWindowLeave => true
  | .callActivationCompletion _ => true
  | .entryActivationCompletion _ => true

end Sys2Proof
end

