-- ==== Sys2Proof/Machine/Port.lean ====
section
/-! DEFINITION. The exchange-bus port and the memory port (chapter 2): regions and rights, acceptance
and arrival, the arbiter's grants with the judgement of MAILBOX requests, and the return of
responses. -/

namespace Sys2Proof.Machine

open Sys2Proof

/-! ## Regions (R12) -/

/-- The byte lies in the area of length len that starts at base (R12). -/
def inArea (base len byte : Nat) : Bool := decide (base ≤ byte) && decide (byte < base + len)

/-- The region of a word address under the plan in force (R12). -/
def State.regionAt (s : State) (w : Nat) : Region :=
  let p := s.thePlan
  if inArea p.voiceBase Config.voiceBytes (4 * w) then .voice
  else if inArea p.mailboxBase Config.mailboxBytes (4 * w) then .mailbox
  else if inArea p.orderBase Config.ringAreaBytes (4 * w) then .order
  else if inArea p.completionBase Config.ringAreaBytes (4 * w) then .completion
  else if inArea s.anchorByte Config.anchorBytes (4 * w) then .anchor
  else .openMem

/-- The first word address of a region; OPEN and pass-through requests have no base, and 0 stands
here (R12). -/
def State.regionWord (s : State) : Region → Nat
  | .voice => s.thePlan.voiceBase / 4
  | .mailbox => s.thePlan.mailboxBase / 4
  | .order => s.thePlan.orderBase / 4
  | .completion => s.thePlan.completionBase / 4
  | .anchor => s.anchorByte / 4
  | .openMem => 0
  | .passThrough => 0

/-! ## Requests -/

/-- A request is a WRITE or a WRITE-IF-RESERVED (R14). -/
def ReqKind.isWrite : ReqKind → Bool
  | .read => false
  | .readReserve => false
  | .write => true
  | .writeIfReserved => true

/-- A request is of a reserve kind (R14). -/
def ReqKind.isReserve : ReqKind → Bool
  | .read => false
  | .write => false
  | .readReserve => true
  | .writeIfReserved => true

/-- The data word of a write that covers the word at offset w, where the write starts at offset off
and sets all four of that word's enables (R13). -/
def fullWordAt (off : Nat) (data : List WriteWord) (w : Nat) : Option Word :=
  if w < off then none
  else
    match data[w - off]? with
    | none => none
    | some x => if x.en = 0xF#4 then some x.data else none

/-- Some data word touches one byte of a sample and not the other (R22). -/
def partialSample (data : List WriteWord) : Bool :=
  data.any fun w =>
    (w.en.getLsbD 0 != w.en.getLsbD 1) || (w.en.getLsbD 2 != w.en.getLsbD 3)

/-! ## Rights (R15) -/

/-- A CONTROL endpoint's right to write the word at an offset of a control region (R15). -/
def controlWrites (region : Region) (k : Nat) : Bool :=
  match region with
  | .order => decide (k ≤ 256)
  | .completion => decide (k = 257)
  | .anchor => decide (k ≠ 0)
  | .mailbox => false
  | .voice => true
  | .openMem => true
  | .passThrough => true

/-- An endpoint's right to the word at an offset of a control region (R14, R15). -/
def State.mayAccess (s : State) (e : EpNo) (isWrite : Bool) (region : Region) (k : Nat) : Bool :=
  match s.endpoints[e].role with
  | .control => !isWrite || controlWrites region k
  | .station =>
    match region with
    | .mailbox => decide (k % 16 = 0) || decide (s.endpoints[e].slot = some (mboxAt k).1)
    | .order => false
    | .completion => false
    | .anchor => false
    | .voice => true
    | .openMem => true
    | .passThrough => true
  | .trunk => false
  | .unused => false

/-- The control regions (R15). -/
def Region.isControl : Region → Bool
  | .mailbox => true
  | .order => true
  | .completion => true
  | .anchor => true
  | .voice => false
  | .openMem => false
  | .passThrough => false

/-- Every word of a burst is allowed (R15). -/
def State.rightsOk (s : State) (a : Accepted) : Bool :=
  (List.range a.req.len).all fun i =>
    s.mayAccess a.req.ep a.req.kind.isWrite a.region (a.off + i)

/-! ## Arrival (R20) -/

/-- A producer count is in range (R165). -/
def Engine.orderInRange (e : Engine) (v : Half) : Bool := decide ((v - e.orderConsumed).toNat ≤ 32)

/-- A consumer count is in range (R169). -/
def Engine.completionInRange (e : Engine) (v : Half) : Bool :=
  decide ((v - e.completionConsumer).toNat ≤ e.used)

/-- The word address of the signature word (R2). -/
def State.signatureWord (s : State) : Nat := s.anchorByte / 4 + 15

/-- The event that a permitted write becomes when memory answers it OK, for the watched words outside
MAILBOX (R2, R13, R165, R169). In UNPLANNED, where no region ends a burst at the anchor's end, a
BOOT_EP burst that covers the signature word is a signature write although it runs on past the anchor.
DESIGN CHOICE (log 34). -/
def State.watchOf (s : State) (r : Request) (region : Region) (off : Nat) : Option Watch :=
  if r.kind.isWrite then
    match region with
    | .passThrough =>
      if r.ep = s.bootEp && fullWordAt r.addr.toNat r.data s.signatureWord = some Config.signature
      then some .signature else none
    | .anchor => if fullWordAt off r.data 15 = some Config.signature then some .signature else none
    | .order => (fullWordAt off r.data 256).map fun w => .orderCount (loHalf w)
    | .completion => (fullWordAt off r.data 257).map fun w => .completionCount (loHalf w)
    | .mailbox => none
    | .voice => none
    | .openMem => none
  else none

/-- A watched count out of range (R165, R169). -/
def State.countOutOfRange (s : State) (a : Accepted) : Bool :=
  match a.watch with
  | some (.orderCount v) => !s.engine.orderInRange v
  | some (.completionCount v) => !s.engine.completionInRange v
  | some .signature => false
  | some (.mailbox _) => false
  | none => false

/-- The checks of a request sorted into VOICE (R21, R22). -/
def State.voiceCheck (s : State) (a : Accepted) : Option Violation :=
  if a.off / 320 ≠ (a.off + a.req.len - 1) / 320 then some .shape
  else if a.req.kind.isReserve then some .shape
  else if a.req.kind.isWrite && s.endpoints[a.req.ep].role = .control then some .foreign
  else if a.req.kind.isWrite && partialSample a.req.data then some .partialSample
  else none

/-- The checks of an arriving request, in order: shape, MAILBOX length, rights, those of VOICE, and the
range of a watched count (R20, R165, R169). -/
def State.arrivalCheck (s : State) (a : Accepted) : Option Violation :=
  let last := a.req.addr.toNat + a.req.len - 1
  if 1073741824 ≤ last || s.regionAt last ≠ a.region then some .shape
  else if a.region = .mailbox && a.req.kind.isReserve && a.req.len ≠ 1 then some .shape
  else if a.region.isControl && !s.rightsOk a then some .foreign
  else if a.region = .voice then s.voiceCheck a
  else if s.countOutOfRange a then some .window
  else none

/-- A request as it is accepted: sorted, with its offset, its arrival call and its watched word (R12,
R46). -/
def State.accepted (s : State) (id : Nat) (r : Request) : Accepted :=
  let region := if s.hasPlan then s.regionAt r.addr.toNat else .passThrough
  let off := r.addr.toNat - s.regionWord region
  let a : Accepted :=
    { id := id, req := r, region := region, off := off, arrivalCall := none, closedUnder := false,
      watch := s.watchOf r region off }
  { a with arrivalCall := s.memberCall a }

/-- The refusal of a request at its arrival, if there is one; none in UNPLANNED (R7, R20). -/
def State.arrivalRefusal (s : State) (a : Accepted) : Option Violation :=
  if s.hasPlan then s.arrivalCheck a else none

/-- A request arrives: it is refused, or it stands in the arrival stage (R20). -/
def State.arrive (s : State) (a : Accepted) : State :=
  match s.arrivalRefusal a with
  | some v => s.refuse a v
  | none => s.setPort { s.port with arrival := some a }

/-- The response order table takes a request (R18, R19). -/
def State.enrol (s : State) (e : EpNo) : State :=
  s.setPort { s.port with
    nextId := s.port.nextId + 1
    responses := s.port.responses ++ [{ id := s.port.nextId, ep := e, response := none }] }

/-- An endpoint offers a request: it is accepted, or back-pressure stands and nothing changes (R18;
log 18). -/
def State.offer (s : State) (r : Request) : State :=
  if s.accepts && lengthOk r.len then (s.enrol r.ep).arrive (s.accepted s.port.nextId r)
  else s

/-! ## Grants (R33, R34, R35) -/

/-- A request to be forwarded is a candidate (R29, R33). -/
def State.forwardable (s : State) (a : Accepted) : Bool := !a.isVoice && !s.endpointObstacle a

/-- A forwarded candidate (R33): a request, or the next piece of a request in transform. -/
inductive Candidate where
  | request (a : Accepted)
  | piece (acc : Accepted) (p : Piece)
  deriving DecidableEq, Repr

/-- A candidate's place in the order of acceptance (R35). -/
def Candidate.id : Candidate → Nat
  | .request a => a.id
  | .piece a _ => a.id

/-- The next unissued piece of a request in transform: the one at the lowest physical address (R35). -/
def Xform.nextPiece (x : Xform) : Option Candidate :=
  (x.pieces.find? fun p => !p.issued).map fun p => .piece x.acc p

/-- The forwarded candidates (R33). -/
def State.candidates (s : State) : List Candidate :=
  ((s.port.hold ++ s.port.arrival.toList).filter s.forwardable).map Candidate.request
    ++ s.port.xforms.filterMap Xform.nextPiece

/-- The forwarded candidate that a grant goes to: the one accepted earliest (R35). -/
def State.nextForwarded (s : State) : Option Candidate :=
  firstBy (fun a b => decide (a.id < b.id)) s.candidates

/-- A word of a self-write, all its enables set. -/
def fullWrite (w : Word) : WriteWord := { data := w, en := 0xF#4 }

/-- Send a request downstream: a write removes the reservations on the words it writes, and the request
awaits memory's answer (R35, R39, R144). A WRITE-IF-RESERVED forwarded as such clears nothing
(R31). -/
def State.send (s : State) (r : DsRequest) (src : DsSource) : State :=
  let s := if r.kind = .write then s.clearByWrite r.addr r.data else s
  s.setPort { s.port with awaiting := s.port.awaiting ++ [{ req := r, src := src }] }

/-- The request that a forwarded request is downstream, with the kind it goes under (R30, R143,
R148). -/
def Accepted.downstream (a : Accepted) (kind : ReqKind) : DsRequest :=
  { kind := kind, addr := a.req.addr.toNat, len := a.req.len, tag := a.req.ep.val,
    data := a.req.data }

/-- Record the mark of an allowed write in its slot (R148, R149, R150). -/
def State.recordMark (s : State) : Option (MboxNo × Mark) → State
  | none => s
  | some (m, k) => s.setMbox m { s.mailboxes[m] with inFlight := some k }

/-- The monitor's part of a MAILBOX request's grant, before its judgement (R143, R144): a READ-RESERVE
sets its reservation, a WRITE-IF-RESERVED loses its own. In UNPLANNED the monitor is not consulted
(R7, R143; log 11). -/
def State.monitorAt (s : State) (a : Accepted) : State :=
  match a.req.kind with
  | .readReserve => if s.hasPlan then s.reserve a.req.ep a.req.addr.toNat else s
  | .writeIfReserved => s.removeReservations fun r => decide (r.ep = a.req.ep)
  | .read => s
  | .write => s

/-- The kind an allowed MAILBOX request goes downstream with (R143, R148). -/
def mailboxKind : ReqKind → ReqKind
  | .read => .read
  | .readReserve => .read
  | .write => .write
  | .writeIfReserved => .write

/-- A MAILBOX request at its grant: judged, then sent, or answered (R32). The flag says whether it took
the downstream place. -/
def State.grantMailbox (s : State) (a : Accepted) : State × Bool :=
  let reserved := s.holdsReservation a.req.ep a.req.addr.toNat
  let s := s.monitorAt a
  match s.judge a reserved with
  | .refuse v => (s.refuse a v, false)
  | .notReserved => (s.respond a.id .notReserved, false)
  | .allow mark =>
    ((s.recordMark mark).send (a.downstream (mailboxKind a.req.kind))
      (.forwarded { a with watch := mark.map fun x => .mailbox x.1 }), true)

/-- A piece issued (R35). -/
def Xform.issue (no : Nat) (x : Xform) : Xform :=
  { x with pieces := x.pieces.map fun p => if p.no = no then { p with issued := true } else p }

/-- The downstream request of a piece (R35): a READ where it carries no data, else a WRITE. -/
def Piece.downstream (p : Piece) (tag : Nat) : DsRequest :=
  { kind := if p.data.isEmpty then .read else .write, addr := p.addr, len := p.len, tag := tag,
    data := p.data }

/-- A grant to a forwarded candidate (R35, R32). The flag says whether it took the downstream place. -/
def State.grantForwarded (s : State) : Candidate → State × Bool
  | .request a =>
    let s := s.takeOut a
    if a.region = .mailbox then s.grantMailbox a
    else (s.send (a.downstream a.req.kind) (.forwarded a), true)
  | .piece a p =>
    let s := s.setPort { s.port with
      xforms := s.port.xforms.map fun x => if x.acc.id = a.id then x.issue p.no else x }
    (s.send (p.downstream a.req.ep.val) (.piece a.id p.no), true)

/-- The downstream request of a self-traffic entry (R35, R38). -/
def SelfEntry.downstream (e : SelfEntry) : DsRequest :=
  { kind := if e.isWrite then .write else .read, addr := e.addr, len := e.len, tag := Config.selfTag,
    data := e.data.map fullWrite }

/-- Set the forwarded-run count (R34). -/
def State.setRun (s : State) (n : Nat) : State := s.setPort { s.port with runCount := n }

/-- A grant to the oldest self-traffic entry (R34). -/
def State.grantSelf (s : State) : State :=
  match s.port.selfQ with
  | [] => s
  | e :: rest =>
    ((s.setPort { s.port with selfQ := rest }).send e.downstream (.self e.src)).setRun 0

/-- One grant; after a judgement that answers its request, the next is made at once, at most fuel times
(R32, R33, R34). -/
def State.grantDownN : Nat → State → State
  | 0, s => s
  | fuel + 1, s =>
    let waits := !s.port.selfQ.isEmpty
    match s.nextForwarded with
    | none => if waits then s.grantSelf else s
    | some c =>
      if waits && decide (Config.runLimit ≤ s.port.runCount) then s.grantSelf
      else
        let run := if waits then s.port.runCount + 1 else 0
        match s.grantForwarded c with
        | (s, true) => s.setRun run
        | (s, false) => State.grantDownN fuel s

/-- Memory takes the arbiter's next request (R33). At most 17 requests stand in the arrival stage and
the hold queue, so at most 17 are answered by a judgement in one grant. While RESET_N is low the
memory port issues nothing (R11). -/
def State.grantDown (s : State) : State :=
  if s.resetLow then s else s.grantDownN (Config.holdPlaces + 2)

/-! ## The return of responses (R19) -/

/-- The oldest entry of an endpoint in the response order table (R19). -/
def State.oldestOf (s : State) (e : EpNo) : Option RespEntry :=
  s.port.responses.find? fun r => r.ep = e

/-- The exchange-bus port returns an endpoint's next response, where it is decided (R19). -/
def State.returnResponse (s : State) (e : EpNo) : State :=
  match s.oldestOf e with
  | none => s
  | some r =>
    match r.response with
    | none => s
    | some x =>
      s.setPort { s.port with
        responses := s.port.responses.filter fun y => y.id ≠ r.id
        returned := some { id := r.id, ep := e, response := x } }

end Sys2Proof.Machine
end

