-- ==== Sys2Proof/Machine/Planning.lean ====
section
/-! DEFINITION. The plan validator (chapter 1): signature events, the checks of a record, the taking
condition, the taking of a plan and the plan status word. -/

namespace Sys2Proof.Machine

open Sys2Proof

/-! ## Validations (R2, R3) -/

/-- The word address of the anchor (R1). -/
def State.anchorWord (s : State) : Nat := s.anchorByte / 4

/-- A validation starts with a 16-word self-read of the anchor (R3). -/
def State.startValidation (s : State) : State :=
  ({ s with validator := { s.validator with inFlight := true } }).place .validator false
    [selfRead s.anchorWord 16 .anchorRead]

/-- A signature event: a validation starts, or the pending flag is set (R2). -/
def State.signatureEvent (s : State) : State :=
  if s.validator.inFlight then { s with validator := { s.validator with pending := true } }
  else s.startValidation

/-! ## The checks (R3, R177) -/

/-- The plan that a record's fields give (1.2). -/
def PlanFields.plan (f : PlanFields) : Plan :=
  { voiceBase := f.voiceBase, mailboxBase := f.mailboxBase, orderBase := f.orderBase,
    completionBase := f.completionBase,
    control := f.control.filterMap fun n => if h : n < 512 then some ⟨n, h⟩ else none,
    source := if f.source = 1 then .internal else .external,
    period := f.period, tAw := f.tAw, challengeLimit := f.challengeLimit, lockout := f.lockout,
    rekeyInterval := f.rekeyInterval, challengeStart := f.challengeStart }

/-- Check 2 passes (R3). -/
def PlanFields.aligned (f : PlanFields) : Bool :=
  decide (f.voiceBase % 4096 = 0) && decide (f.mailboxBase % 64 = 0)
    && decide (f.orderBase % 64 = 0) && decide (f.completionBase % 64 = 0)

/-- Check 3 passes (R3, R177). -/
def PlanFields.inRange (f : PlanFields) : Bool :=
  decide (f.voiceBase + Config.voiceBytes ≤ 4294967296)
    && decide (f.mailboxBase + Config.mailboxBytes ≤ 4294967296)
    && decide (f.orderBase + Config.ringAreaBytes ≤ 4294967296)
    && decide (f.completionBase + Config.ringAreaBytes ≤ 4294967296)
    && (decide (f.source = 1) || decide (f.source = 2))
    && decide (5000 ≤ f.period) && decide (f.period ≤ 40000)
    && decide (2 ≤ f.tAw) && decide (f.tAw ≤ 255)
    && decide (1 ≤ f.challengeLimit) && decide (f.challengeLimit ≤ 250)
    && decide (1 ≤ f.lockout) && decide (f.lockout ≤ 65535)
    && decide (16 ≤ f.rekeyInterval) && decide (f.rekeyInterval ≤ 4096)

/-- Check 4 passes (R3, R177). -/
def PlanFields.controlOk (f : PlanFields) : Bool :=
  !f.control.isEmpty && f.control.all (fun n => decide (n < 512)) && decide f.control.Nodup

/-- Two areas of a list share a byte. -/
def anyMeet : List (Nat × Nat) → Bool
  | [] => false
  | x :: xs => xs.any (rangesMeet x) || anyMeet xs

/-- The first check of R3 that fails, for an anchor at the byte address given. -/
def PlanFields.check (f : PlanFields) (anchor : Nat) : Option PlanOutcome :=
  if f.signature ≠ Config.signature then some .signature
  else if !f.aligned then some .alignment
  else if !f.inRange then some .range
  else if !f.controlOk then some .controlList
  else if anyMeet (planAreas f.plan anchor) then some .overlap
  else none

/-- The taking condition (R4). -/
def State.mayTake (s : State) : Bool :=
  match s.part with
  | .unplanned => true
  | .quiescing => false
  | .planned =>
    s.calls.toList.all Call.isFree
      && s.mailboxes.toList.all (fun m => decide (m.state = .free) && m.inFlight.isNone)
      && s.lanes.toList.all (fun l => decide (l.state ≠ .expanding))
      && s.engine.inExec.isNone && s.engine.held.isNone && !s.timer.blanking

/-- The outcome of a validation whose self-read was answered, with the fields it read (R3, R4). -/
def State.outcomeOf (s : State) (a : Answer) : PlanOutcome :=
  match a with
  | .ok ws =>
    match (planFields ws).check s.anchorByte with
    | some o => o
    | none => if s.mayTake then .taken else .busy
  | .notReserved => .fault
  | .fault => .fault

/-! ## The taking of a plan (R5) -/

/-- An endpoint that held CONTROL becomes UNUSED, before the new control list is applied (R5). -/
def EndpointRec.demoted (e : EndpointRec) : EndpointRec :=
  match e.role with
  | .control => { e with role := .unused }
  | .unused => e
  | .station => e
  | .trunk => e

/-- An endpoint named in the control list gets the role CONTROL; an ADMITTED one goes OUT (R5). -/
def State.makeControl (s : State) (e : EpNo) : State :=
  (s.setEp e { s.endpoints[e] with role := .control }).deadmit e .role

/-- The endpoints named get the role CONTROL, in the order of the list (R5; log 14). -/
def State.makeControls (s : State) : List EpNo → State
  | [] => s
  | e :: es => (s.makeControl e).makeControls es

/-- A lock keeps the number of ticks it has left (R5). -/
def DirEntry.rebase (counter : Word) (d : DirEntry) : DirEntry :=
  { d with lock := d.lock.map fun u => u - counter }

/-- The frame timer at a taking (R5, R121); a timing change ARMED or WAITING is kept (R138). -/
def Timer.taking (t : Timer) (p : Plan) (now : Instant) : Timer :=
  { source := p.source, period := p.period, state := p.source.startState, running := true,
    nextExpiry := some (now + p.source.firstExpiry p.period), lastTick := now, counter := 0#32,
    slips := 0, pass := none, pendingTick := none, change := t.change }

/-- The order engine at a taking: the four counts are 0, the backlog is kept (R5, R164). -/
def Engine.taking (e : Engine) : Engine :=
  { e with
    orderProducer := 0#16, orderConsumed := 0#16, completionProducer := 0#16,
    completionConsumer := 0#16 }

/-- A plan is taken (R5). The notices waiting are delivered before those that the taking raises
(log 14). The pass ends, and the entries of its steps that wait for places go on waiting as such.
DESIGN CHOICE (log 41). -/
def State.takePlan (s : State) (p : Plan) : State :=
  let s := { s with
    part := .planned
    plan := some p
    directory := mapTab (DirEntry.rebase s.timer.counter) s.directory
    endpoints := mapTab EndpointRec.demoted s.endpoints
    timer := s.timer.taking p s.now
    engine := s.engine.taking
    challengeCtr := p.challengeStart
    port := s.port.voidCounts }
  s.emptyMonitor.deliver.makeControls p.control

/-! ## The end of a validation (R4, R6) -/

/-- The plan status write (R6). -/
def State.statusWrite (s : State) (o : PlanOutcome) : State :=
  s.place .validator false [selfWrite s.anchorWord [planStatusWord o s.validator.count] .planStatus]

/-- A record judged TAKEN is taken (R4). -/
def State.applyOutcome (s : State) (a : Answer) (o : PlanOutcome) : State :=
  match a, o with
  | .ok ws, .taken => s.takePlan (planFields ws).plan
  | _, _ => s

/-- A pending signature event starts a new validation at once (R2). -/
def State.restartValidation (s : State) : State :=
  if s.validator.pending then
    ({ s with validator := { s.validator with pending := false } }).startValidation
  else s

/-- The anchor self-read returns, and the validation ends: the outcome takes effect, the status word is
written, and a pending event starts the next validation (R2 to R6). The validator is idle from here on,
its status write waiting for a place in the self-traffic queue or not (R38). DESIGN CHOICE (log 40). -/
def State.endValidation (s : State) (a : Answer) : State :=
  let o := s.outcomeOf a
  let s := { s with validator :=
    { s.validator with inFlight := false, count := s.validator.count + 1#16 } }
  ((s.applyOutcome a o).statusWrite o).restartValidation

end Sys2Proof.Machine
end

