-- ==== Sys2Proof/Machine/Answers.lean ====
section
/-! DEFINITION. Memory's answers (R36): which answers fit a request, and what each does at the source of
the request. -/

namespace Sys2Proof.Machine

open Sys2Proof

/-! ## Forwarded requests (R13, R30, R36) -/

/-- The producer count event (R165). -/
def State.orderCountEvent (s : State) (v : Half) : State :=
  if s.engine.orderInRange v then s.setEngine { s.engine with orderProducer := v } else s

/-- The consumer count event (R169). -/
def State.completionCountEvent (s : State) (v : Half) : State :=
  if s.engine.completionInRange v then s.setEngine { s.engine with completionConsumer := v } else s

/-- The event of a watched write answered OK (R13). -/
def State.watchEvent (s : State) : Watch → State
  | .signature => s.signatureEvent
  | .orderCount v => s.orderCountEvent v
  | .completionCount v => s.completionCountEvent v
  | .mailbox m => s.mailboxEvent m

/-- A watched write that memory did not answer OK: no event, and a slot's in-flight mark is cleared
(R13, R148, R149, R150). -/
def State.watchFailed (s : State) : Watch → State
  | .signature => s
  | .orderCount _ => s
  | .completionCount _ => s
  | .mailbox m => s.clearMark m

/-- The response that an answer decides (R30, R36). -/
def responseOf : Answer → Response
  | .ok ws => .ok ws
  | .notReserved => .notReserved
  | .fault => .fault

/-- The watched word's event, or its failure (R13). -/
def State.watchAnswered (s : State) (w : Option Watch) (a : Answer) : State :=
  match w, a with
  | none, _ => s
  | some w, .ok _ => s.watchEvent w
  | some w, .notReserved => s.watchFailed w
  | some w, .fault => s.watchFailed w

/-- Memory answers a forwarded request (R30, R36). -/
def State.forwardedAnswer (s : State) (x : Accepted) (a : Answer) : State :=
  (s.respond x.id (responseOf a)).watchAnswered x.watch a

/-! ## Self traffic (R36, R37, R174) -/

/-- A self-write answered FAULT raises MEMORY-FAULT with its source (R37, R174). -/
def State.selfWriteFault (s : State) (src : SelfSource) : State :=
  match src.faultData with
  | none => s
  | some d => s.raise .memoryFault .none d

/-- A self-write is answered: OK changes nothing, FAULT raises the notice (R174). -/
def State.selfWriteAnswer (s : State) (src : SelfSource) (a : Answer) : State :=
  match a with
  | .ok _ => s
  | .notReserved => s
  | .fault => s.selfWriteFault src

/-- The order fetch is answered (R166). -/
def State.fetchAnswer (s : State) (a : Answer) : State :=
  match a with
  | .ok ws => s.fetchReturn (decodeOrder ws)
  | .notReserved => s
  | .fault => s.fetchFault

/-- A completion entry's write is answered: that of the RESTART completion brings the part to UNPLANNED
whatever the answer (R10), and a fault of a MEMORY-FAULT entry raises nothing further (R174). -/
def State.entryAnswer (s : State) (kind : CompKind) (restart : Bool) (a : Answer) : State :=
  if restart then s.enterUnplanned
  else if kind = .memoryFault then s
  else s.selfWriteAnswer (.completionEntry kind restart) a

/-- Memory answers a self-traffic entry (R36). -/
def State.selfAnswer (s : State) (src : SelfSource) (a : Answer) : State :=
  match src with
  | .anchorRead => s.endValidation a
  | .planStatus => s.selfWriteAnswer .planStatus a
  | .orderFetch => s.fetchAnswer a
  | .consumedCount => s.selfWriteAnswer .consumedCount a
  | .completionEntry kind restart => s.entryAnswer kind restart a
  | .completionCount => s.selfWriteAnswer .completionCount a
  | .report => s.reportAnswer (decide (a = .fault))
  | .requestRead m => s.requestReturn m a
  | .answerRead m => s.answerReturn m a
  | .mirror m => s.selfWriteAnswer (.mirror m) a
  | .challenge m => s.selfWriteAnswer (.challenge m) a
  | .verdict m => s.selfWriteAnswer (.verdict m) a
  | .claimClear m => s.selfWriteAnswer (.claimClear m) a

/-! ## Answers (R36) -/

/-- An answer that memory can give to a request: OK with one data word for each word a read covers and
none for a write, NOT-RESERVED to a WRITE-IF-RESERVED alone, or FAULT (R17, R36; log 17). -/
def DsRequest.fits (r : DsRequest) (a : Answer) : Bool :=
  match a with
  | .ok ws => decide (ws.length = if r.kind.isWrite then 0 else r.len)
  | .notReserved => decide (r.kind = .writeIfReserved)
  | .fault => true

/-- A list without its i-th element. -/
def dropAt {α : Type} : Nat → List α → List α
  | _, [] => []
  | 0, _ :: xs => xs
  | i + 1, x :: xs => x :: dropAt i xs

/-- A granted request is answered: it awaits memory no more, and the answer goes to its source (R36). -/
def State.answerWith (s : State) (i : Nat) (w : Awaiting) (a : Answer) : State :=
  let s := s.setPort { s.port with awaiting := dropAt i s.port.awaiting }
  match w.src with
  | .forwarded x => s.forwardedAnswer x a
  | .piece id no => s.pieceAnswer id no a
  | .self src => s.selfAnswer src a

/-- Memory answers the i-th of the requests awaiting it (R36). -/
def State.answerAt (s : State) (i : Nat) (a : Answer) : State :=
  match s.port.awaiting[i]? with
  | none => s
  | some w => if w.req.fits a then s.answerWith i w a else s

/-- The place, among the requests awaiting memory, of the first that satisfies p. -/
def State.awaitingIdx (s : State) (p : Awaiting → Bool) : Option Nat := s.port.awaiting.findIdx? p

/-- A request awaiting memory is the self-traffic entry of the source given. -/
def Awaiting.isSelf (src : SelfSource) (w : Awaiting) : Bool := decide (w.src = .self src)

/-- Memory answers the self-traffic entry of the source given, where it awaits an answer. -/
def State.answerSelf (s : State) (src : SelfSource) (a : Answer) : State :=
  match s.awaitingIdx (Awaiting.isSelf src) with
  | none => s
  | some i => s.answerAt i a

/-- A request awaiting memory is the entry write of the RESTART completion (R10). -/
def Awaiting.isRestartEntry (w : Awaiting) : Bool :=
  match w.src with
  | .self (.completionEntry _ restart) => restart
  | .self _ => false
  | .forwarded _ => false
  | .piece _ _ => false

/-- The order fetch that awaits memory returns OK with an order (R166, R167); nothing changes where
none awaits (log 2). -/
def State.returnOrder (s : State) (o : Order) : State :=
  match s.awaitingIdx (Awaiting.isSelf .orderFetch) with
  | none => s
  | some i =>
    (s.setPort { s.port with awaiting := dropAt i s.port.awaiting }).fetchReturn o

/-- The watched write that awaits memory at place i, where it is a forwarded write. -/
def State.awaitedWatch (s : State) (i : Nat) : Option Watch :=
  match s.port.awaiting[i]? with
  | none => none
  | some w =>
    match w.src with
    | .forwarded x => x.watch
    | .piece _ _ => none
    | .self _ => none

/-- The mailbox write in flight that awaits memory at place i: the kind its slot records. -/
def State.awaitedMark (s : State) (i : Nat) : Option MarkKind :=
  match s.awaitedWatch i with
  | some (.mailbox m) => s.mailboxes[m].inFlight.map Mark.kind
  | some .signature => none
  | some (.orderCount _) => none
  | some (.completionCount _) => none
  | none => none

/-- Memory answers OK the i-th awaiting write (R13). -/
def State.answerOk (s : State) (i : Nat) : State := s.answerAt i (.ok [])

/-- Memory answers OK the i-th awaiting request, where it is a mailbox write of the kind given. -/
def State.answerMark (s : State) (i : Nat) (k : MarkKind) : State :=
  if s.awaitedMark i = some k then s.answerOk i else s

end Sys2Proof.Machine
end

