-- ==== Sys2Proof/Machine/AnswerRows.lean ====
section
/-! DEFINITION. The commands that are memory's answers: to any request, to the watched writes (R13), and to the
self-reads of the validator and of the mailbox slots. -/

namespace Sys2Proof.Machine

open Sys2Proof

/-- MEMORY_ANSWER (R36): memory answers the i-th request that awaits it. -/
def execMemoryAnswer (t : Instant) (i : Nat) (a : Answer) (s : State) :
    Host.Outcome State Fault Refusal :=
  .next ((s.atInstant t).answerAt i a).settle

/-- The i-th awaiting request is answered OK where it is a permitted signature write (R2). -/
def State.answerSignature (s : State) (i : Nat) : State :=
  if s.awaitedWatch i = some .signature then s.answerOk i else s

/-- SIGNATURE_WRITE (R2). -/
def execSignatureWrite (t : Instant) (i : Nat) (s : State) :
    Host.Outcome State Fault Refusal :=
  .next ((s.atInstant t).answerSignature i).settle

/-- ANCHOR_SELF_READ_RETURN (R3 to R6). -/
def execAnchorSelfReadReturn (t : Instant) (a : Answer) (s : State) :
    Host.Outcome State Fault Refusal :=
  .next ((s.atInstant t).answerSelf .anchorRead a).settle

/-- The i-th awaiting request is answered OK where it writes the order producer count (R165). -/
def State.answerOrderCount (s : State) (i : Nat) : State :=
  match s.awaitedWatch i with
  | some (.orderCount _) => s.answerOk i
  | some .signature => s
  | some (.completionCount _) => s
  | some (.mailbox _) => s
  | none => s

/-- ORDER_PRODUCER_COUNT_WRITE (R165). -/
def execOrderProducerCountWrite (t : Instant) (i : Nat) (s : State) :
    Host.Outcome State Fault Refusal :=
  .next ((s.atInstant t).answerOrderCount i).settle

/-- The i-th awaiting request is answered OK where it writes the completion consumer count (R169). -/
def State.answerCompletionCount (s : State) (i : Nat) : State :=
  match s.awaitedWatch i with
  | some (.completionCount _) => s.answerOk i
  | some .signature => s
  | some (.orderCount _) => s
  | some (.mailbox _) => s
  | none => s

/-- COMPLETION_CONSUMER_COUNT_WRITE (R169). -/
def execCompletionConsumerCountWrite (t : Instant) (i : Nat) (s : State) :
    Host.Outcome State Fault Refusal :=
  .next ((s.atInstant t).answerCompletionCount i).settle

/-- CLAIM (R148). -/
def execClaim (t : Instant) (i : Nat) (s : State) : Host.Outcome State Fault Refusal :=
  .next ((s.atInstant t).answerMark i .claim).settle

/-- RELEASE (R149). -/
def execRelease (t : Instant) (i : Nat) (s : State) : Host.Outcome State Fault Refusal :=
  .next ((s.atInstant t).answerMark i .release).settle

/-- GO_ADMIT (R150). -/
def execGoAdmit (t : Instant) (i : Nat) (s : State) : Host.Outcome State Fault Refusal :=
  .next ((s.atInstant t).answerMark i .goAdmit).settle

/-- GO_RESIGN (R150). -/
def execGoResign (t : Instant) (i : Nat) (s : State) : Host.Outcome State Fault Refusal :=
  .next ((s.atInstant t).answerMark i .goResign).settle

/-- GO_ANSWER (R150). -/
def execGoAnswer (t : Instant) (i : Nat) (s : State) : Host.Outcome State Fault Refusal :=
  .next ((s.atInstant t).answerMark i .goAnswer).settle

/-- REQUEST_SELF_READ_RETURN (R151, R152). -/
def execRequestSelfReadReturn (t : Instant) (m : MboxNo) (a : Answer) (s : State) :
    Host.Outcome State Fault Refusal :=
  .next ((s.atInstant t).answerSelf (.requestRead m) a).settle

/-- ANSWER_SELF_READ_RETURN (R154). -/
def execAnswerSelfReadReturn (t : Instant) (m : MboxNo) (a : Answer) (s : State) :
    Host.Outcome State Fault Refusal :=
  .next ((s.atInstant t).answerSelf (.answerRead m) a).settle

end Sys2Proof.Machine
end

