-- ==== Sys2Proof/Machine/BusRows.lean ====
section
/-! DEFINITION. The commands of the exchange-bus port, the transform unit and the memory port's arbiter (chapters 2
and 3). -/

namespace Sys2Proof.Machine

open Sys2Proof

/-- READ (R16, R18, R20): an endpoint offers a READ. -/
def execRead (t : Instant) (ep : EpNo) (addr : WordAddr) (len : Nat) (s : State) :
    Host.Outcome State Fault Refusal :=
  .next ((s.atInstant t).offer
    { kind := .read, ep := ep, addr := addr, len := len, data := [] }).settle

/-- WRITE (R16, R18, R20): an endpoint offers a WRITE. -/
def execWrite (t : Instant) (ep : EpNo) (addr : WordAddr) (data : List WriteWord) (s : State) :
    Host.Outcome State Fault Refusal :=
  .next ((s.atInstant t).offer
    { kind := .write, ep := ep, addr := addr, len := data.length, data := data }).settle

/-- READ_RESERVE (R16, R18, R20, R143): an endpoint offers a READ-RESERVE. -/
def execReadReserve (t : Instant) (ep : EpNo) (addr : WordAddr) (len : Nat) (s : State) :
    Host.Outcome State Fault Refusal :=
  .next ((s.atInstant t).offer
    { kind := .readReserve, ep := ep, addr := addr, len := len, data := [] }).settle

/-- WRITE_IF_RESERVED (R16, R18, R20, R147): an endpoint offers a WRITE-IF-RESERVED. -/
def execWriteIfReserved (t : Instant) (ep : EpNo) (addr : WordAddr) (data : List WriteWord)
    (s : State) : Host.Outcome State Fault Refusal :=
  .next ((s.atInstant t).offer
    { kind := .writeIfReserved, ep := ep, addr := addr, len := data.length, data := data }).settle

/-- The earliest eligible VOICE request enters a free transform place (R28, R47). -/
def State.transformNext (s : State) : State :=
  match s.nextEntry with
  | none => s
  | some a => (s.takeOut a).enter a

/-- TRANSFORM_ENTRY (R28, R47). -/
def execTransformEntry (t : Instant) (s : State) : Host.Outcome State Fault Refusal :=
  .next (s.atInstant t).transformNext.settle

/-- DOWNSTREAM_GRANT (R32 to R35). -/
def execDownstreamGrant (t : Instant) (s : State) : Host.Outcome State Fault Refusal :=
  .next (s.atInstant t).grantDown.settle

/-- RESPONSE_RETURN (R19). -/
def execResponseReturn (t : Instant) (ep : EpNo) (s : State) :
    Host.Outcome State Fault Refusal :=
  .next ((s.atInstant t).returnResponse ep)

/-- SELF_TRAFFIC_PLACEMENT (R38): waiting blocks place their entries while they fit. -/
def execSelfTrafficPlacement (t : Instant) (s : State) : Host.Outcome State Fault Refusal :=
  .next (s.atInstant t).placeWaiting.settle

/-- RING_DRAIN_END (R43): a DRAINING ring whose in-transform count is 0 goes FREE. -/
def execRingDrainEnd (t : Instant) (ring : RingNo) (s : State) :
    Host.Outcome State Fault Refusal :=
  .next ((s.atInstant t).endRingDrain ring).settle

end Sys2Proof.Machine
end

