-- ==== Sys2Proof/Machine/LaneRows.lean ====
section
/-! DEFINITION. The commands of the key lane bank (chapter 5): the window and the completions of activations. -/

namespace Sys2Proof.Machine

open Sys2Proof

/-- The instant at which the oldest start in the window leaves it (R85). -/
def State.nextLeave (s : State) : Option Instant :=
  (s.starts.find? (inWindow s.thePlan.tAw s.now)).map fun x => x + s.thePlan.tAw * Config.nsPerUs

/-- The oldest start in the window leaves it: time reaches that instant (R85; log 29). No activation
starts, and no window has a length, in UNPLANNED (R86). -/
def State.leaveWindow (s : State) : State :=
  if s.hasPlan then
    match s.nextLeave with
    | none => s
    | some e => s.atInstant e
  else s

/-- ACTIVATION_WINDOW_LEAVE (R85, R87). -/
def execActivationWindowLeave (s : State) : Host.Outcome State Fault Refusal :=
  .next s.leaveWindow.settle

/-- The activation of a call's lane, or of a detached lane, completes at its completion instant (R92). -/
def State.completeCallLane (s : State) (l : LaneNo) : State :=
  match s.lanes[l].state, s.lanes[l].subject, s.lanes[l].expansion with
  | .expanding, none, some x => (s.atInstant x.finish).completeCall l x
  | .expanding, some (.call _), some x => (s.atInstant x.finish).completeCall l x
  | _, _, _ => s

/-- CALL_ACTIVATION_COMPLETION (R92, R118). -/
def execCallActivationCompletion (lane : LaneNo) (s : State) :
    Host.Outcome State Fault Refusal :=
  .next (s.completeCallLane lane).settle

/-- The activation of a directory entry's lane completes at its completion instant (R93). -/
def State.completeEntryLane (s : State) (l : LaneNo) : State :=
  match s.lanes[l].state, s.lanes[l].subject, s.lanes[l].expansion with
  | .expanding, some (.entry d), some x => (s.atInstant x.finish).completeEntry l d x
  | _, _, _ => s

/-- ENTRY_ACTIVATION_COMPLETION (R93, R155). -/
def execEntryActivationCompletion (lane : LaneNo) (s : State) :
    Host.Outcome State Fault Refusal :=
  .next (s.completeEntryLane lane).settle

end Sys2Proof.Machine
end

