-- ==== Sys2Proof/Machine/OrderRows.lean ====
section
/-! DEFINITION. The commands of the order engine (chapter 9) and of RESTART (1.5): fetches, the orders as their
fetches return them, completions and notices. -/

namespace Sys2Proof.Machine

open Sys2Proof

/-- ORDER_FETCH_START (R166): the engine starts fetching when it may. -/
def execOrderFetchStart (t : Instant) (s : State) : Host.Outcome State Fault Refusal :=
  .next (s.atInstant t).startFetch.settle

/-- ORDER_FETCH_FAULT (R166): the fetch outstanding is answered FAULT. -/
def execOrderFetchFault (t : Instant) (s : State) : Host.Outcome State Fault Refusal :=
  .next ((s.atInstant t).answerSelf .orderFetch .fault).settle

/-- The fetch returns an entry whose kind code names no order (R178); a code that names one is another
row's event (log 2). -/
def State.returnUnknown (s : State) (kind : Byte) : State :=
  if orderKindCodes.contains kind then s else s.returnOrder (.unknown kind)

/-- BAD_ORDER_KIND (R167, R178). -/
def execBadOrderKind (t : Instant) (kind : Byte) (s : State) :
    Host.Outcome State Fault Refusal :=
  .next ((s.atInstant t).returnUnknown kind).settle

/-- OPEN_CALL (R102, R103, R178): the fetch returns an OPEN-CALL. -/
def execOpenCall (t : Instant) (call : Half) (count level : Byte) (e0 e1 e2 e3 : Half)
    (key : Key) (s : State) :
    Host.Outcome State Fault Refusal :=
  .next ((s.atInstant t).returnOrder (.openCall call count level e0 e1 e2 e3 key)).settle

/-- ADD_MEMBER (R104, R178). -/
def execAddMember (t : Instant) (call ep : Half) (s : State) :
    Host.Outcome State Fault Refusal :=
  .next ((s.atInstant t).returnOrder (.addMember call ep)).settle

/-- DROP_MEMBER (R104, R178). -/
def execDropMember (t : Instant) (call ep : Half) (s : State) :
    Host.Outcome State Fault Refusal :=
  .next ((s.atInstant t).returnOrder (.dropMember call ep)).settle

/-- CLOSE_CALL (R110, R178). -/
def execCloseCall (t : Instant) (call : Half) (s : State) :
    Host.Outcome State Fault Refusal :=
  .next ((s.atInstant t).returnOrder (.closeCall call)).settle

/-- REKEY_NOW (R112, R178). -/
def execRekeyNow (t : Instant) (call : Half) (level : Byte) (s : State) :
    Host.Outcome State Fault Refusal :=
  .next ((s.atInstant t).returnOrder (.rekeyNow call level)).settle

/-- SET_TIMING (R135). -/
def execSetTiming (t : Instant) (source : Byte) (period : Word) (s : State) :
    Host.Outcome State Fault Refusal :=
  .next ((s.atInstant t).returnOrder (.setTiming source period)).settle

/-- SET_ENDPOINT (R158, R178). -/
def execSetEndpoint (t : Instant) (ep : Half) (role order : Byte) (s : State) :
    Host.Outcome State Fault Refusal :=
  .next ((s.atInstant t).returnOrder (.setEndpoint ep role order)).settle

/-- SET_DIRECTORY (R159, R178). -/
def execSetDirectory (t : Instant) (index : Half) (enabled : Byte) (number : Word)
    (secret : Key) (s : State) :
    Host.Outcome State Fault Refusal :=
  .next ((s.atInstant t).returnOrder (.setDirectory index enabled number secret)).settle

/-- REVOKE (R160). -/
def execRevoke (t : Instant) (ep : Half) (s : State) :
    Host.Outcome State Fault Refusal :=
  .next ((s.atInstant t).returnOrder (.revoke ep)).settle

/-- UNLOCK (R161). -/
def execUnlock (t : Instant) (index : Half) (s : State) :
    Host.Outcome State Fault Refusal :=
  .next ((s.atInstant t).returnOrder (.unlock index)).settle

/-- REPORT_ENDPOINTS (R175, R178). -/
def execReportEndpoints (t : Instant) (first count : Half) (buffer : Word) (s : State) :
    Host.Outcome State Fault Refusal :=
  .next ((s.atInstant t).returnOrder (.report 1#8 first count buffer)).settle

/-- REPORT_CALL (R175, R178). -/
def execReportCall (t : Instant) (call : Half) (buffer : Word) (s : State) :
    Host.Outcome State Fault Refusal :=
  .next ((s.atInstant t).returnOrder (.report 2#8 call 0#16 buffer)).settle

/-- REPORT_SUMMARY (R175, R178). -/
def execReportSummary (t : Instant) (buffer : Word) (s : State) :
    Host.Outcome State Fault Refusal :=
  .next ((s.atInstant t).returnOrder (.report 3#8 0#16 0#16 buffer)).settle

/-- REPORT_COMPLETION (R175): every record write of the REPORT in execution has been answered. -/
def execReportCompletion (t : Instant) (s : State) : Host.Outcome State Fault Refusal :=
  .next (s.atInstant t).finishReport.settle

/-- RESTART (R8, R97). -/
def execRestart (t : Instant) (s : State) : Host.Outcome State Fault Refusal :=
  .next ((s.atInstant t).returnOrder .restart).settle

/-- DRAINING_END (R10): the RESTART completion is written. -/
def execDrainingEnd (t : Instant) (s : State) : Host.Outcome State Fault Refusal :=
  .next (s.atInstant t).endDraining.settle

/-- The entry write of the RESTART completion is answered (R10). -/
def State.answerRestart (s : State) (a : Answer) : State :=
  match s.awaitingIdx Awaiting.isRestartEntry with
  | none => s
  | some i => s.answerAt i a

/-- UNPLANNED_ENTRY (R10). -/
def execUnplannedEntry (t : Instant) (a : Answer) (s : State) :
    Host.Outcome State Fault Refusal :=
  .next ((s.atInstant t).answerRestart a).settle

/-- NOTICE_DELIVERY (R172). -/
def execNoticeDelivery (t : Instant) (s : State) : Host.Outcome State Fault Refusal :=
  .next (s.atInstant t).deliver.settle

/-- HELD_COMPLETION_WRITE (R170). -/
def execHeldCompletionWrite (t : Instant) (s : State) : Host.Outcome State Fault Refusal :=
  .next (s.atInstant t).writeHeld.settle

end Sys2Proof.Machine
end

