-- ==== Sys2Proof/Machine/ResetRows.lean ====
section
/-! DEFINITION. The commands of the reset pin (R1, R11, R40). -/

namespace Sys2Proof.Machine

open Sys2Proof

/-- The part while RESET_N is low: every table as after a hard reset, nothing accepted and nothing
issued, and requests not yet answered dropped without a response (R11, R40; log 6). The straps keep
the values last sampled (R1). -/
def State.hardReset (s : State) : State :=
  { State.reset with
    now := s.now, resetLow := true, anchorSel := s.anchorSel, bootEp := s.bootEp,
    pending := s.pending }

/-- RESET_N rises: the straps are sampled and every table starts empty (R1, R11). A rise taken while
RESET_N is high already is a whole hard reset too. DESIGN CHOICE (log 33). -/
def State.riseReset (s : State) (anchorSel : BitVec 8) (bootEp : EpNo) : State :=
  { State.reset with
    now := s.now, anchorSel := anchorSel, bootEp := bootEp, pending := s.pending }

/-- HARD_RESET (R11): RESET_N falls; taken while it is low already it changes nothing further than
the fall did (log 33). -/
def execHardReset (s : State) : Host.Outcome State Fault Refusal :=
  .next s.hardReset

/-- RESET_N_RISE (R1, R11), in whatever state RESET_N stands (log 33). -/
def execResetNRise (anchorSel : BitVec 8) (bootEp : EpNo) (s : State) :
    Host.Outcome State Fault Refusal :=
  .next (s.riseReset anchorSel bootEp)

end Sys2Proof.Machine
end

