-- ==== Sys2Proof/Machine/TimerRows.lean ====
section
/-! DEFINITION. The commands of the frame timer and of the scan pass (chapter 7), and the end of a call's
close. -/

namespace Sys2Proof.Machine

open Sys2Proof

/-- The expiry of the internal period, where one is due (R122, R124). -/
def State.internalExpiry (s : State) : State :=
  match s.timer.internalDue with
  | none => s
  | some e => s.internalTick e

/-- INTERNAL_EXPIRY (R122, R124, R127, R128). -/
def execInternalExpiry (s : State) : Host.Outcome State Fault Refusal :=
  .next s.internalExpiry.settle

/-- The expiry of the guard, where one is due (R124). -/
def State.guardExpiry (s : State) : State :=
  match s.timer.guardDue with
  | none => s
  | some e => s.guardTick e

/-- GUARD_EXPIRY (R124, R127, R128). -/
def execGuardExpiry (s : State) : Host.Outcome State Fault Refusal :=
  .next s.guardExpiry.settle

/-- FSYNC_EDGE (R123, R125, R127, R128). -/
def execFsyncEdge (t : Instant) (s : State) : Host.Outcome State Fault Refusal :=
  .next (s.atInstant t).edge.settle

/-- ADMIT_AGING (R84). -/
def execAdmitAging (t : Instant) (s : State) : Host.Outcome State Fault Refusal :=
  .next (s.atInstant t).ageRequests.settle

/-- LOCK_EXPIRY (R127, R142). -/
def execLockExpiry (t : Instant) (s : State) : Host.Outcome State Fault Refusal :=
  .next (s.atInstant t).expireLocks.settle

/-- A timing change is ARMED (R135). -/
def Timer.armed (t : Timer) : Bool :=
  match t.change with
  | .armed _ _ _ => true
  | .none => false
  | .blanking _ => false
  | .waiting _ => false

/-- The taken tick that finds a timing change ARMED (R136). -/
def State.tickArmed (s : State) (cause : TickCause) : State :=
  if s.takesTick cause && s.timer.armed then s.timerEvent cause else s

/-- TIMING_CHANGE_TAKE_EFFECT (R136). -/
def execTimingChangeTakeEffect (cause : TickCause) (s : State) :
    Host.Outcome State Fault Refusal :=
  .next (s.tickArmed cause).settle

/-- The taken tick that ends a blanking interval (R137). -/
def State.tickBlanking (s : State) (cause : TickCause) : State :=
  if s.takesTick cause && s.timer.blanking then s.timerEvent cause else s

/-- BLANKING_END (R137). -/
def execBlankingEnd (cause : TickCause) (s : State) : Host.Outcome State Fault Refusal :=
  .next (s.tickBlanking cause).settle

/-- TIMING_CHANGE_COMPLETION (R137). -/
def execTimingChangeCompletion (t : Instant) (s : State) : Host.Outcome State Fault Refusal :=
  .next (s.atInstant t).writeTimingDone.settle

/-- The pass's next visit, where one is due (R113, R129). -/
def State.visitNext (s : State) : State :=
  match s.dueVisit with
  | none => s
  | some (p, c) => s.passVisit p c

/-- VISIT (R113). -/
def execVisit (t : Instant) (s : State) : Host.Outcome State Fault Refusal :=
  .next (s.atInstant t).visitNext.settle

/-- A rekey will be due at the call's next visit, if the visit reaches point 6 (R113, R116): the epoch
does not advance at it, and the countdown falls to 0 or stands there, or the REKEY-NOW flag is set
(log 42). -/
def Call.rekeyNext (c : Call) : Bool :=
  !c.willAdvance && (decide (c.countdown ≤ 1) || c.rekeyNow)

/-- The pass's next visit, where it is one at which a rekey is due (R116). That is judged on the call as
the visit finds it: a visit whose point 5 then closes the call, so that its point 6 is not carried out
(R113), is made all the same. DESIGN CHOICE (log 42). -/
def State.visitRekey (s : State) : State :=
  match s.dueVisit with
  | none => s
  | some (p, c) => if s.calls[c].rekeyNext then s.passVisit p c else s

/-- REKEY_COUNTDOWN_EXPIRY (R116, R117). -/
def execRekeyCountdownExpiry (t : Instant) (s : State) : Host.Outcome State Fault Refusal :=
  .next (s.atInstant t).visitRekey.settle

/-- The pass's next slot check, where one is due (R129, R133). -/
def State.checkNext (s : State) : State :=
  match s.dueCheck with
  | none => s
  | some (p, m) => s.passCheck p m

/-- SLOT_CHECK (R133). -/
def execSlotCheck (t : Instant) (s : State) : Host.Outcome State Fault Refusal :=
  .next (s.atInstant t).checkNext.settle

/-- The pass's next slot check, where it expires the slot (R133, R156). -/
def State.checkExpiry (s : State) : State :=
  match s.dueCheck with
  | none => s
  | some (p, m) => if s.mailboxes[m].expired p.number then s.passCheck p m else s

/-- SLOT_DEADLINE_EXPIRY (R133, R156). -/
def execSlotDeadlineExpiry (t : Instant) (s : State) : Host.Outcome State Fault Refusal :=
  .next (s.atInstant t).checkExpiry.settle

/-- CALL_CLOSE_END (R111). -/
def execCallCloseEnd (t : Instant) (call : CallNo) (s : State) :
    Host.Outcome State Fault Refusal :=
  .next ((s.atInstant t).endClose call).settle

end Sys2Proof.Machine
end

