-- ==== Sys2Proof/Machine/Dispatch.lean ====
section
/-! DEFINITION. The effect of a command: one arm for each row of the table. -/

namespace Sys2Proof.Machine

open Sys2Proof

def exec (i : Instr) (s : State) : Host.Outcome State Fault Refusal :=
  match i with
  | .hardReset => Sys2Proof.Machine.execHardReset s
  | .resetNRise anchorSel bootEp => Sys2Proof.Machine.execResetNRise anchorSel bootEp s
  | .read t ep addr len => Sys2Proof.Machine.execRead t ep addr len s
  | .write t ep addr data => Sys2Proof.Machine.execWrite t ep addr data s
  | .readReserve t ep addr len => Sys2Proof.Machine.execReadReserve t ep addr len s
  | .writeIfReserved t ep addr data => Sys2Proof.Machine.execWriteIfReserved t ep addr data s
  | .transformEntry t => Sys2Proof.Machine.execTransformEntry t s
  | .downstreamGrant t => Sys2Proof.Machine.execDownstreamGrant t s
  | .memoryAnswer t n a => Sys2Proof.Machine.execMemoryAnswer t n a s
  | .responseReturn t ep => Sys2Proof.Machine.execResponseReturn t ep s
  | .selfTrafficPlacement t => Sys2Proof.Machine.execSelfTrafficPlacement t s
  | .ringDrainEnd t ring => Sys2Proof.Machine.execRingDrainEnd t ring s
  | .signatureWrite t n => Sys2Proof.Machine.execSignatureWrite t n s
  | .anchorSelfReadReturn t a => Sys2Proof.Machine.execAnchorSelfReadReturn t a s
  | .orderProducerCountWrite t n => Sys2Proof.Machine.execOrderProducerCountWrite t n s
  | .completionConsumerCountWrite t n => Sys2Proof.Machine.execCompletionConsumerCountWrite t n s
  | .claim t n => Sys2Proof.Machine.execClaim t n s
  | .release t n => Sys2Proof.Machine.execRelease t n s
  | .goAdmit t n => Sys2Proof.Machine.execGoAdmit t n s
  | .goResign t n => Sys2Proof.Machine.execGoResign t n s
  | .goAnswer t n => Sys2Proof.Machine.execGoAnswer t n s
  | .requestSelfReadReturn t m a => Sys2Proof.Machine.execRequestSelfReadReturn t m a s
  | .answerSelfReadReturn t m a => Sys2Proof.Machine.execAnswerSelfReadReturn t m a s
  | .orderFetchStart t => Sys2Proof.Machine.execOrderFetchStart t s
  | .orderFetchFault t => Sys2Proof.Machine.execOrderFetchFault t s
  | .badOrderKind t kind => Sys2Proof.Machine.execBadOrderKind t kind s
  | .openCall t call count level e0 e1 e2 e3 key => Sys2Proof.Machine.execOpenCall t call count level e0 e1 e2 e3 key s
  | .addMember t call ep => Sys2Proof.Machine.execAddMember t call ep s
  | .dropMember t call ep => Sys2Proof.Machine.execDropMember t call ep s
  | .closeCall t call => Sys2Proof.Machine.execCloseCall t call s
  | .rekeyNow t call level => Sys2Proof.Machine.execRekeyNow t call level s
  | .setTiming t source period => Sys2Proof.Machine.execSetTiming t source period s
  | .setEndpoint t ep role order => Sys2Proof.Machine.execSetEndpoint t ep role order s
  | .setDirectory t index enabled number secret => Sys2Proof.Machine.execSetDirectory t index enabled number secret s
  | .revoke t ep => Sys2Proof.Machine.execRevoke t ep s
  | .unlock t index => Sys2Proof.Machine.execUnlock t index s
  | .reportEndpoints t first count buffer => Sys2Proof.Machine.execReportEndpoints t first count buffer s
  | .reportCall t call buffer => Sys2Proof.Machine.execReportCall t call buffer s
  | .reportSummary t buffer => Sys2Proof.Machine.execReportSummary t buffer s
  | .reportCompletion t => Sys2Proof.Machine.execReportCompletion t s
  | .restart t => Sys2Proof.Machine.execRestart t s
  | .drainingEnd t => Sys2Proof.Machine.execDrainingEnd t s
  | .unplannedEntry t a => Sys2Proof.Machine.execUnplannedEntry t a s
  | .noticeDelivery t => Sys2Proof.Machine.execNoticeDelivery t s
  | .heldCompletionWrite t => Sys2Proof.Machine.execHeldCompletionWrite t s
  | .internalExpiry => Sys2Proof.Machine.execInternalExpiry s
  | .guardExpiry => Sys2Proof.Machine.execGuardExpiry s
  | .fsyncEdge t => Sys2Proof.Machine.execFsyncEdge t s
  | .admitAging t => Sys2Proof.Machine.execAdmitAging t s
  | .lockExpiry t => Sys2Proof.Machine.execLockExpiry t s
  | .timingChangeTakeEffect cause => Sys2Proof.Machine.execTimingChangeTakeEffect cause s
  | .blankingEnd cause => Sys2Proof.Machine.execBlankingEnd cause s
  | .timingChangeCompletion t => Sys2Proof.Machine.execTimingChangeCompletion t s
  | .visit t => Sys2Proof.Machine.execVisit t s
  | .rekeyCountdownExpiry t => Sys2Proof.Machine.execRekeyCountdownExpiry t s
  | .slotCheck t => Sys2Proof.Machine.execSlotCheck t s
  | .slotDeadlineExpiry t => Sys2Proof.Machine.execSlotDeadlineExpiry t s
  | .callCloseEnd t call => Sys2Proof.Machine.execCallCloseEnd t call s
  | .activationWindowLeave => Sys2Proof.Machine.execActivationWindowLeave s
  | .callActivationCompletion lane => Sys2Proof.Machine.execCallActivationCompletion lane s
  | .entryActivationCompletion lane => Sys2Proof.Machine.execEntryActivationCompletion lane s

end Sys2Proof.Machine
end

