-- ==== Sys2Proof/Safety.lean ====
section
/-! DEFINITION. What a safe state is, in the terms the statements use: the bounds and agreements that
the manual states of the part's tables, and the conditions under which a command's event stands. -/

namespace Sys2Proof.Machine

open Sys2Proof

/-! ## Bounds and agreements -/

/-- The self-traffic queue holds at most 8 entries (R38). -/
def State.SelfQueueBounded (s : State) : Prop := s.port.selfQ.length ≤ 8

/-- The reservation monitor holds at most 16 reservations (R143). -/
def State.MonitorBounded (s : State) : Prop := s.monitor.length ≤ 16

/-- The completion producer count is at most 64 ahead of the consumer count (R169). -/
def State.CompletionsBounded (s : State) : Prop :=
  (s.engine.completionProducer - s.engine.completionConsumer).toNat ≤ 64

/-- Every fail count lies in 0–2 (R142). -/
def State.FailsBounded (s : State) : Prop := ∀ d : EntryNo, s.directory[d].fails ≤ 2

/-- No call's debt exceeds 8, its switch list 2 entries, or its member list 4 (R99). -/
def State.CallsBounded (s : State) : Prop :=
  ∀ c : CallNo, s.calls[c].debt ≤ 8 ∧ s.calls[c].switches.length ≤ 2 ∧ s.calls[c].members.length ≤ 4

/-- The hold queue, with the request in the arrival stage, holds at most 16 requests, the response
order table 32, the transform unit 4, and the run count is at most 3 (R18, R19, R28, R34). -/
def State.PortBounded (s : State) : Prop :=
  s.port.hold.length + s.port.arrival.toList.length ≤ 16 ∧ s.port.responses.length ≤ 32
    ∧ s.port.xforms.length ≤ 4 ∧ s.port.runCount ≤ 3

/-- The arbiter lists at most four start instants (R85). -/
def State.StartsBounded (s : State) : Prop := s.starts.length ≤ 4

/-- The backlog holds at most one notice of each kind (R164, R171). -/
def State.BacklogDistinct (s : State) : Prop := (s.engine.backlog.map Notice.kind).Nodup

/-- ALERT has the level of R173: asserted in PLANNED and QUIESCING while a completion waits to be
consumed or a notice waits, deasserted otherwise. -/
def State.AlertRight (s : State) : Prop :=
  s.alert = true ↔
    (s.part = .planned ∨ s.part = .quiescing)
      ∧ (s.engine.completionProducer ≠ s.engine.completionConsumer ∨ s.engine.backlog ≠ [])

/-- A mailbox slot carries a deadline exactly in CLAIMED, CHALLENGED and DECIDED, and an owner exactly
outside FREE (R145). -/
def State.SlotsWellFormed (s : State) : Prop :=
  ∀ m : MboxNo,
    (s.mailboxes[m].deadline.isSome = true ↔
      s.mailboxes[m].state = .claimed ∨ s.mailboxes[m].state = .challenged
        ∨ s.mailboxes[m].state = .decided)
    ∧ (s.mailboxes[m].owner.isSome = true ↔ s.mailboxes[m].state ≠ .free)

/-- The reservation monitor and the reservation fields of the endpoints name each other, and no
reservation stands twice (R140, R143). -/
def State.ReservationsAgree (s : State) : Prop :=
  s.monitor.Nodup
    ∧ ∀ (e : EpNo) (w : Nat), s.endpoints[e].reservation = some w ↔ { ep := e, word := w } ∈ s.monitor

/-- The response order table holds no request twice, and only requests accepted (R19; log 24). -/
def State.ResponsesDistinct (s : State) : Prop :=
  (s.port.responses.map RespEntry.id).Nodup ∧ ∀ x ∈ s.port.responses, x.id < s.port.nextId

/-- Members, call fields and talk rings name each other: no endpoint and no ring stands twice in a call
or in two calls, and a FREE call has no member (R99, R100, R101). -/
def State.CallsPaired (s : State) : Prop :=
  (∀ c : CallNo, (s.calls[c].members.map Member.ep).Nodup
    ∧ (s.calls[c].members.map Member.ring).Nodup
    ∧ (s.calls[c].state = .free → s.calls[c].members = []))
  ∧ (∀ (e : EpNo) (c : CallNo),
    s.endpoints[e].call = some c ↔ ∃ m ∈ s.calls[c].members, m.ep = e)
  ∧ ∀ (r : RingNo) (c : CallNo) (e : EpNo),
    s.rings[r].state = .owned c e ↔ { ep := e, ring := r } ∈ s.calls[c].members

/-- The slot field of an endpoint and the owner of a slot name each other, and an endpoint whose claim is
in flight owns no slot and has no other claim in flight (R140, R148). -/
def State.SlotsPaired (s : State) : Prop :=
  (∀ (m : MboxNo) (e : EpNo), s.mailboxes[m].owner = some e ↔ s.endpoints[e].slot = some m)
  ∧ ∀ (m : MboxNo) (k : Mark), s.mailboxes[m].inFlight = some k → k.kind = .claim →
    s.endpoints[k.ep].slot = none
      ∧ ∀ (m' : MboxNo) (k' : Mark), s.mailboxes[m'].inFlight = some k' → k'.kind = .claim →
        k'.ep = k.ep → m' = m

/-- An ADMITTED endpoint and its directory entry name each other, the owner of a slot in CHALLENGED or
ANSWERED is OUT, and a go code ANSWER in flight was judged in CHALLENGED (R141, R150, R151). -/
def State.AdmissionPaired (s : State) : Prop :=
  (∀ (e : EpNo) (d : EntryNo), s.endpoints[e].admitted = some d ↔ s.directory[d].admittedEp = some e)
  ∧ ∀ (m : MboxNo) (e : EpNo),
    (s.mailboxes[m].state = .challenged ∨ s.mailboxes[m].state = .answered →
      s.mailboxes[m].owner = some e → s.endpoints[e].admitted = none)
    ∧ ∀ k, s.mailboxes[m].inFlight = some k → k.kind = .goAnswer → k.judged = .challenged

/-- A self-traffic entry is the entry write of the RESTART completion (R10). -/
def SelfEntry.isRestart (e : SelfEntry) : Bool :=
  match e.src with
  | .completionEntry _ restart => restart
  | _ => false

/-- The entry writes of the RESTART completion that a waiting block places. -/
def Waiter.restarts : Waiter → Nat
  | .entries _ _ es => es.countP SelfEntry.isRestart
  | .reportWrite => 0

/-- The entry writes of the RESTART completion not yet answered, in the queue, waiting for it or
downstream. -/
def Port.restarts (p : Port) : Nat :=
  p.selfQ.countP SelfEntry.isRestart + (p.waiters.map Waiter.restarts).sum
    + p.awaiting.countP Awaiting.isRestartEntry

/-- While RESTART is in execution the part is QUIESCING, no call is OPEN and every slot is FREE, with every
watched write in flight voided; its completion's entry write stands only once, and only when every call
is FREE (R8, R9, R10). -/
def State.RestartQuiet (s : State) : Prop :=
  s.port.restarts ≤ 1
  ∧ (0 < s.port.restarts → ∃ q, s.engine.inExec = some { seq := q, phase := .restart true })
  ∧ ∀ (q : Half) (written : Bool), s.engine.inExec = some { seq := q, phase := .restart written } →
    s.part = .quiescing ∧ (∀ c : CallNo, s.calls[c].state ≠ .opened)
    ∧ (∀ m : MboxNo, s.mailboxes[m].state = .free
      ∧ ∀ k, s.mailboxes[m].inFlight = some k → k.voided = true)
    ∧ (written = true → ∀ c : CallNo, s.calls[c].state = .free)

/-- A call's lane field and the lane's subject name each other, no directory entry has two lanes, an EMPTY
lane has no subject, a READY one a call, a FREE call no lane, and only OPEN calls have waiting requests
(R79, R90, R93, R96, R99). -/
def State.LanesPaired (s : State) : Prop :=
  (∀ (c : CallNo) (l : LaneNo), s.calls[c].lane = some l ↔ s.lanes[l].subject = some (.call c))
  ∧ (∀ (d : EntryNo) (l l' : LaneNo), s.lanes[l].subject = some (.entry d) →
    s.lanes[l'].subject = some (.entry d) → l = l')
  ∧ (∀ l : LaneNo, (s.lanes[l].state = .empty → s.lanes[l].subject = none)
    ∧ (s.lanes[l].state = .ready → ∃ c, s.lanes[l].subject = some (.call c))
    ∧ (∀ d, s.lanes[l].subject = some (.entry d) → s.lanes[l].state = .expanding))
  ∧ (∀ c : CallNo, s.calls[c].state = .free → s.calls[c].lane = none)
  ∧ ∀ r ∈ s.waiting, ∀ c, r.subject = .call c → s.calls[c].state = .opened

/-- Every table as hard reset leaves it (R11, R40, R41, R79, R99, R121, R140, R141, R145, R164). -/
def State.Fresh (u : State) : Prop :=
  u.part = .unplanned ∧ u.plan = none
    ∧ u.validator = { inFlight := false, pending := false, count := 0#16 }
    ∧ (∀ e : EpNo, u.endpoints[e] =
        { role := .unused, admitted := none, bigEndian := false, call := none, slot := none,
          reservation := none, shapeCount := 0, windowCount := 0, foreignCount := 0,
          partialCount := 0, mailboxCount := 0, lastViolation := none, shortFrames := 0 })
    ∧ (∀ d : EntryNo, u.directory[d] =
        { enabled := false, number := 0, secret := { k0 := 0#16, k1 := 0#16, k2 := 0#16, k3 := 0#16 },
          fails := 0, lock := none, admittedEp := none })
    ∧ (∀ m : MboxNo, u.mailboxes[m] =
        { state := .free, owner := none, goCode := none, entry := none, number := none,
          bigEndian := none, challenge := none, answer := none, deadline := none, verdict := none,
          aged := false, inFlight := none, selfRead := false })
    ∧ u.monitor = [] ∧ u.challengeCtr = 0#16
    ∧ (∀ r : RingNo, u.rings[r] =
        { state := .free, count := 0, slots := Vector.replicate 4 none })
    ∧ (∀ c : CallNo, u.calls[c] =
        { state := .free, members := [], frame := 0#32, epoch := 0#16, key := none, prev := none,
          next := none, countdown := 0, debt := 0, rekeyNow := false, comfort := 0, switches := [],
          lane := none, closeSeq := none })
    ∧ (∀ l : LaneNo, u.lanes[l] =
        { state := .empty, subject := none,
          keys := { prev := none, cur := none, epoch := none, next := none, secret := none },
          count := 0, lastUse := 0, expansion := none })
    ∧ u.waiting = [] ∧ u.starts = []
    ∧ (u.timer.state = .internal ∧ u.timer.running = false ∧ u.timer.nextExpiry = none
        ∧ u.timer.lastTick = 0 ∧ u.timer.counter = 0#32 ∧ u.timer.slips = 0 ∧ u.timer.pass = none
        ∧ u.timer.pendingTick = none ∧ u.timer.change = .none)
    ∧ u.engine =
        { orderProducer := 0#16, orderConsumed := 0#16, completionProducer := 0#16,
          completionConsumer := 0#16, inExec := none, held := none, backlog := [] }
    ∧ (u.port.arrival = none ∧ u.port.hold = [] ∧ u.port.xforms = [] ∧ u.port.responses = []
        ∧ u.port.awaiting = [] ∧ u.port.selfQ = [] ∧ u.port.waiters = [] ∧ u.port.runCount = 0)
    ∧ u.alert = false

/-! ## Commands by what they bring -/

/-- A command offers a request at an instant (R16, R18). -/
inductive Offers : Instr → Instant → Request → Prop where
  | read (t : Instant) (e : EpNo) (a : WordAddr) (n : Nat) :
      Offers (.read t e a n) t { kind := .read, ep := e, addr := a, len := n, data := [] }
  | readReserve (t : Instant) (e : EpNo) (a : WordAddr) (n : Nat) :
      Offers (.readReserve t e a n) t { kind := .readReserve, ep := e, addr := a, len := n, data := [] }
  | write (t : Instant) (e : EpNo) (a : WordAddr) (d : List WriteWord) :
      Offers (.write t e a d) t { kind := .write, ep := e, addr := a, len := d.length, data := d }
  | writeIfReserved (t : Instant) (e : EpNo) (a : WordAddr) (d : List WriteWord) :
      Offers (.writeIfReserved t e a d) t
        { kind := .writeIfReserved, ep := e, addr := a, len := d.length, data := d }

/-- A command is the return, at an instant, of a fetch with an order (R166, R167, 10.4). -/
inductive ReturnsOrder : Instr → Instant → Order → Prop where
  | unknown (t : Instant) (k : Byte) (h : orderKindCodes.contains k = false) :
      ReturnsOrder (.badOrderKind t k) t (.unknown k)
  | openCall (t : Instant) (c : Half) (n l : Byte) (e0 e1 e2 e3 : Half) (k : Key) :
      ReturnsOrder (.openCall t c n l e0 e1 e2 e3 k) t (.openCall c n l e0 e1 e2 e3 k)
  | addMember (t : Instant) (c e : Half) : ReturnsOrder (.addMember t c e) t (.addMember c e)
  | dropMember (t : Instant) (c e : Half) : ReturnsOrder (.dropMember t c e) t (.dropMember c e)
  | closeCall (t : Instant) (c : Half) : ReturnsOrder (.closeCall t c) t (.closeCall c)
  | rekeyNow (t : Instant) (c : Half) (l : Byte) : ReturnsOrder (.rekeyNow t c l) t (.rekeyNow c l)
  | setTiming (t : Instant) (s : Byte) (p : Word) : ReturnsOrder (.setTiming t s p) t (.setTiming s p)
  | setEndpoint (t : Instant) (e : Half) (r o : Byte) :
      ReturnsOrder (.setEndpoint t e r o) t (.setEndpoint e r o)
  | setDirectory (t : Instant) (i : Half) (b : Byte) (n : Word) (k : Key) :
      ReturnsOrder (.setDirectory t i b n k) t (.setDirectory i b n k)
  | revoke (t : Instant) (e : Half) : ReturnsOrder (.revoke t e) t (.revoke e)
  | unlock (t : Instant) (i : Half) : ReturnsOrder (.unlock t i) t (.unlock i)
  | reportEndpoints (t : Instant) (f n : Half) (b : Word) :
      ReturnsOrder (.reportEndpoints t f n b) t (.report 1#8 f n b)
  | reportCall (t : Instant) (c : Half) (b : Word) :
      ReturnsOrder (.reportCall t c b) t (.report 2#8 c 0#16 b)
  | reportSummary (t : Instant) (b : Word) :
      ReturnsOrder (.reportSummary t b) t (.report 3#8 0#16 0#16 b)
  | restart (t : Instant) : ReturnsOrder (.restart t) t .restart

/-- An order with a malformed field (R178). -/
def Malformed : Order → Prop
  | .unknown _ => True
  | .openCall c n l e0 e1 e2 e3 _ =>
    128 ≤ c.toNat ∨ n.toNat < 2 ∨ 4 < n.toNat ∨ 8 ≤ l.toNat ∨ 512 ≤ e0.toNat ∨ 512 ≤ e1.toNat
      ∨ (3 ≤ n.toNat ∧ 512 ≤ e2.toNat) ∨ (4 ≤ n.toNat ∧ 512 ≤ e3.toNat)
  | .addMember c e => 128 ≤ c.toNat ∨ 512 ≤ e.toNat
  | .dropMember c e => 128 ≤ c.toNat ∨ 512 ≤ e.toNat
  | .closeCall c => 128 ≤ c.toNat
  | .rekeyNow c l => 128 ≤ c.toNat ∨ (8 ≤ l.toNat ∧ l ≠ 0xFF#8)
  | .setTiming _ _ => False
  | .setEndpoint _ r o => 3 < r.toNat ∨ (r = 2#8 ∧ 1 < o.toNat)
  | .setDirectory _ b _ _ => 1 < b.toNat
  | .revoke _ => False
  | .unlock _ => False
  | .report k _ _ _ => k ≠ 1#8 ∧ k ≠ 2#8 ∧ k ≠ 3#8
  | .restart => False

/-! ## Ticks (R122 to R125) -/

/-- The event of the frame timer that a cause names is a tick, at instant e (R122 to R125). -/
def State.TickAt (s : State) (cause : TickCause) (e : Instant) : Prop :=
  s.timer.running = true ∧
    match cause with
    | .internalExpiry =>
      (s.timer.state = .internal ∨ s.timer.state = .externalLost) ∧ s.timer.nextExpiry = some e
    | .guardExpiry => s.timer.state = .externalLocked ∧ s.timer.nextExpiry = some e
    | .fsyncEdge t =>
      e = max s.now t
        ∧ (s.timer.state = .externalLocked
          ∨ s.timer.state = .externalLost ∧ s.timer.lastTick + s.timer.period * 1000 / 2 ≤ e)

/-! ## Self traffic that awaits memory (R36) -/

/-- The first request awaiting memory that is the self-traffic entry of the source given stands at
place i. -/
def State.SelfAt (s : State) (i : Nat) (r : DsRequest) (src : SelfSource) : Prop :=
  s.awaitingIdx (Awaiting.isSelf src) = some i ∧ s.port.awaiting[i]? = some { req := r, src := .self src }

/-- The state at instant t in which the request at place i awaits memory no more (R36). -/
def State.afterAnswer (s : State) (t : Instant) (i : Nat) : State :=
  (s.atInstant t).setPort { s.port with awaiting := dropAt i s.port.awaiting }

/-! ## The return of an order's fetch (R166) -/

/-- The fetch of the order numbered q awaits memory at place i, so that it can return (R166). -/
def State.FetchAt (s : State) (i : Nat) (q : Half) : Prop :=
  s.awaitingIdx (Awaiting.isSelf .orderFetch) = some i ∧ s.engine.fetching = some q

/-- The state at instant t in which an order fetched is carried out: its fetch awaits memory no more,
and the consumed count has risen (R166). -/
def State.afterFetch (s : State) (t : Instant) (i : Nat) : State :=
  (s.afterAnswer t i).countConsumed

/-! ## Watched writes that await memory (R13) -/

/-- A forwarded write awaits memory at place i, with its watched event (R13). -/
def State.WriteAt (s : State) (i : Nat) (r : DsRequest) (a : Accepted) (w : Watch) : Prop :=
  s.port.awaiting[i]? = some { req := r, src := .forwarded a } ∧ a.watch = some w
    ∧ r.kind.isWrite = true

/-- The state at instant t after the answer OK to the forwarded write a at place i, before its event
(R30, R31). -/
def State.afterWrite (s : State) (t : Instant) (i : Nat) (a : Accepted) : State :=
  (s.afterAnswer t i).respond a.id (.ok [])

end Sys2Proof.Machine
end

