-- ==== Sys2Proof/Certificates/Slice0/Obligations.lean ====
section
/-! DEFINITION. The statements for the provers. The result of a command is written u.settle where u is
the state its own effect leaves: settle does the work that the same event brings about in other
blocks (log 7), and SettleKeeps says what that work leaves alone. -/

open Sys2Proof Sys2Proof.Machine

/-! ## The queue, reset, and the work that follows an event -/

/-- A step runs the command at the front of the queue with the queue's rest, and idles on an empty
queue. The queue is the model's own (log 1). -/
def Obligations.FrontCommandRuns : Prop :=
  (∀ (c : Instr) (s : State) (q : List Instr),
    step { s with pending := c :: q } = exec c { s with pending := q })
  ∧ ∀ s : State, s.pending = [] → step s = .next s

/-- R11. At the fall of RESET_N every request not yet answered is dropped without a response; while it
is low nothing is accepted and nothing is issued; at its rise the straps are sampled and every table
starts empty. -/
def Obligations.ResetEmptiesTheTables : Prop :=
  (∀ s : State, ∃ u : State, exec .hardReset s = .next u ∧ u.resetLow = true
    ∧ u.port.arrival = none ∧ u.port.hold = [] ∧ u.port.xforms = [] ∧ u.port.responses = []
    ∧ u.port.awaiting = [] ∧ u.port.selfQ = [] ∧ u.port.returned = none)
  ∧ (∀ (s : State) (c : Instr) (t : Instant) (r : Request), s.resetLow = true → Offers c t r →
    exec c s = .next (s.atInstant t).settle)
  ∧ (∀ (s : State) (t : Instant), s.resetLow = true →
    exec (.downstreamGrant t) s = .next (s.atInstant t).settle)
  ∧ ∀ (a : BitVec 8) (b : EpNo) (s : State), s.resetLow = true → ∃ u : State,
    exec (.resetNRise a b) s = .next u ∧ u.Fresh ∧ u.resetLow = false
    ∧ u.anchorSel = a ∧ u.bootEp = b

/-- The state after reset has every table empty and meets every invariant stated below. That the tables
are emptied at the fall of RESET_N already, that a rise taken while RESET_N is high resets the part too,
and that time and the queue go on, is the model's choice (log 6, log 33, log 3, log 1). -/
def Obligations.ResetMeetsInvariants : Prop :=
  (State.reset.Fresh ∧ State.reset.AlertRight ∧ State.reset.CompletionsBounded
    ∧ State.reset.ReservationsAgree ∧ State.reset.MonitorBounded ∧ State.reset.PortBounded
    ∧ State.reset.SelfQueueBounded ∧ State.reset.StartsBounded ∧ State.reset.FailsBounded
    ∧ State.reset.CallsBounded ∧ State.reset.BacklogDistinct ∧ State.reset.SlotsWellFormed
    ∧ State.reset.ResponsesDistinct ∧ State.reset.CallsPaired ∧ State.reset.SlotsPaired
    ∧ State.reset.AdmissionPaired ∧ State.reset.RestartQuiet ∧ State.reset.LanesPaired
    ∧ State.reset.pending = [] ∧ State.reset.resetLow = false)
  ∧ (∀ s : State, ∃ u : State, exec .hardReset s = .next u ∧ u.Fresh
    ∧ u.anchorSel = s.anchorSel ∧ u.bootEp = s.bootEp ∧ u.now = s.now ∧ u.pending = s.pending)
  ∧ ∀ (a : BitVec 8) (b : EpNo) (s : State), ∃ u : State,
    exec (.resetNRise a b) s = .next u ∧ u.Fresh ∧ u.resetLow = false ∧ u.anchorSel = a
    ∧ u.bootEp = b ∧ u.now = s.now ∧ u.pending = s.pending

/-- R1. The straps are sampled only at the rise of RESET_N: no other command changes the held values.
RESET_N itself moves only with its own two commands, and no command touches the queue or turns time
back (log 1, log 3). -/
def Obligations.StrapsHeldBetweenResets : Prop :=
  ∀ (c : Instr) (s u : State), exec c s = .next u →
    u.pending = s.pending ∧ s.now ≤ u.now
    ∧ ((∀ a b, c ≠ .resetNRise a b) → u.anchorSel = s.anchorSel ∧ u.bootEp = s.bootEp)
    ∧ ((∀ a b, c ≠ .resetNRise a b) → c ≠ .hardReset → u.resetLow = s.resetLow)

/-- What the work that follows an event at the same event leaves alone (log 7): it moves nothing but
the rings and calls of ended closes, the lanes and their requests, the timer's pass and change, the
order engine's completions and fetch, the self-traffic queue, the waiting places and ALERT. -/
def Obligations.SettleKeeps : Prop :=
  ∀ s : State, ∃ u : State, u = s.settle
    ∧ u.now = s.now ∧ u.resetLow = s.resetLow ∧ u.anchorSel = s.anchorSel ∧ u.bootEp = s.bootEp
    ∧ u.part = s.part ∧ u.plan = s.plan ∧ u.validator = s.validator ∧ u.directory = s.directory
    ∧ u.mailboxes = s.mailboxes ∧ u.monitor = s.monitor ∧ u.challengeCtr = s.challengeCtr
    ∧ u.pending = s.pending
    ∧ (∀ e : EpNo, u.endpoints[e] = { s.endpoints[e] with call := u.endpoints[e].call })
    ∧ (∀ c : CallNo, s.calls[c].state = .opened →
        u.calls[c] = { s.calls[c] with lane := u.calls[c].lane })
    ∧ (∀ c : CallNo, s.calls[c].state = .free →
        u.calls[c] = { s.calls[c] with lane := u.calls[c].lane })
    ∧ (∀ r : RingNo, u.rings[r] = s.rings[r] ∨ u.rings[r] = Ring.free)
    ∧ u.timer = { s.timer with
        pass := u.timer.pass, pendingTick := u.timer.pendingTick, change := u.timer.change }
    ∧ (u.engine.orderProducer = s.engine.orderProducer
        ∧ u.engine.orderConsumed = s.engine.orderConsumed
        ∧ u.engine.completionConsumer = s.engine.completionConsumer)
    ∧ u.port = { s.port with
        arrival := u.port.arrival, hold := u.port.hold, selfQ := u.port.selfQ,
        waiters := u.port.waiters }

/-! ## Regions, rights and arrival (chapters 1 and 2) -/

/-- R12. Under a plan whose five areas share no byte, a word lies in a region exactly when its byte
address lies in the region's range, and in OPEN exactly when it lies in none. -/
def Obligations.RegionsByAddress : Prop :=
  ∀ (s : State) (p : Plan) (w : Nat), s.plan = some p → anyMeet (planAreas p s.anchorByte) = false →
    (s.regionAt w = .voice ↔ p.voiceBase ≤ 4 * w ∧ 4 * w ≤ p.voiceBase + 327679)
    ∧ (s.regionAt w = .mailbox ↔ p.mailboxBase ≤ 4 * w ∧ 4 * w ≤ p.mailboxBase + 2047)
    ∧ (s.regionAt w = .order ↔ p.orderBase ≤ 4 * w ∧ 4 * w ≤ p.orderBase + 1087)
    ∧ (s.regionAt w = .completion ↔
        p.completionBase ≤ 4 * w ∧ 4 * w ≤ p.completionBase + 1087)
    ∧ (s.regionAt w = .anchor ↔
        s.anchorSel.toNat * 16777216 ≤ 4 * w ∧ 4 * w ≤ s.anchorSel.toNat * 16777216 + 63)
    ∧ (s.regionAt w = .openMem ↔
        ¬ (p.voiceBase ≤ 4 * w ∧ 4 * w ≤ p.voiceBase + 327679)
        ∧ ¬ (p.mailboxBase ≤ 4 * w ∧ 4 * w ≤ p.mailboxBase + 2047)
        ∧ ¬ (p.orderBase ≤ 4 * w ∧ 4 * w ≤ p.orderBase + 1087)
        ∧ ¬ (p.completionBase ≤ 4 * w ∧ 4 * w ≤ p.completionBase + 1087)
        ∧ ¬ (s.anchorSel.toNat * 16777216 ≤ 4 * w
          ∧ 4 * w ≤ s.anchorSel.toNat * 16777216 + 63))

/-- R15. Each role's rights to the word at offset k of each control region. What mayAccess answers of
other regions is not said: R15 gives no right to them, and nothing asks it. -/
def Obligations.RightsOfRoles : Prop :=
  ∀ (s : State) (e : EpNo) (k : Nat),
    let control := fun (g : Region) => g = .mailbox ∨ g = .order ∨ g = .completion ∨ g = .anchor
    (s.endpoints[e].role = .control →
      (∀ g, control g → s.mayAccess e false g k = true)
      ∧ (s.mayAccess e true .order k = true ↔ k ≤ 256)
      ∧ (s.mayAccess e true .completion k = true ↔ k = 257)
      ∧ (s.mayAccess e true .anchor k = true ↔ k ≠ 0)
      ∧ s.mayAccess e true .mailbox k = false)
    ∧ (s.endpoints[e].role = .station → ∀ w,
      s.mayAccess e w .order k = false ∧ s.mayAccess e w .completion k = false
      ∧ s.mayAccess e w .anchor k = false
      ∧ (k < 512 → (s.mayAccess e w .mailbox k = true ↔
          k % 16 = 0 ∨ ∃ m, s.endpoints[e].slot = some m ∧ m.val = k / 16)))
    ∧ (s.endpoints[e].role = .trunk ∨ s.endpoints[e].role = .unused → ∀ w g, control g →
      s.mayAccess e w g k = false)

/-- R20, R2, R13, R14, R15, R21, R22, R46, R165, R169. The checks of an arriving request in their order,
each made when those before it pass, and a request that passes them is not refused; one to OPEN is
refused by the first alone, and one accepted while UNPLANNED by none (R7). A request is accepted with
its region, its offset in it, its arrival call, and the watched word outside MAILBOX that it writes.
That a BOOT_EP burst in UNPLANNED may run on past the signature word is the model's choice (log 34). -/
def Obligations.ArrivalChecksInOrder : Prop :=
  (∀ (s : State) (id : Nat) (r : Request) (a : Accepted) (last : Nat),
    a = s.accepted id r → last = r.addr.toNat + r.len - 1 → 1 ≤ r.len →
    (s.hasPlan = false → s.arrivalRefusal a = none)
    ∧ (s.hasPlan = true →
      (1073741824 ≤ last ∨ s.regionAt last ≠ s.regionAt r.addr.toNat →
        s.arrivalRefusal a = some .shape)
      ∧ (last < 1073741824 → s.regionAt last = s.regionAt r.addr.toNat →
        (a.region = .mailbox → (r.kind = .readReserve ∨ r.kind = .writeIfReserved) → r.len ≠ 1 →
          s.arrivalRefusal a = some .shape)
        ∧ (a.region.isControl = true →
          (a.region = .mailbox → r.kind = .readReserve ∨ r.kind = .writeIfReserved → r.len = 1) →
          (∃ i < r.len, s.mayAccess r.ep r.kind.isWrite a.region (a.off + i) = false) →
          s.arrivalRefusal a = some .foreign)
        ∧ (a.region = .voice →
          s.arrivalRefusal a =
            if a.off / 320 ≠ (a.off + r.len - 1) / 320 then some .shape
            else if r.kind = .readReserve ∨ r.kind = .writeIfReserved then some .shape
            else if r.kind = .write ∧ s.endpoints[r.ep].role = .control then some .foreign
            else if r.kind = .write ∧ ∃ w ∈ r.data,
                w.en.getLsbD 0 ≠ w.en.getLsbD 1 ∨ w.en.getLsbD 2 ≠ w.en.getLsbD 3 then
              some .partialSample
            else none)
        ∧ (∀ v, a.region = .order →
          (∀ i < r.len, s.mayAccess r.ep r.kind.isWrite a.region (a.off + i) = true) →
          a.watch = some (.orderCount v) →
          s.arrivalRefusal a =
            if (v - s.engine.orderConsumed).toNat ≤ 32 then none else some .window)
        ∧ (∀ v, a.region = .completion →
          (∀ i < r.len, s.mayAccess r.ep r.kind.isWrite a.region (a.off + i) = true) →
          a.watch = some (.completionCount v) →
          s.arrivalRefusal a =
            if (v - s.engine.completionConsumer).toNat ≤
              (s.engine.completionProducer - s.engine.completionConsumer).toNat then none
            else some .window)
        ∧ (a.region = .openMem → s.arrivalRefusal a = none)
        ∧ ((∀ i < r.len, s.mayAccess r.ep r.kind.isWrite a.region (a.off + i) = true) →
          (a.region = .mailbox → (r.kind = .readReserve ∨ r.kind = .writeIfReserved → r.len = 1) →
            s.arrivalRefusal a = none)
          ∧ (a.region = .anchor → s.arrivalRefusal a = none)
          ∧ (a.region = .order → (∀ v, a.watch ≠ some (.orderCount v)) → s.arrivalRefusal a = none)
          ∧ (a.region = .completion → (∀ v, a.watch ≠ some (.completionCount v)) →
            s.arrivalRefusal a = none)))))
  ∧ ∀ (s : State) (id : Nat) (r : Request) (a : Accepted), a = s.accepted id r →
    let carries := fun (k : Nat) (w : Word) =>
      ∃ j, a.off + j = k ∧ r.data[j]? = some { data := w, en := 0xF#4 }
    a.id = id ∧ a.req = r ∧ a.closedUnder = false
    ∧ (s.hasPlan = false → a.region = .passThrough ∧ a.off = r.addr.toNat)
    ∧ (s.hasPlan = true → a.region = s.regionAt r.addr.toNat
      ∧ (a.region = .voice → a.off = r.addr.toNat - s.thePlan.voiceBase / 4)
      ∧ (a.region = .mailbox → a.off = r.addr.toNat - s.thePlan.mailboxBase / 4)
      ∧ (a.region = .order → a.off = r.addr.toNat - s.thePlan.orderBase / 4)
      ∧ (a.region = .completion → a.off = r.addr.toNat - s.thePlan.completionBase / 4)
      ∧ (a.region = .anchor → a.off = r.addr.toNat - s.anchorSel.toNat * 4194304)
      ∧ a.region ≠ .passThrough)
    ∧ (∀ c : CallNo, a.arrivalCall = some c ↔ a.region = .voice
      ∧ ((∃ o, s.rings[a.ring].state = .owned c o) ∨ s.rings[a.ring].state = .draining c)
      ∧ s.calls[c].state = .opened ∧ ∃ m ∈ s.calls[c].members, m.ep = r.ep)
    ∧ (∀ m, a.watch ≠ some (.mailbox m))
    ∧ (a.watch = some .signature ↔ (r.kind = .write ∨ r.kind = .writeIfReserved)
      ∧ ((a.region = .anchor ∧ carries 15 0x7A526120#32)
        ∨ (a.region = .passThrough ∧ r.ep = s.bootEp
          ∧ carries (s.anchorSel.toNat * 4194304 + 15) 0x7A526120#32)))
    ∧ (∀ v : Half, a.watch = some (.orderCount v) ↔ (r.kind = .write ∨ r.kind = .writeIfReserved)
      ∧ a.region = .order ∧ ∃ w, carries 256 w ∧ loHalf w = v)
    ∧ (∀ v : Half, a.watch = some (.completionCount v) ↔
      (r.kind = .write ∨ r.kind = .writeIfReserved)
      ∧ a.region = .completion ∧ ∃ w, carries 257 w ∧ loHalf w = v)

/-- R18, R19, R20, R23. A request offered while the port accepts takes its place in the response order
table and, if no check refuses it, stands in the arrival stage. One that a check refuses is answered
REFUSED and does not stand there: the count of its violation kind rises by 1, saturating at 255, its
kind becomes the last kind, and no other record changes. While the port does not accept, nothing changes
but time: that is the model's choice (log 18). -/
def Obligations.RequestAcceptedRefusedOrKeptBack : Prop :=
  ∀ (s : State) (c : Instr) (t : Instant) (r : Request), Offers c t r → 1 ≤ r.len → r.len ≤ 16 →
    (s.resetLow = false → s.port.arrival = none → s.port.hold.length < 16 →
      s.port.responses.length < 32 →
      (s.arrivalRefusal (s.accepted s.port.nextId r) = none →
        exec c s = .next (State.settle { s with
          now := max s.now t
          port := { s.port with
            nextId := s.port.nextId + 1
            responses := s.port.responses ++ [{ id := s.port.nextId, ep := r.ep, response := none }]
            arrival := some (s.accepted s.port.nextId r) } }))
      ∧ ∀ v : Violation, s.arrivalRefusal (s.accepted s.port.nextId r) = some v →
        ∃ u : State, exec c s = .next u.settle
          ∧ u.endpoints[r.ep] = { s.endpoints[r.ep] with
              shapeCount := if v = .shape then min 255 (s.endpoints[r.ep].shapeCount + 1)
                else s.endpoints[r.ep].shapeCount
              windowCount := if v = .window then min 255 (s.endpoints[r.ep].windowCount + 1)
                else s.endpoints[r.ep].windowCount
              foreignCount := if v = .foreign then min 255 (s.endpoints[r.ep].foreignCount + 1)
                else s.endpoints[r.ep].foreignCount
              partialCount := if v = .partialSample then min 255 (s.endpoints[r.ep].partialCount + 1)
                else s.endpoints[r.ep].partialCount
              mailboxCount := if v = .mailbox then min 255 (s.endpoints[r.ep].mailboxCount + 1)
                else s.endpoints[r.ep].mailboxCount
              lastViolation := some v }
          ∧ (∀ e, e ≠ r.ep → u.endpoints[e] = s.endpoints[e])
          ∧ u = { s with
              now := max s.now t, endpoints := u.endpoints
              port := { s.port with
                nextId := s.port.nextId + 1
                responses := decideResponse s.port.nextId .refused
                  (s.port.responses ++ [{ id := s.port.nextId, ep := r.ep, response := none }]) } })
    ∧ (s.resetLow = true ∨ s.port.arrival ≠ none ∨ 16 ≤ s.port.hold.length
        ∨ 32 ≤ s.port.responses.length →
      exec c s = .next (s.atInstant t).settle)

/-- R25, R26, R27, R28, R47. Which requests are eligible for entry: VOICE ones with no earlier held
request of their endpoint, none before them in the hold queue or in transform that touches one of their
slots, and a READY lane where they are a member's; and the request that enters next is the earliest
accepted of these, while a place is free. The model tests the arrival stage at the end of every event,
so that no request with an obstacle or a lane condition stands there then (its reading of R20, log 19),
and makes each entry an event of its own (log 20). -/
def Obligations.HeldAndEnteredInOrder : Prop :=
  (∀ s : State, ∃ u : State, u = s.settle
    ∧ u.port.hold ++ u.port.arrival.toList = s.port.hold ++ s.port.arrival.toList
    ∧ ∀ a, u.port.arrival = some a →
      (∀ h ∈ u.port.hold, h.id < a.id → h.req.ep ≠ a.req.ep)
      ∧ (a.region = .voice →
        (∀ h ∈ u.port.hold, h.region = .voice → h.id < a.id → ∀ k ∈ h.touched, k ∉ a.touched)
        ∧ (∀ x ∈ u.port.xforms, x.acc.id < a.id → ∀ k ∈ x.acc.touched, k ∉ a.touched)
        ∧ u.port.xforms.length < 4
        ∧ ∀ c, u.memberCall a = some c →
          ∃ l, u.calls[c].lane = some l ∧ u.lanes[l].state = .ready))
  ∧ ∀ s : State,
    (∀ a, s.nextEntry = some a →
      s.port.xforms.length < 4 ∧ a ∈ s.port.hold ++ s.port.arrival.toList ∧ s.eligible a = true
      ∧ ∀ b ∈ s.port.hold ++ s.port.arrival.toList, s.eligible b = true → a.id ≤ b.id)
    ∧ (s.nextEntry = none →
      4 ≤ s.port.xforms.length
        ∨ ∀ b ∈ s.port.hold ++ s.port.arrival.toList, s.eligible b = false)
    ∧ (∀ a : Accepted, s.eligible a = true ↔ a.region = .voice
      ∧ (∀ h ∈ s.port.hold, h.id < a.id → h.req.ep ≠ a.req.ep)
      ∧ (∀ h ∈ s.port.hold, h.region = .voice → h.id < a.id → ∀ k ∈ h.touched, k ∉ a.touched)
      ∧ (∀ x ∈ s.port.xforms, x.acc.id < a.id → ∀ k ∈ x.acc.touched, k ∉ a.touched)
      ∧ ∀ c, s.memberCall a = some c →
        ∃ l, s.calls[c].lane = some l ∧ s.lanes[l].state = .ready)
    ∧ (∀ (a : Accepted) (c : CallNo), s.memberCall a = some c ↔ a.region = .voice
      ∧ ((∃ o, s.rings[a.ring].state = .owned c o) ∨ s.rings[a.ring].state = .draining c)
      ∧ s.calls[c].state = .opened ∧ ∃ m ∈ s.calls[c].members, m.ep = a.req.ep)
    ∧ ∀ a : Accepted, 1 ≤ a.req.len → a.req.len ≤ 16 → ∀ k : Nat,
      k ∈ a.touched ↔ ∃ i < a.req.len, k = a.voiceWord + 80 * ((a.off + i) / 80)

/-! ## The transform unit (chapter 3) -/

/-- R47, R48. At its entry a request whose arrival call has gone CLOSING since is refused FOREIGN
(log 9); of the other requests that are no member's, a READ goes to memory raw in one piece at its own
addresses, with no call, ring or lane touched, and a WRITE is refused FOREIGN. That such a refusal is recorded in
UNPLANNED too is the model's choice (log 11). -/
def Obligations.NonMemberEntry : Prop :=
  ∀ (s : State) (t : Instant) (a : Accepted), s.nextEntry = some a →
    (a.closedUnder = true →
      exec (.transformEntry t) s = .next (((s.atInstant t).takeOut a).refuse a .foreign).settle)
    ∧ (a.closedUnder = false → s.memberCall a = none → a.req.kind = .read →
      exec (.transformEntry t) s = .next (State.settle { s with
        now := max s.now t
        port := { s.port with
          arrival := s.port.arrival.filter fun x => x.id ≠ a.id
          hold := s.port.hold.filter fun x => x.id ≠ a.id
          xforms := s.port.xforms ++ [{ acc := a, course := .raw, pieces :=
            [{ no := 0, seg := 0, addr := a.req.addr.toNat, len := a.req.len, data := [],
               issued := false, done := none }] }] } }))
    ∧ (a.closedUnder = false → s.memberCall a = none → a.req.kind = .write →
      exec (.transformEntry t) s = .next (((s.atInstant t).takeOut a).refuse a .foreign).settle)

/-- R49, R50, R59, R94. A member write at its entry: refused FOREIGN on a ring the writer does not own,
SHAPE across two slots, WINDOW where the slot is EMPTY, under a key the lane does not hold, or of a
frame other than W and W − 1; else it takes a transform place with the slot's frame and key, and the
counts of its ring and its lane rise by 1. The key that a lane holds for a tag is the current key for
its own epoch and the previous key for the one before. -/
def Obligations.MemberWriteEntry : Prop :=
  (∀ (s : State) (t : Instant) (a : Accepted) (c : CallNo) (l : LaneNo), s.nextEntry = some a →
    a.closedUnder = false → s.memberCall a = some c → s.readyLane c = some l → a.req.kind = .write →
    let k := slotOfWord a.ringWord
    let out := (s.atInstant t).takeOut a
    (s.rings[a.ring].state ≠ .owned c a.req.ep →
      exec (.transformEntry t) s = .next ((out.refuse a .foreign).stampLane l).settle)
    ∧ (s.rings[a.ring].state = .owned c a.req.ep → slotOfWord (a.ringWord + a.req.len - 1) ≠ k →
      exec (.transformEntry t) s = .next ((out.refuse a .shape).stampLane l).settle)
    ∧ (s.rings[a.ring].state = .owned c a.req.ep → slotOfWord (a.ringWord + a.req.len - 1) = k →
      (∀ o, s.rings[a.ring].slots[k] = some o → (s.lanes[l].keys.forTag o.tag).isSome = true →
        o.frame ≠ s.calls[c].frame ∧ o.frame ≠ s.calls[c].frame - 1#32) →
      exec (.transformEntry t) s = .next ((out.refuse a .window).stampLane l).settle)
    ∧ (∀ o key, s.rings[a.ring].state = .owned c a.req.ep →
      slotOfWord (a.ringWord + a.req.len - 1) = k → s.rings[a.ring].slots[k] = some o →
      s.lanes[l].keys.forTag o.tag = some key →
      (o.frame = s.calls[c].frame ∨ o.frame = s.calls[c].frame - 1#32) →
      exec (.transformEntry t) s = .next (State.settle { s with
        now := max s.now t
        port := { s.port with
          arrival := s.port.arrival.filter fun x => x.id ≠ a.id
          hold := s.port.hold.filter fun x => x.id ≠ a.id
          xforms := s.port.xforms ++
            [{ acc := a, course := .memberWrite { call := c, ring := a.ring, lane := l } k o.frame,
               pieces := sortPieces (a.writePieces
                 { bigEndian := s.endpoints[a.req.ep].bigEndian, frame := o.frame, key := key,
                   ring := a.ring, level := s.calls[c].comfort } o.fill 0
                 (runsOf a.ringWord a.req.len)) }] }
        rings := s.rings.set a.ring { s.rings[a.ring] with count := s.rings[a.ring].count + 1 }
        lanes := s.lanes.set l { s.lanes[l] with count := s.lanes[l].count + 1 } })))
  ∧ ∀ (k : LaneKeys) (tag : Half) (key : Key), k.forTag tag = some key ↔
    k.epoch = some tag ∧ k.cur = some key ∨ k.epoch = some (tag + 1#16) ∧ k.prev = some key

/-- R35, R45, R51, R52, R53, R67. What the pieces of a member write carry. Let word i of the request lie
at word w of its ring, in logical segment s of its slot. A sample of that word whose two enables are set
is carried, both enables set, at its place in the physical segment π(s), scrambled from the writer's
byte order; every piece word that the request does not write is clear of enables where the segment's
fill bit is set, and carries scrambled comfort samples where it is clear and the piece is widened. The
pieces stand in their transform place in ascending address order. The ring, the word of the ring and the
slot are those of the request's offset in VOICE, 320 words to a ring and 80 to a slot. -/
def Obligations.WritePiecesCarryTheSamples : Prop :=
  (∀ (a : Accepted) (t : WriteTaken) (fill : BitVec 8),
    1 ≤ a.req.len → a.req.data.length = a.req.len → t.ring = a.ring →
    slotOfWord (a.ringWord + a.req.len - 1) = slotOfWord a.ringWord →
    a.ringWord + a.req.len ≤ 320 →
    let ps := a.writePieces t fill 0 (runsOf a.ringWord a.req.len)
    let base := a.voiceWord + 320 * a.ring.val + 80 * (a.ringWord / 80)
    (∀ (i : Nat) (x : WriteWord) (h : Nat), a.req.data[i]? = some x → h < 2 →
      x.en.getLsbD (2 * h) = true → x.en.getLsbD (2 * h + 1) = true →
      let b := a.ringWord % 80 + i
      ∃ p ∈ ps, ∃ m y, p.data[m]? = some y ∧ p.seg.val = b / 10
        ∧ p.addr + m = base + 10 * segPlace t.key t.frame t.ring (b / 10) + b % 10
        ∧ y.en.getLsbD (2 * h) = true ∧ y.en.getLsbD (2 * h + 1) = true
        ∧ wordHalf y h =
          scramble t.key t.frame t.ring (2 * b + h) (convertOrder t.bigEndian (wordHalf x h)))
    ∧ (∀ p ∈ ps, p.data.length = p.len ∧ p.issued = false ∧ p.done = none
      ∧ (p.seg.val + 1) * 10 > a.ringWord % 80 ∧ p.seg.val * 10 < a.ringWord % 80 + a.req.len
      ∧ ∀ (m : Nat) (y : WriteWord) (h : Nat), p.data[m]? = some y → h < 2 →
        ∃ k < 10, p.addr + m = base + 10 * segPlace t.key t.frame t.ring p.seg.val + k
          ∧ (let b := 10 * p.seg.val + k
            let j := 2 * b + h
            (∃ x, a.ringWord % 80 ≤ b ∧ a.req.data[b - a.ringWord % 80]? = some x
              ∧ x.en.getLsbD (2 * h) = true ∧ x.en.getLsbD (2 * h + 1) = true)
            ∨ (fill.getLsbD p.seg.val = false ∧ p.len = 10
              ∧ y.en.getLsbD (2 * h) = true ∧ y.en.getLsbD (2 * h + 1) = true
              ∧ wordHalf y h =
                scramble t.key t.frame t.ring j (comfortSample t.key t.frame j t.level))
            ∨ (fill.getLsbD p.seg.val = true
              ∧ y.en.getLsbD (2 * h) = false ∧ y.en.getLsbD (2 * h + 1) = false))))
  ∧ (∀ a : Accepted, a.off < 81920 → a.off ≤ a.req.addr.toNat →
    a.ring.val = a.off / 320 ∧ a.ringWord = a.off % 320 ∧ a.voiceWord + a.off = a.req.addr.toNat
    ∧ a.off = 320 * a.ring.val + a.ringWord)
  ∧ (∀ w < 320, (slotOfWord w).val = w / 80)
  ∧ ∀ ps : List Piece, (sortPieces ps).Perm ps ∧ (sortPieces ps).Pairwise fun p q => p.addr ≤ q.addr

/-- R56, R57, R58, R59. A member read at its entry: with no piece to read it is answered OK at once
with the samples in the reader's byte order, no count raised; else it takes a transform place and the
counts of its ring and its lane rise by 1. -/
def Obligations.MemberReadEntry : Prop :=
  ∀ (s : State) (t : Instant) (a : Accepted) (c : CallNo) (l : LaneNo) (ss : List SampleSource)
      (ps : List Piece), s.nextEntry = some a → a.closedUnder = false → s.memberCall a = some c →
    s.readyLane c = some l → a.req.kind = .read →
    s.readRuns a l s.calls[c].comfort 0 (runsOf a.ringWord a.req.len) = (ss, ps) →
    (ps = [] →
      exec (.transformEntry t) s = .next (State.settle { s with
        now := max s.now t
        port := { s.port with
          arrival := s.port.arrival.filter fun x => x.id ≠ a.id
          hold := s.port.hold.filter fun x => x.id ≠ a.id
          responses := decideResponse a.id
            (.ok (packSamples s.endpoints[a.req.ep].bigEndian ss)) s.port.responses }
        lanes := s.lanes.set l { s.lanes[l] with lastUse := max s.now t } }))
    ∧ (ps ≠ [] →
      exec (.transformEntry t) s = .next (State.settle { s with
        now := max s.now t
        port := { s.port with
          arrival := s.port.arrival.filter fun x => x.id ≠ a.id
          hold := s.port.hold.filter fun x => x.id ≠ a.id
          xforms := s.port.xforms ++
            [{ acc := a,
               course := .memberRead { call := c, ring := a.ring, lane := l }
                 s.endpoints[a.req.ep].bigEndian ss,
               pieces := sortPieces ps }] }
        rings := s.rings.set a.ring { s.rings[a.ring] with count := s.rings[a.ring].count + 1 }
        lanes := s.lanes.set l { s.lanes[l] with count := s.lanes[l].count + 1 } }))

/-- R45, R50, R56, R57, R68, R71. Where each sample of a member read comes from. Sample h of word i of
the request lies at word w of the ring: in slot w / 80, at index j of its frame, in logical segment s.
An EMPTY slot, or one whose key the lane does not hold, gives silence; a blanked or unwritten segment
gives the comfort sample of the position; a written one gives the sample that memory holds at its place
in physical segment π(s), to be descrambled with the output word of its position. The ring, its word and
the slot are those of the request's offset in VOICE, 320 words to a ring and 80 to a slot. -/
def Obligations.ReadSamplesComeFromTheirPlaces : Prop :=
  (∀ (s : State) (a : Accepted) (l : LaneNo) (level : Fin 8) (ss : List SampleSource)
      (ps : List Piece), 1 ≤ a.req.len → a.ringWord + a.req.len ≤ 320 →
    s.readRuns a l level 0 (runsOf a.ringWord a.req.len) = (ss, ps) →
    ss.length = 2 * a.req.len
    ∧ ∀ (i h : Nat), i < a.req.len → h < 2 →
      let w := a.ringWord + i
      let k := slotOfWord w
      let g : Fin 8 := ⟨w % 80 / 10 % 8, Nat.mod_lt _ (by decide)⟩
      let j := 2 * (w % 80) + h
      (s.takenSlot l a.ring k = none → ss[2 * i + h]? = some (.value 0#16))
      ∧ ∀ o key, s.takenSlot l a.ring k = some (o, key) →
        (s.timer.blanking = true ∨ o.fill.getLsbD g.val = false →
          ss[2 * i + h]? = some (.value (comfortSample key o.frame j level)))
        ∧ (s.timer.blanking = false → o.fill.getLsbD g.val = true →
          ∃ p ∈ ps, ∃ n, ss[2 * i + h]? = some (.stored p.no n (sampleOut key o.frame a.ring j))
            ∧ p.data = [] ∧ n / 2 < p.len ∧ n % 2 = h
            ∧ p.addr + n / 2 = a.voiceWord + 320 * a.ring.val + 80 * k.val
              + 10 * segPlace key o.frame a.ring g.val + w % 10))
  ∧ (∀ a : Accepted, a.off < 81920 → a.off ≤ a.req.addr.toNat →
    a.ring.val = a.off / 320 ∧ a.ringWord = a.off % 320 ∧ a.voiceWord + a.off = a.req.addr.toNat
    ∧ ∀ i, (slotOfWord (a.ringWord + i)).val = (a.off % 320 + i) / 80 % 4)
  ∧ ∀ (s : State) (l : LaneNo) (r : RingNo) (k : FrameSlotNo) (o : OpenSlot) (key : Key),
    s.takenSlot l r k = some (o, key) ↔
      s.rings[r].slots[k] = some o ∧ s.lanes[l].keys.forTag o.tag = some key

/-- R43, R54, R55, R59, R95. Memory answers the last outstanding piece of a member write. An OK answer
sets the fill bit of the piece's segment exactly where the ring is still OWNED by the same call and the
slot OPEN with the frame taken at entry; a FAULT sets none. The write leaves its place, its response OK
when every piece was answered OK and FAULT otherwise, its lane is stamped, and its ring's and lane's
counts fall by 1; a DRAINING ring whose count falls to 0 goes FREE. -/
def Obligations.LastWritePieceAnswered : Prop :=
  ∀ (s : State) (t : Instant) (i id no : Nat) (r : DsRequest) (x : Xform) (p : Piece) (tk : Ticket)
      (k : FrameSlotNo) (f : Word),
    s.port.awaiting[i]? = some { req := r, src := .piece id no } → r.kind = .write →
    s.port.xforms.find? (fun x => x.acc.id = id) = some x →
    x.pieces.find? (fun p => p.no = no) = some p → x.course = .memberWrite tk k f →
    (∀ q ∈ x.pieces, q.no ≠ no → q.done.isSome = true) →
    let drained := (∃ c, s.rings[tk.ring].state = .draining c) ∧ s.rings[tk.ring].count ≤ 1
    let lanes := s.lanes.set tk.lane { s.lanes[tk.lane] with
      count := s.lanes[tk.lane].count - 1, lastUse := max s.now t }
    let freed : Ring := { state := .free, count := 0, slots := Vector.replicate 4 none }
    (∃ u : State, exec (.memoryAnswer t i (.ok [])) s = .next u.settle
      ∧ u.port.responses = decideResponse id
          (if ∃ q ∈ x.pieces, q.no ≠ no ∧ q.done = some false then .fault else .ok [])
          s.port.responses
      ∧ u.port.xforms = s.port.xforms.filter (fun y => y.acc.id ≠ id)
      ∧ u.lanes = lanes
      ∧ (drained → u.rings[tk.ring] = freed)
      ∧ (¬ drained → u.rings[tk.ring].state = s.rings[tk.ring].state
        ∧ u.rings[tk.ring].count = s.rings[tk.ring].count - 1)
      ∧ (∀ o owner, s.rings[tk.ring].state = .owned tk.call owner →
        s.rings[tk.ring].slots[k] = some o → o.frame = f →
        u.rings[tk.ring].slots =
          s.rings[tk.ring].slots.set k (some { o with fill := o.fill ||| (1#8 <<< p.seg.val) }))
      ∧ (¬ drained → (∀ owner, s.rings[tk.ring].state ≠ .owned tk.call owner)
          ∨ (∀ o, s.rings[tk.ring].slots[k] = some o → o.frame ≠ f) →
        u.rings[tk.ring].slots = s.rings[tk.ring].slots)
      ∧ (∀ r', r' ≠ tk.ring → u.rings[r'] = s.rings[r'])
      ∧ u = { s with
          now := max s.now t, rings := u.rings, lanes := u.lanes
          port := { s.port with
            awaiting := dropAt i s.port.awaiting
            responses := u.port.responses, xforms := u.port.xforms } })
    ∧ exec (.memoryAnswer t i .fault) s = .next (State.settle { s with
        now := max s.now t
        port := { s.port with
          awaiting := dropAt i s.port.awaiting
          responses := decideResponse id .fault s.port.responses
          xforms := s.port.xforms.filter fun y => y.acc.id ≠ id }
        rings := s.rings.set tk.ring
          (if drained then freed
          else { s.rings[tk.ring] with count := s.rings[tk.ring].count - 1 })
        lanes := lanes })

/-- R36, R43, R48, R57, R58, R59, R68, R95. Memory answers any other piece of a request in transform.
The samples of a member read that the piece holds are descrambled as they return, and a write piece
answered OK sets its segment's fill bit as for the last; while a piece is unanswered nothing else
changes. The last piece of a read ends it: FAULT if any piece was answered FAULT, else OK with the data
of a raw read as they came, or with a member's samples in its byte order, the first of a word in its low
half; a member read's counts fall and its lane is stamped, and a DRAINING ring whose count falls to 0
goes FREE. -/
def Obligations.PiecesAnswered : Prop :=
  (∀ (s : State) (t : Instant) (i id no : Nat) (r : DsRequest) (x : Xform),
    s.port.awaiting[i]? = some { req := r, src := .piece id no } →
    s.port.xforms.find? (fun x => x.acc.id = id) = some x →
    let waiting := { s.port with awaiting := dropAt i s.port.awaiting }
    let marked := fun (ok : Bool) =>
      x.pieces.map fun p => if p.no = no then { p with done := some ok } else p
    let kept := fun (y' : Xform) => s.port.xforms.map fun y => if y.acc.id = id then y' else y
    let left := s.port.xforms.filter fun y => y.acc.id ≠ id
    let resolved := fun (ws : List Word) (out : List SampleSource) => out.map fun q => match q with
      | .value v => .value v
      | .stored n j z => if n = no then
          .value ((if j % 2 = 0 then loHalf (ws.getD (j / 2) 0#32) else hiHalf (ws.getD (j / 2) 0#32)) - z)
        else .stored n j z
    ((∃ q ∈ x.pieces, q.no ≠ no ∧ q.done = none) →
      (exec (.memoryAnswer t i .fault) s = .next (State.settle { s with
        now := max s.now t
        port := { waiting with xforms := kept { x with pieces := marked false } } }))
      ∧ (∀ ws tk be out, r.kind = .read → ws.length = r.len → x.course = .memberRead tk be out →
        exec (.memoryAnswer t i (.ok ws)) s = .next (State.settle { s with
          now := max s.now t
          port := { waiting with xforms := kept { x with
            course := .memberRead tk be (resolved ws out), pieces := marked true } } }))
      ∧ (∀ ws, r.kind = .read → ws.length = r.len → x.course = .raw →
        exec (.memoryAnswer t i (.ok ws)) s = .next (State.settle { s with
          now := max s.now t
          port := { waiting with xforms := kept { x with pieces := marked true } } }))
      ∧ (∀ tk k f p, r.kind = .write → x.course = .memberWrite tk k f →
        x.pieces.find? (fun p => p.no = no) = some p →
        let noted : State := { s with
          now := max s.now t
          port := { waiting with xforms := kept { x with pieces := marked true } } }
        (∀ o owner, s.rings[tk.ring].state = .owned tk.call owner →
          s.rings[tk.ring].slots[k] = some o → o.frame = f →
          exec (.memoryAnswer t i (.ok [])) s = .next (State.settle { noted with
            rings := s.rings.set tk.ring { s.rings[tk.ring] with
              slots := s.rings[tk.ring].slots.set k
                (some { o with fill := o.fill ||| (1#8 <<< p.seg.val) }) } }))
        ∧ ((∀ owner, s.rings[tk.ring].state ≠ .owned tk.call owner)
            ∨ (∀ o, s.rings[tk.ring].slots[k] = some o → o.frame ≠ f) →
          exec (.memoryAnswer t i (.ok [])) s = .next noted.settle)))
    ∧ ((∀ q ∈ x.pieces, q.no ≠ no → q.done.isSome = true) →
      let answered := fun (a : Response) (b : Response) =>
        { waiting with
          xforms := left
          responses := decideResponse id
            (if ∃ q ∈ x.pieces, q.no ≠ no ∧ q.done = some false then b else a) s.port.responses }
      (x.course = .raw →
        (∀ ws, r.kind = .read → ws.length = r.len → exec (.memoryAnswer t i (.ok ws)) s =
          .next (State.settle { s with now := max s.now t, port := answered (.ok ws) .fault }))
        ∧ ((∃ p ∈ x.pieces, p.no = no) → exec (.memoryAnswer t i .fault) s =
          .next (State.settle { s with now := max s.now t, port := answered .fault .fault })))
      ∧ (∀ tk be out, x.course = .memberRead tk be out →
        let ends := fun (a : Response) => State.settle { s with
          now := max s.now t
          port := answered a .fault
          rings := s.rings.set tk.ring
            (if (∃ c, s.rings[tk.ring].state = .draining c) ∧ s.rings[tk.ring].count ≤ 1 then
              { state := .free, count := 0, slots := Vector.replicate 4 none }
            else { s.rings[tk.ring] with count := s.rings[tk.ring].count - 1 })
          lanes := s.lanes.set tk.lane { s.lanes[tk.lane] with
            count := s.lanes[tk.lane].count - 1, lastUse := max s.now t } }
        (∀ ws, r.kind = .read → ws.length = r.len → exec (.memoryAnswer t i (.ok ws)) s =
          .next (ends (.ok (packSamples be (resolved ws out)))))
        ∧ ((∃ p ∈ x.pieces, p.no = no) →
          exec (.memoryAnswer t i .fault) s = .next (ends .fault)))))
  ∧ ∀ (be : Bool) (vs : List Half), vs.length % 2 = 0 →
    let ws := packSamples be (vs.map SampleSource.value)
    ws.length = vs.length / 2
    ∧ ∀ (i : Nat) (a b : Half), vs[2 * i]? = some a → vs[2 * i + 1]? = some b →
      ∃ w, ws[i]? = some w ∧ loHalf w = convertOrder be a ∧ hiHalf w = convertOrder be b

/-! ## The memory port (chapter 2) -/

/-- R29, R32, R33, R34, R35. While RESET_N is high: with no self traffic waiting, or a run count below
3, the grant goes to the earliest accepted forwarded candidate, a request that is no MAILBOX one going
downstream as it came, tagged with its endpoint, and so a MAILBOX READ; with self traffic waiting the
run count rises by 1, and at 3, or with no forwarded candidate, the oldest entry is granted, tagged
1023, and the count returns to 0. The candidates are the requests to be forwarded that have no earlier
held request of their endpoint, and of each request in transform the first piece not issued. That a
grant with no candidate and no self traffic changes nothing is the model's choice (log 2). -/
def Obligations.GrantsByRunCount : Prop :=
  ∀ (s : State) (t : Instant), s.resetLow = false →
    (∀ a, s.nextForwarded = some (.request a) → a.region ≠ .mailbox →
      s.port.selfQ = [] ∨ s.port.runCount < 3 →
      exec (.downstreamGrant t) s = .next (((((s.atInstant t).takeOut a).send
        { kind := a.req.kind, addr := a.req.addr.toNat, len := a.req.len, tag := a.req.ep.val,
          data := a.req.data } (.forwarded a)).setRun
            (if s.port.selfQ = [] then 0 else s.port.runCount + 1))).settle)
    ∧ (∀ a, s.nextForwarded = some (.request a) → a.region = .mailbox → a.req.kind = .read →
      s.port.selfQ = [] ∨ s.port.runCount < 3 →
      exec (.downstreamGrant t) s = .next (((((s.atInstant t).takeOut a).send
        { kind := .read, addr := a.req.addr.toNat, len := a.req.len, tag := a.req.ep.val,
          data := a.req.data } (.forwarded { a with watch := none })).setRun
            (if s.port.selfQ = [] then 0 else s.port.runCount + 1))).settle)
    ∧ (∀ a p, s.nextForwarded = some (.piece a p) → s.port.selfQ = [] ∨ s.port.runCount < 3 →
      exec (.downstreamGrant t) s = .next (((((s.atInstant t).setPort { s.port with
        xforms := s.port.xforms.map fun x => if x.acc.id = a.id then x.issue p.no else x }).send
        { kind := if p.data = [] then .read else .write, addr := p.addr, len := p.len,
          tag := a.req.ep.val, data := p.data } (.piece a.id p.no)).setRun
            (if s.port.selfQ = [] then 0 else s.port.runCount + 1))).settle)
    ∧ (∀ e rest, s.port.selfQ = e :: rest → s.nextForwarded = none ∨ 3 ≤ s.port.runCount →
      exec (.downstreamGrant t) s = .next ((((s.atInstant t).setPort { s.port with
        selfQ := rest }).send
        { kind := if e.isWrite then .write else .read, addr := e.addr, len := e.len, tag := 1023,
          data := e.data.map fun w => { data := w, en := 0xF#4 } } (.self e.src)).setRun 0).settle)
    ∧ (s.nextForwarded = none → s.port.selfQ = [] →
      exec (.downstreamGrant t) s = .next (s.atInstant t).settle)
    ∧ (∀ c, s.nextForwarded = some c → c ∈ s.candidates ∧ ∀ c' ∈ s.candidates, c.id ≤ c'.id)
    ∧ (s.nextForwarded = none → s.candidates = [])
    ∧ (∀ c : Candidate, c ∈ s.candidates ↔
      (∃ a ∈ s.port.hold ++ s.port.arrival.toList, c = .request a ∧ a.region ≠ .voice
        ∧ ∀ h ∈ s.port.hold, h.id < a.id → h.req.ep ≠ a.req.ep)
      ∨ ∃ x ∈ s.port.xforms, ∃ (p : Piece) (pre post : List Piece), c = .piece x.acc p
        ∧ x.pieces = pre ++ p :: post ∧ p.issued = false ∧ ∀ q ∈ pre, q.issued = true)
    ∧ (∀ (a : Accepted) (p : Piece), (Candidate.request a).id = a.id ∧ (Candidate.piece a p).id = a.id)

/-- R39, R143, R144. A request sent downstream awaits memory's answer behind those sent before. A WRITE
removes exactly the reservations on the words it writes at least one byte of, and clears their holders'
fields; that a word with no enable set counts as not written, and that any other kind, a
WRITE-IF-RESERVED forwarded as such included, removes none, is the model's reading of R16 and R31 (log
12). A READ-RESERVE to MAILBOX sets its reservation at its grant and goes downstream as a READ: the
endpoint's own reservations are removed, then, of 16, the oldest, and the new one is added as the
newest. One granted in UNPLANNED goes downstream as a READ and sets none, which is the model's choice
(log 11). -/
def Obligations.ReservationsSetAndCleared : Prop :=
  (∀ (s : State) (r : DsRequest) (src : DsSource), ∃ u : State, u = s.send r src
    ∧ u.port = { s.port with awaiting := s.port.awaiting ++ [{ req := r, src := src }] }
    ∧ (r.kind ≠ .write → u.monitor = s.monitor ∧ u.endpoints = s.endpoints)
    ∧ (r.kind = .write →
      (∀ x, x ∈ u.monitor ↔ x ∈ s.monitor
        ∧ ¬ ∃ j w, r.data[j]? = some w ∧ w.en ≠ 0#4 ∧ x.word = r.addr + j)
      ∧ u.monitor.Sublist s.monitor
      ∧ ∀ e : EpNo,
        ((∃ x ∈ s.monitor, x.ep = e
            ∧ ∃ j w, r.data[j]? = some w ∧ w.en ≠ 0#4 ∧ x.word = r.addr + j) →
          u.endpoints[e] = { s.endpoints[e] with reservation := none })
        ∧ ((∀ x ∈ s.monitor, x.ep = e →
            ¬ ∃ j w, r.data[j]? = some w ∧ w.en ≠ 0#4 ∧ x.word = r.addr + j) →
          u.endpoints[e] = s.endpoints[e]))
    ∧ u = { s with port := u.port, monitor := u.monitor, endpoints := u.endpoints })
  ∧ (∀ (s : State) (t : Instant) (a : Accepted), s.resetLow = false → s.part = .unplanned →
    s.nextForwarded = some (.request a) → a.region = .mailbox → a.req.kind = .readReserve →
    s.port.selfQ = [] ∨ s.port.runCount < 3 →
    exec (.downstreamGrant t) s = .next (State.settle { s with
      now := max s.now t
      port := { s.port with
        arrival := s.port.arrival.filter fun x => x.id ≠ a.id
        hold := s.port.hold.filter fun x => x.id ≠ a.id
        awaiting := s.port.awaiting ++ [{
          req := { kind := .read, addr := a.req.addr.toNat, len := a.req.len, tag := a.req.ep.val,
                   data := a.req.data },
          src := .forwarded { a with watch := none } }]
        runCount := if s.port.selfQ = [] then 0 else s.port.runCount + 1 } }))
  ∧ ∀ (s : State) (t : Instant) (a : Accepted), s.resetLow = false → s.part ≠ .unplanned →
    s.nextForwarded = some (.request a) → a.region = .mailbox → a.req.kind = .readReserve →
    s.port.selfQ = [] ∨ s.port.runCount < 3 →
    let own := s.monitor.filter fun r => r.ep ≠ a.req.ep
    let kept := if own.length < 16 then own else own.drop 1
    ∃ u : State, exec (.downstreamGrant t) s = .next u.settle
      ∧ u.monitor = kept ++ [{ ep := a.req.ep, word := a.req.addr.toNat }]
      ∧ u.endpoints[a.req.ep] = { s.endpoints[a.req.ep] with reservation := some a.req.addr.toNat }
      ∧ (∀ e, e ≠ a.req.ep → u.endpoints[e] =
        if own.length < 16 ∨ own.head?.map Reservation.ep ≠ some e then s.endpoints[e]
        else { s.endpoints[e] with reservation := none })
      ∧ u = { s with
          now := max s.now t, monitor := u.monitor, endpoints := u.endpoints
          port := { s.port with
            arrival := s.port.arrival.filter fun x => x.id ≠ a.id
            hold := s.port.hold.filter fun x => x.id ≠ a.id
            awaiting := s.port.awaiting ++ [{
              req := { kind := .read, addr := a.req.addr.toNat, len := a.req.len,
                       tag := a.req.ep.val, data := a.req.data },
              src := .forwarded { a with watch := none } }]
            runCount := if s.port.selfQ = [] then 0 else s.port.runCount + 1 } }

/-- R32, R34, R144, R147, R148. A WRITE-IF-RESERVED to MAILBOX at its grant. Its endpoint's reservations
are removed whatever the outcome. Without one on the word it is answered NOT-RESERVED. With one, on a
claim word, a claim that meets every condition of R148 goes downstream as a WRITE with its mark recorded
in the slot; any other is refused MAILBOX. One that is answered is not counted, and the next grant
follows at once. That a write of the claim word without all four enables is refused MAILBOX is the
model's reading (log 23), and that all of this holds in UNPLANNED too its choice (log 11). -/
def Obligations.ClaimJudgedAtGrant : Prop :=
  ∀ (s : State) (t : Instant) (a : Accepted) (m : MboxNo) (k : Nat) (w : WriteWord),
    s.resetLow = false → s.nextForwarded = some (.request a) → a.region = .mailbox →
    a.req.kind = .writeIfReserved → a.req.data = [w] → s.port.selfQ = [] ∨ s.port.runCount < 3 →
    mboxAt a.off = (m, k) →
    let e := a.req.ep
    let out := ((s.atInstant t).takeOut a).removeReservations fun r => r.ep = e
    let fit := k = 0 ∧ w.en = 0xF#4 ∧ w.data = BitVec.ofNat 32 (e.val + 1)
      ∧ s.endpoints[e].role = .station ∧ s.mailboxes[m].state = .free
      ∧ s.mailboxes[m].inFlight = none ∧ s.endpoints[e].slot = none
      ∧ (∀ m' : MboxNo, ∀ x, s.mailboxes[m'].inFlight = some x → x.kind = .claim → x.ep ≠ e)
      ∧ s.part ≠ .quiescing
    let answered := fun (v : State) =>
      (s.port.selfQ = [] → v.nextForwarded = none → exec (.downstreamGrant t) s = .next v.settle)
      ∧ (s.PortBounded → exec (.downstreamGrant t) s = exec (.downstreamGrant t) v)
    ((∀ r ∈ s.monitor, ¬ (r.ep = e ∧ r.word = a.req.addr.toNat)) →
      answered (out.respond a.id .notReserved))
    ∧ ((∃ r ∈ s.monitor, r.ep = e ∧ r.word = a.req.addr.toNat) → fit →
      exec (.downstreamGrant t) s = .next ((((out.setMbox m { s.mailboxes[m] with
        inFlight := some { kind := .claim, ep := e, judged := .free, voided := false } }).send
          { kind := .write, addr := a.req.addr.toNat, len := a.req.len, tag := e.val,
            data := a.req.data }
          (.forwarded { a with watch := some (.mailbox m) })).setRun
            (if s.port.selfQ = [] then 0 else s.port.runCount + 1))).settle)
    ∧ ((∃ r ∈ s.monitor, r.ep = e ∧ r.word = a.req.addr.toNat) → ¬ fit →
      answered (out.refuse a .mailbox))

/-- R149, R150, R147. How a plain WRITE to a mailbox word is judged: which writes of the claim word are
releases and with what kind the others are refused, which of the go word are allowed, and which of the
words around them. -/
def Obligations.MailboxWordsJudged : Prop :=
  ∀ (x : Mbox) (e : EpNo) (w : WriteWord),
    (judgeWord x e 0 w = none ↔ w.en = 0xF#4 ∧ w.data = 0#32 ∧ x.owner = some e
      ∧ x.inFlight = none ∧ (x.state = .claimed ∨ x.state = .challenged ∨ x.state = .decided))
    ∧ (judgeWord x e 0 w = some .foreign ↔ w.en = 0xF#4 ∧ w.data = 0#32 ∧ x.state ≠ .free
      ∧ x.owner ≠ some e)
    ∧ (judgeWord x e 1 w = none ↔ x.owner = some e ∧ x.inFlight = none ∧ w.en = 0xF#4
      ∧ (((w.data = 1#32 ∨ w.data = 2#32) ∧ x.state = .claimed)
        ∨ (w.data = 3#32 ∧ x.state = .challenged)))
    ∧ (∀ k, k ∈ [2, 3, 9, 10, 11, 12, 13, 14, 15] → (judgeWord x e k w = none ↔
      x.owner = some e ∧ x.state = .claimed ∧ x.inFlight = none))
    ∧ (judgeWord x e 4 w = none ↔ x.owner = some e ∧ x.state = .challenged ∧ x.inFlight = none)
    ∧ (∀ k, k ∈ [5, 6, 7, 8] → judgeWord x e k w = some .mailbox)
    ∧ (∀ k v, k ≠ 0 → judgeWord x e k w = some v → v = .mailbox)
    ∧ ∀ v, judgeWord x e 0 w = some v → v = .foreign ∨ v = .mailbox

/-- R32, R34, R147, R149, R150. A MAILBOX WRITE at its grant. A burst that covers a claim word and
another word, or has a word refused, is refused whole with the first kind; it is not counted, and the
next grant follows at once. An allowed burst goes downstream unchanged, and the release or go code it
carries is recorded in its slot with the state it was judged in; one that covers neither word records
nothing. That all of this holds in UNPLANNED too is the model's choice (log 11). -/
def Obligations.MailboxWriteGranted : Prop :=
  ∀ (s : State) (t : Instant) (a : Accepted), s.resetLow = false →
    s.nextForwarded = some (.request a) → a.region = .mailbox → a.req.kind = .write →
    s.port.selfQ = [] ∨ s.port.runCount < 3 →
    let out := (s.atInstant t).takeOut a
    let mixed := 1 < a.req.len ∧ ∃ i < a.req.len, (a.off + i) % 16 = 0
    let answered := fun (v : State) =>
      (s.port.selfQ = [] → v.nextForwarded = none → exec (.downstreamGrant t) s = .next v.settle)
      ∧ (s.PortBounded → exec (.downstreamGrant t) s = exec (.downstreamGrant t) v)
    let goes := fun (v : State) (watch : Option Watch) =>
      exec (.downstreamGrant t) s = .next (((v.send
        { kind := .write, addr := a.req.addr.toNat, len := a.req.len, tag := a.req.ep.val,
          data := a.req.data }
        (.forwarded { a with watch := watch })).setRun
          (if s.port.selfQ = [] then 0 else s.port.runCount + 1))).settle
    let marked := fun (m : MboxNo) (g : MarkKind) => out.setMbox m { s.mailboxes[m] with
      inFlight := some { kind := g, ep := a.req.ep, judged := s.mailboxes[m].state, voided := false } }
    (mixed → answered (out.refuse a .mailbox))
    ∧ (∀ v j w, ¬ mixed → a.req.data[j]? = some w →
      judgeWord s.mailboxes[(mboxAt (a.off + j)).1] a.req.ep ((a.off + j) % 16) w = some v →
      (∀ j' w', j' < j → a.req.data[j']? = some w' →
        judgeWord s.mailboxes[(mboxAt (a.off + j')).1] a.req.ep ((a.off + j') % 16) w' = none) →
      answered (out.refuse a v))
    ∧ (¬ mixed → (∀ j w, a.req.data[j]? = some w →
        judgeWord s.mailboxes[(mboxAt (a.off + j)).1] a.req.ep ((a.off + j) % 16) w = none) →
      (∀ m w, a.req.data = [w] → mboxAt a.off = (m, 0) →
        goes (marked m .release) (some (.mailbox m)))
      ∧ (∀ m j w g, a.req.data[j]? = some w → mboxAt (a.off + j) = (m, 1) →
        (∀ j' < j, (a.off + j') % 16 ≠ 0 ∧ (a.off + j') % 16 ≠ 1) → goMark w.data = some g →
        goes (marked m g) (some (.mailbox m)))
      ∧ ((∀ j w, a.req.data[j]? = some w → (a.off + j) % 16 ≠ 0 ∧ (a.off + j) % 16 ≠ 1) →
        goes out none))
    ∧ ∀ v : Word, goMark v = if v = 1#32 then some .goAdmit else if v = 2#32 then some .goResign
      else if v = 3#32 then some .goAnswer else none

/-- R13, R30, R36, R37, R165, R169. Memory answers a forwarded request: the answer is its response. A
watched write that memory does not answer OK is no event; one in flight on a mailbox slot only leaves
it. A count event takes the value written if it is still in range and else changes nothing. -/
def Obligations.ForwardedAnswered : Prop :=
  (∀ (s : State) (t : Instant) (i : Nat) (r : DsRequest) (x : Accepted),
    s.port.awaiting[i]? = some { req := r, src := .forwarded x } →
    (∀ ws, x.watch = none → ws.length = (if r.kind.isWrite then 0 else r.len) →
      exec (.memoryAnswer t i (.ok ws)) s =
        .next ((s.afterAnswer t i).respond x.id (.ok ws)).settle)
    ∧ (∀ m, x.watch = some (.mailbox m) → exec (.memoryAnswer t i .fault) s =
        .next (((s.afterAnswer t i).respond x.id .fault).setMbox m
          { s.mailboxes[m] with inFlight := none }).settle)
    ∧ ((∀ m, x.watch ≠ some (.mailbox m)) →
      exec (.memoryAnswer t i .fault) s = .next ((s.afterAnswer t i).respond x.id .fault).settle)
    ∧ (r.kind = .writeIfReserved → (∀ m, x.watch ≠ some (.mailbox m)) →
      exec (.memoryAnswer t i .notReserved) s =
        .next ((s.afterAnswer t i).respond x.id .notReserved).settle))
  ∧ ∀ (s : State) (t : Instant) (i : Nat) (r : DsRequest) (a : Accepted) (v : Half),
    (s.WriteAt i r a (.orderCount v) →
      exec (.orderProducerCountWrite t i) s = .next (State.settle { s.afterWrite t i a with
        engine := { s.engine with
          orderProducer := if (v - s.engine.orderConsumed).toNat ≤ 32 then v
            else s.engine.orderProducer } }))
    ∧ (s.WriteAt i r a (.completionCount v) →
      exec (.completionConsumerCountWrite t i) s = .next (State.settle { s.afterWrite t i a with
        engine := { s.engine with
          completionConsumer := if (v - s.engine.completionConsumer).toNat ≤
              (s.engine.completionProducer - s.engine.completionConsumer).toNat then v
            else s.engine.completionConsumer } }))

/-- R19. A response is returned when it is decided and every earlier request of its endpoint has had
its response returned; it then leaves the table, and nothing else changes. That a return with none
decided changes nothing is the model's choice (log 2). -/
def Obligations.ResponseReturnedInOrder : Prop :=
  ∀ (s : State) (t : Instant) (e : EpNo) (pre post : List RespEntry) (r : RespEntry),
    s.port.responses = pre ++ r :: post → (∀ x ∈ pre, x.ep ≠ e) → r.ep = e →
    (s.port.responses.map RespEntry.id).Nodup →
    (r.response = none → exec (.responseReturn t e) s = .next (s.atInstant t))
    ∧ ∀ x, r.response = some x → exec (.responseReturn t e) s = .next { s with
        now := max s.now t
        port := { s.port with
          responses := pre ++ post
          returned := some { id := r.id, ep := e, response := x } } }

/-- R38, R175. Entries are placed together at the queue's end when no block waits and they fit in its 8
places; else their block waits behind the others. The block that asked first places its entries when
they fit, and none overtakes it. A record write that stands first takes one place, with its records
built from the state as it is placed; the next record write is then placed, or waits behind the blocks
that asked before. What this places stands in the queue after the work of any event. That a placement
with no block waiting changes nothing is the model's choice (log 2), and that the work of every event
begins with this placing its reading (log 7). -/
def Obligations.SelfTrafficPlaced : Prop :=
  (∀ (s : State) (b : Block) (p : Bool) (es : List SelfEntry),
    (s.port.waiters = [] → s.port.selfQ.length + es.length ≤ 8 →
      s.place b p es = s.setPort { s.port with selfQ := s.port.selfQ ++ es })
    ∧ (s.port.waiters ≠ [] ∨ 8 < s.port.selfQ.length + es.length →
      s.place b p es = s.setPort { s.port with waiters := s.port.waiters ++ [.entries b p es] }))
  ∧ (∀ (s : State) (t : Instant) (b : Block) (p : Bool) (es : List SelfEntry) (rest : List Waiter),
    s.port.waiters = .entries b p es :: rest →
    (8 < s.port.selfQ.length + es.length →
      exec (.selfTrafficPlacement t) s = .next (s.atInstant t).settle)
    ∧ (s.port.selfQ.length + es.length ≤ 8 → rest = [] →
      exec (.selfTrafficPlacement t) s = .next ((s.atInstant t).setPort { s.port with
        selfQ := s.port.selfQ ++ es, waiters := [] }).settle)
    ∧ (∀ b' p' es' rest', s.port.selfQ.length + es.length ≤ 8 → rest = .entries b' p' es' :: rest' →
      8 < s.port.selfQ.length + es.length + es'.length →
      exec (.selfTrafficPlacement t) s = .next ((s.atInstant t).setPort { s.port with
        selfQ := s.port.selfQ ++ es, waiters := rest }).settle))
  ∧ (∀ (s : State) (n : Nat),
    s.placeWaiting = s.placeWaitingN 9 ∧ s.placeWaitingN 0 = s
    ∧ (s.port.waiters = [] → s.placeWaitingN (n + 1) = s)
    ∧ (∀ b p es rest, s.port.waiters = .entries b p es :: rest →
      (8 < s.port.selfQ.length + es.length → s.placeWaitingN (n + 1) = s)
      ∧ (s.port.selfQ.length + es.length ≤ 8 → s.placeWaitingN (n + 1) =
        (s.setPort { s.port with selfQ := s.port.selfQ ++ es, waiters := rest }).placeWaitingN n))
    ∧ ∀ rest, s.port.waiters = .reportWrite :: rest →
      (8 ≤ s.port.selfQ.length → s.placeWaitingN (n + 1) = s)
      ∧ (s.port.selfQ.length < 8 →
        (∀ q job, s.engine.inExec = some { seq := q, phase := .report job } →
          s.placeWaitingN (n + 1) = (State.placeReport { s with
            port := { s.port with
              selfQ := s.port.selfQ ++ [selfWrite (job.buffer / 4 + 16 * job.placed)
                (packBytes (s.reportBytes job.kind job.placed)) .report]
              waiters := rest }
            engine := { s.engine with inExec := some { seq := q, phase := .report { job with
              placed := job.placed + 1, outstanding := job.outstanding + 1 } } } }).placeWaitingN n)
        ∧ ((∀ q job, s.engine.inExec ≠ some { seq := q, phase := .report job }) →
          s.placeWaitingN (n + 1) = (s.setPort { s.port with waiters := rest }).placeWaitingN n)))
  ∧ (∀ (s : State) (t : Instant),
    exec (.selfTrafficPlacement t) s = .next (s.atInstant t).placeWaiting.settle
    ∧ s.placeWaiting.port.selfQ <+: s.settle.port.selfQ
    ∧ (s.port.waiters = [] → exec (.selfTrafficPlacement t) s = .next (s.atInstant t).settle))
  ∧ ∀ (s : State) (t : Instant) (q : Half) (job : ReportJob), s.port.waiters = [.reportWrite] →
    s.engine.inExec = some { seq := q, phase := .report job } →
    (8 ≤ s.port.selfQ.length →
      exec (.selfTrafficPlacement t) s = .next (s.atInstant t).settle)
    ∧ (s.port.selfQ.length < 8 → job.placed < job.kind.writes →
      exec (.selfTrafficPlacement t) s = .next (State.placeReport { s with
        now := max s.now t
        port := { s.port with
          selfQ := s.port.selfQ ++ [selfWrite (job.buffer / 4 + 16 * job.placed)
            (packBytes (s.reportBytes job.kind job.placed)) .report]
          waiters := [] }
        engine := { s.engine with inExec := some { seq := q, phase := .report { job with
          placed := job.placed + 1, outstanding := job.outstanding + 1 } } } }).settle)

/-! ## The plan validator (chapter 1) -/

/-- R3, R177, 10.2. The first check of a record that fails gives its reason. The fields of a record are
read from their places, whatever its unread words hold: the four control fields in order without those
of 0xFFFF, each other one as a number; and the plan of a record that passes has its values. -/
def Obligations.RecordChecksInOrder : Prop :=
  (∀ (f : PlanFields) (anchor : Nat),
    f.check anchor =
      if f.signature ≠ 0x7A526120#32 then some .signature
      else if ¬ (f.voiceBase % 4096 = 0 ∧ f.mailboxBase % 64 = 0 ∧ f.orderBase % 64 = 0
          ∧ f.completionBase % 64 = 0) then some .alignment
      else if ¬ (f.voiceBase + 327680 ≤ 2 ^ 32 ∧ f.mailboxBase + 2048 ≤ 2 ^ 32
          ∧ f.orderBase + 1088 ≤ 2 ^ 32 ∧ f.completionBase + 1088 ≤ 2 ^ 32
          ∧ (f.source = 1 ∨ f.source = 2) ∧ 5000 ≤ f.period ∧ f.period ≤ 40000
          ∧ 2 ≤ f.tAw ∧ f.tAw ≤ 255 ∧ 1 ≤ f.challengeLimit ∧ f.challengeLimit ≤ 250
          ∧ 1 ≤ f.lockout ∧ f.lockout ≤ 65535
          ∧ 16 ≤ f.rekeyInterval ∧ f.rekeyInterval ≤ 4096) then some .range
      else if ¬ (f.control ≠ [] ∧ (∀ n ∈ f.control, n < 512) ∧ f.control.Nodup) then
        some .controlList
      else if ([(f.voiceBase, 327680), (f.mailboxBase, 2048), (f.orderBase, 1088),
          (f.completionBase, 1088), (anchor, 64)] : List (Nat × Nat)).Pairwise
            (fun x y => x.1 + x.2 ≤ y.1 ∨ y.1 + y.2 ≤ x.1) then none
      else some .overlap)
  ∧ (∀ (w0 voice mailbox order completion period x10 w11 w12 w13 w14 signature : Word)
      (c0 c1 c2 c3 start lockout interval : Half) (source tAw : Byte),
    planFields [w0, voice, mailbox, order, completion, wordOfHalves c0 c1, wordOfHalves c2 c3,
      wordOfBytes source tAw (loByte start) (hiByte start), period, wordOfHalves lockout interval, x10,
      w11, w12, w13, w14, signature]
    = { voiceBase := voice.toNat, mailboxBase := mailbox.toNat, orderBase := order.toNat,
        completionBase := completion.toNat
        control := (if c0 = 0xFFFF#16 then [] else [c0.toNat])
          ++ (if c1 = 0xFFFF#16 then [] else [c1.toNat])
          ++ (if c2 = 0xFFFF#16 then [] else [c2.toNat])
          ++ (if c3 = 0xFFFF#16 then [] else [c3.toNat])
        source := source.toNat, tAw := tAw.toNat, challengeStart := start
        period := period.toNat, lockout := lockout.toNat, rekeyInterval := interval.toNat
        challengeLimit := x10.toNat % 256, signature := signature })
  ∧ ∀ (f : PlanFields) (anchor : Nat), f.check anchor = none →
    f.plan = { voiceBase := f.voiceBase, mailboxBase := f.mailboxBase, orderBase := f.orderBase,
               completionBase := f.completionBase, control := f.plan.control
               source := if f.source = 1 then .internal else .external
               period := f.period, tAw := f.tAw, challengeLimit := f.challengeLimit
               lockout := f.lockout, rekeyInterval := f.rekeyInterval
               challengeStart := f.challengeStart }
    ∧ f.plan.control.map Fin.val = f.control

/-- R2, R4, R6, 10.2. A signature event starts a validation of 16 words at the anchor, or sets the
pending flag. A validation that ends without a taking counts itself and writes its status word, with the
code of its outcome and reason; one that ends with the pending flag set also starts the next at once. A
record may be taken in UNPLANNED, and in PLANNED while every call and every slot is FREE with no watched
write in flight, no lane is EXPANDING, no order is in execution, no completion is held and no blanking
interval is in progress. That a watched signature write is an event whatever the part state at its answer
(log 39), and that the validator is idle once the status write is asked for (log 40), are the model's
choices. -/
def Obligations.ValidationsRun : Prop :=
  (∀ (s : State) (t : Instant) (i : Nat) (r : DsRequest) (a : Accepted),
    s.WriteAt i r a .signature →
    (s.validator.inFlight = false →
      exec (.signatureWrite t i) s = .next (State.place
        { s.afterWrite t i a with validator := { s.validator with inFlight := true } }
        .validator false [selfRead (s.anchorSel.toNat * 4194304) 16 .anchorRead]).settle)
    ∧ (s.validator.inFlight = true →
      exec (.signatureWrite t i) s = .next (State.settle
        { s.afterWrite t i a with validator := { s.validator with pending := true } })))
  ∧ (∀ s : State, s.mayTake = true ↔ s.part = .unplanned
      ∨ s.part = .planned ∧ (∀ c : CallNo, s.calls[c].state = .free)
        ∧ (∀ m : MboxNo, s.mailboxes[m].state = .free ∧ s.mailboxes[m].inFlight = none)
        ∧ (∀ l : LaneNo, s.lanes[l].state ≠ .expanding)
        ∧ s.engine.inExec = none ∧ s.engine.held = none ∧ ∀ q, s.timer.change ≠ .blanking q)
  ∧ ((PlanOutcome.taken.code = 1#8 ∧ PlanOutcome.taken.reason = 0#8)
    ∧ (PlanOutcome.busy.code = 3#8 ∧ PlanOutcome.busy.reason = 0#8)
    ∧ ∀ x ∈ ([(.signature, 1#8), (.alignment, 2#8), (.range, 3#8), (.controlList, 4#8),
        (.overlap, 5#8), (.fault, 6#8)] : List (PlanOutcome × Byte)),
      x.1.code = 2#8 ∧ x.1.reason = x.2)
  ∧ ∀ (s : State) (t : Instant) (i : Nat) (r : DsRequest) (ans : Answer) (o : PlanOutcome),
    s.SelfAt i r .anchorRead → r.kind = .read → r.len = 16 →
    (ans = .fault ∧ o = .fault
      ∨ ∃ ws, ans = .ok ws ∧ ws.length = 16
        ∧ ((planFields ws).check s.anchorByte = some o
          ∨ (planFields ws).check s.anchorByte = none ∧ s.mayTake = false ∧ o = .busy)) →
    let n := s.validator.count + 1#16
    let status : SelfEntry := selfWrite (s.anchorSel.toNat * 4194304)
      [wordOfBytes o.code o.reason (loByte n) (hiByte n)] .planStatus
    (s.validator.pending = false →
      exec (.anchorSelfReadReturn t ans) s = .next (State.place
        { s.afterAnswer t i with validator := { inFlight := false, pending := false, count := n } }
        .validator false [status]).settle)
    ∧ (s.validator.pending = true →
      ∃ v : State, v = State.place
          { s.afterAnswer t i with validator := { inFlight := false, pending := true, count := n } }
          .validator false [status]
        ∧ exec (.anchorSelfReadReturn t ans) s = .next (State.place
          { v with validator := { inFlight := true, pending := false, count := n } }
          .validator false [selfRead (s.anchorSel.toNat * 4194304) 16 .anchorRead]).settle)

/-- R2, R4, R5, R6, R121, R138, R165, R169. A valid record read while the taking condition holds is taken: the
locks' remaining ticks, the emptied monitor, the fresh timer and counts and the challenge counter of the
new plan; what R5 keeps is kept. Then the notices that wait are delivered into the new ring, and the new
control list has its roles, an ADMITTED endpoint going OUT with DEADMITTED; that order is the model's
choice (log 14). The status word is written, and a pending signature event starts the next validation,
whether the status write has its place or waits (log 40). Count writes judged before the taking are
events no more (R165, R169, log 10). That signature writes stay events (log 39) and that waiting entries
of the pass keep their mark (log 41) are the model's choices. -/
def Obligations.PlanTaken : Prop :=
  (∀ a : Accepted,
    (∀ v, a.watch = some (.orderCount v) ∨ a.watch = some (.completionCount v) →
      a.voidCount = { a with watch := none })
    ∧ (a.watch = none ∨ a.watch = some .signature ∨ (∃ m, a.watch = some (.mailbox m)) →
      a.voidCount = a))
  ∧ (∀ w : Awaiting,
    (∀ a, w.src = .forwarded a → w.voidCount = { w with src := .forwarded a.voidCount })
    ∧ ((∀ a, w.src ≠ .forwarded a) → w.voidCount = w))
  ∧ ∀ (s : State) (t : Instant) (i : Nat) (r : DsRequest) (ws : List Word) (p : Plan),
    s.SelfAt i r .anchorRead → r.kind = .read → r.len = 16 → ws.length = 16 →
    (planFields ws).check s.anchorByte = none → s.mayTake = true → (planFields ws).plan = p →
    let n := s.validator.count + 1#16
    let anchor := s.anchorSel.toNat * 4194304
    ∃ u v w : State, exec (.anchorSelfReadReturn t (.ok ws)) s = .next u.settle
      ∧ v = p.control.foldl
          (fun x e => (x.setEp e { x.endpoints[e] with role := .control }).deadmit e .role) w.deliver
      ∧ (s.validator.pending = false → u = v.place .validator false
          [selfWrite anchor [wordOfBytes 1#8 0#8 (loByte n) (hiByte n)] .planStatus])
      ∧ (s.validator.pending = true →
        ∃ x : State, x = v.place .validator false
            [selfWrite anchor [wordOfBytes 1#8 0#8 (loByte n) (hiByte n)] .planStatus]
          ∧ u = State.place
            { x with validator := { inFlight := true, pending := false, count := n } }
            .validator false [selfRead anchor 16 .anchorRead])
      ∧ w.part = .planned ∧ w.plan = some p
      ∧ w.validator = { inFlight := false, pending := s.validator.pending, count := n }
      ∧ (∀ e : EpNo, w.endpoints[e] = { s.endpoints[e] with
          role := if s.endpoints[e].role = .control then .unused else s.endpoints[e].role
          reservation := if ∃ x ∈ s.monitor, x.ep = e then none else s.endpoints[e].reservation })
      ∧ (∀ d : EntryNo, w.directory[d] = { s.directory[d] with
          lock := s.directory[d].lock.map (fun x => x - s.timer.counter) })
      ∧ w.monitor = [] ∧ w.challengeCtr = p.challengeStart
      ∧ w.timer =
        { source := p.source, period := p.period,
          state := if p.source = .internal then .internal else .externalLocked, running := true,
          nextExpiry := some (max s.now t +
            (if p.source = .internal then p.period * 1000 else 3 * (p.period * 1000) / 2)),
          lastTick := max s.now t, counter := 0#32, slips := 0, pass := none, pendingTick := none,
          change := s.timer.change }
      ∧ w.engine = { s.engine with
          orderProducer := 0#16, orderConsumed := 0#16, completionProducer := 0#16,
          completionConsumer := 0#16 }
      ∧ w.port = { s.port with
          arrival := s.port.arrival.map Accepted.voidCount
          hold := s.port.hold.map Accepted.voidCount
          awaiting := (dropAt i s.port.awaiting).map Awaiting.voidCount }
      ∧ w = { s with
          now := max s.now t, part := w.part, plan := w.plan, validator := w.validator,
          endpoints := w.endpoints, directory := w.directory, monitor := w.monitor,
          challengeCtr := w.challengeCtr, timer := w.timer, engine := w.engine, port := w.port }

/-! ## Mailbox events (chapter 8) -/

/-- R148, R149, R150, R156, R157, R146, R83. The events of the mailbox writes in flight. A claim takes a
FREE slot; a release frees the slot, with a failure counted from CHALLENGED; a go code ADMIT or RESIGN
asks for the request words, ANSWER for the answer words and a check. One whose slot is no longer as it
was judged, or that RESTART voided, only leaves the slot's in-flight mark clear. -/
def Obligations.MailboxEvents : Prop :=
  ∀ (s : State) (t : Instant) (i : Nat) (r : DsRequest) (a : Accepted) (m : MboxNo) (k : Mark)
      (x : Mbox), s.WriteAt i r a (.mailbox m) → x = s.mailboxes[m] → x.inFlight = some k →
    let w := s.afterWrite t i a
    let area := s.thePlan.mailboxBase / 4 + 16 * m.val
    let stands := x.state = k.judged ∧ k.voided = false ∧ x.owner = some k.ep
    let only : Host.Outcome State Fault Refusal :=
      .next (w.setMbox m { x with inFlight := none }).settle
    (k.kind = .claim → x.state = .free → k.voided = false →
      exec (.claim t i) s = .next (State.place { w with
        mailboxes := s.mailboxes.set m
          { state := .claimed, owner := some k.ep, goCode := none, entry := none, number := none,
            bigEndian := none, challenge := none, answer := none,
            deadline := some (s.timer.counter + BitVec.ofNat 32 s.thePlan.challengeLimit),
            verdict := none, aged := false, inFlight := none, selfRead := x.selfRead }
        endpoints := s.endpoints.set k.ep { s.endpoints[k.ep] with slot := some m } }
        .admission false [selfWrite (area + 5) [1#32] (.mirror m)]).settle)
    ∧ (k.kind = .claim → x.state ≠ .free ∨ k.voided = true → exec (.claim t i) s = only)
    ∧ (k.kind = .release → stands →
      ∃ v : State, exec (.release t i) s = .next (v.place .admission false
          [selfWrite (area + 5) [0#32] (.mirror m)]).settle
        ∧ v = { w with
          mailboxes := s.mailboxes.set m
            { state := .free, owner := none, goCode := none, entry := none, number := none,
              bigEndian := none, challenge := none, answer := none, deadline := none,
              verdict := none, aged := false, inFlight := none, selfRead := x.selfRead }
          endpoints := s.endpoints.set k.ep { s.endpoints[k.ep] with slot := none }
          directory := v.directory }
        ∧ (x.state ≠ .challenged ∨ x.entry = none → v.directory = s.directory)
        ∧ (∀ d, x.state = .challenged → x.entry = some d → v.directory = s.directory.set d
            (s.directory[d].fail s.timer.counter s.thePlan.lockout)))
    ∧ (k.kind = .release → ¬ stands → exec (.release t i) s = only)
    ∧ (k.kind = .goAdmit → stands →
      exec (.goAdmit t i) s = .next ((w.setMbox m { x with
        state := .requested, goCode := some .admit_, deadline := none, inFlight := none,
        selfRead := true }).place .admission false
          [selfWrite (area + 5) [wordOfBytes 2#8 (if x.aged then 1#8 else 0#8) 0#8 0#8] (.mirror m),
           selfRead (area + 2) 2 (.requestRead m)]).settle)
    ∧ (k.kind = .goAdmit → ¬ stands → exec (.goAdmit t i) s = only)
    ∧ (k.kind = .goResign → stands →
      exec (.goResign t i) s = .next ((w.setMbox m { x with
        state := .requested, goCode := some .resign, deadline := none, inFlight := none,
        selfRead := true }).place .admission false
          [selfWrite (area + 5) [wordOfBytes 2#8 (if x.aged then 1#8 else 0#8) 0#8 0#8] (.mirror m),
           selfRead (area + 2) 2 (.requestRead m)]).settle)
    ∧ (k.kind = .goResign → ¬ stands → exec (.goResign t i) s = only)
    ∧ (k.kind = .goAnswer → stands →
      exec (.goAnswer t i) s = .next (((w.setMbox m { x with
        state := .answered, deadline := none, inFlight := none, selfRead := true }).place
          .admission false
          [selfWrite (area + 5) [wordOfBytes 4#8 (if x.aged then 1#8 else 0#8) 0#8 0#8] (.mirror m),
           selfRead (area + 4) 1 (.answerRead m)]).askCheck m).settle)
    ∧ (k.kind = .goAnswer → ¬ stands → exec (.goAnswer t i) s = only)

/-- R146, R151, R152, R154, R156, R157, R162, R179, 10.6. The self-reads of a slot return. A slot that has
left the state it was read in discards the answer, FAULT included. From REQUESTED a verdict is decided
or the slot is challenged with the challenge counter, which rises by 1; from ANSWERED the answer words
are stored. A FAULT decides the verdict FAULT, and from ANSWERED the slot is taken out of its waiting
request, which is withdrawn with its last slot, and of its activation in flight. A slot decided takes
its verdict and a deadline, and its two verdict words, in one write, and its mirror are written; that a
RESIGN's DEADMITTED is raised before these writes is the model's reading (log 25). The verdict codes are
the numbers of 10.6. -/
def Obligations.SlotSelfReadsReturn : Prop :=
  (∀ x ∈ ([(.admitted, 1#32), (.wrong, 2#32), (.locked, 3#32), (.noEntry, 4#32), (.already, 5#32),
      (.inUse, 6#32), (.inCall, 7#32), (.resigned, 8#32), (.timeout, 9#32), (.fault, 10#32)] :
      List (VerdictCode × Word)), x.1.code = x.2)
  ∧ (∀ (s : State) (m : MboxNo) (v : Verdict), s.decideSlot m v =
    (s.setMbox m { s.mailboxes[m] with
      state := .decided, verdict := some v, aged := false,
      deadline := some (s.timer.counter + BitVec.ofNat 32 s.thePlan.challengeLimit) }).place
        .admission false
        [selfWrite (s.thePlan.mailboxBase / 4 + 16 * m.val + 7) [v.code.code, v.detail] (.verdict m),
         selfWrite (s.thePlan.mailboxBase / 4 + 16 * m.val + 5) [5#32] (.mirror m)])
  ∧ (∀ (s : State) (t : Instant) (i : Nat) (r : DsRequest) (m : MboxNo) (x : Mbox),
    s.SelfAt i r (.requestRead m) → r.kind = .read → r.len = 2 → x = s.mailboxes[m] →
    let w := (s.afterAnswer t i).setMbox m { x with selfRead := false }
    (∀ ws : List Word, ws.length = 2 → x.state ≠ .requested →
      exec (.requestSelfReadReturn t m (.ok ws)) s = .next w.settle)
    ∧ (x.state ≠ .requested → exec (.requestSelfReadReturn t m .fault) s = .next w.settle)
    ∧ (x.state = .requested → exec (.requestSelfReadReturn t m .fault) s =
        .next (w.decideSlot m { code := .fault, detail := 0#32 }).settle)
    ∧ (∀ (ws : List Word) (e : EpNo), ws.length = 2 → x.state = .requested → x.owner = some e →
      x.goCode = some .resign →
      (∀ c, s.endpoints[e].call = some c → exec (.requestSelfReadReturn t m (.ok ws)) s =
        .next (w.decideSlot m { code := .inCall, detail := BitVec.ofNat 32 c.val }).settle)
      ∧ (s.endpoints[e].call = none → exec (.requestSelfReadReturn t m (.ok ws)) s =
        .next ((w.deadmit e .resigned).decideSlot m { code := .resigned, detail := 0#32 }).settle))
    ∧ (∀ (w0 w1 : Word) (e : EpNo), x.state = .requested → x.owner = some e → x.goCode = some .admit_ →
      let n := (loHalf w0).toNat
      let ans := exec (.requestSelfReadReturn t m (.ok [w0, w1])) s
      (1024 ≤ n → ans = .next (w.decideSlot m { code := .noEntry, detail := 0#32 }).settle)
      ∧ ∀ d : EntryNo, d.val = n →
        (s.directory[d].enabled = false ∨ s.directory[d].number ≠ w1.toNat →
          ans = .next (w.decideSlot m { code := .noEntry, detail := 0#32 }).settle)
        ∧ (s.directory[d].enabled = true → s.directory[d].number = w1.toNat →
          (∀ u, s.directory[d].lock = some u → 2147483648 ≤ (s.timer.counter - u).toNat →
            ans = .next (w.decideSlot m { code := .locked, detail := u - s.timer.counter }).settle)
          ∧ ((∀ u, s.directory[d].lock = some u → (s.timer.counter - u).toNat < 2147483648) →
            let w' := w.setEntry d { s.directory[d] with lock := none }
            (∀ d', s.endpoints[e].admitted = some d' → ans =
              .next (w'.decideSlot m { code := .already, detail := BitVec.ofNat 32 d'.val }).settle)
            ∧ (s.endpoints[e].admitted = none → ans = .next (State.place { w' with
                challengeCtr := s.challengeCtr + 1#16
                mailboxes := s.mailboxes.set m { x with
                  selfRead := false, state := .challenged, entry := some d, number := some w1.toNat,
                  bigEndian := some ((byteOf w0 2).getLsbD 0), challenge := some s.challengeCtr,
                  deadline :=
                    some (s.timer.counter + BitVec.ofNat 32 s.thePlan.challengeLimit) } }
                .admission false
                [selfWrite (s.thePlan.mailboxBase / 4 + 16 * m.val + 6)
                   [wordOfHalves s.challengeCtr 0#16] (.challenge m),
                 selfWrite (s.thePlan.mailboxBase / 4 + 16 * m.val + 5)
                   [wordOfBytes 3#8 (if x.aged then 1#8 else 0#8) 0#8 0#8] (.mirror m)]).settle)))))
  ∧ (∀ (s : State) (m : MboxNo),
    (s.slotListed m = true ↔ (∃ q ∈ s.waiting, m ∈ q.slots)
      ∨ ∃ (l : LaneNo) (x : Expansion), s.lanes[l].expansion = some x ∧ m ∈ x.slots)
    ∧ ∃ u : State, (s.withdrawSlot m).dropFromExpansions m = u
      ∧ (∀ q, q ∈ u.waiting ↔ (∃ q' ∈ s.waiting, q = { q' with slots := q'.slots.filter (· ≠ m) })
        ∧ ((∃ c, q.subject = .call c) ∨ q.slots ≠ []))
      ∧ (∀ l : LaneNo, u.lanes[l] = { s.lanes[l] with
          expansion := s.lanes[l].expansion.map fun x => { x with slots := x.slots.filter (· ≠ m) } })
      ∧ u = { s with waiting := u.waiting, lanes := u.lanes })
  ∧ ∀ (s : State) (t : Instant) (i : Nat) (r : DsRequest) (m : MboxNo) (x : Mbox),
    s.SelfAt i r (.answerRead m) → r.kind = .read → r.len = 1 → x = s.mailboxes[m] →
    let w := (s.afterAnswer t i).setMbox m { x with selfRead := false }
    (∀ w0 : Word, x.state ≠ .answered →
      exec (.answerSelfReadReturn t m (.ok [w0])) s = .next w.settle)
    ∧ (x.state ≠ .answered → exec (.answerSelfReadReturn t m .fault) s = .next w.settle)
    ∧ (∀ w0 : Word, x.state = .answered → s.slotListed m = true →
      exec (.answerSelfReadReturn t m (.ok [w0])) s = .next (w.setMbox m { x with
        selfRead := false, answer := some (loHalf w0, hiHalf w0) }).settle)
    ∧ (∀ w0 : Word, x.state = .answered → s.slotListed m = false →
      exec (.answerSelfReadReturn t m (.ok [w0])) s = .next ((w.setMbox m { x with
        selfRead := false, answer := some (loHalf w0, hiHalf w0) }).askCheck m).settle)
    ∧ (x.state = .answered → exec (.answerSelfReadReturn t m .fault) s =
        .next (((w.withdrawSlot m).dropFromExpansions m).decideSlot m
          { code := .fault, detail := 0#32 }).settle)

/-- R93, R142, R155, R162. At the completion of a directory entry's activation the slots that it serves
are taken in the order of its list, and the lane goes EMPTY. A slot that is not ready stays ANSWERED. A
ready one is decided: NO-ENTRY, LOCKED by a lock in force, WRONG with a failure counted (LOCKED where
that failure locks), IN-USE, or ADMITTED with both sides of the pair set; an endpoint that the entry
named before goes OUT with reason MOVED. That DEADMITTED is raised before the slot's writes and ADMITTED
after them is the model's reading (log 25). -/
def Obligations.AnswersCompared : Prop :=
  (∀ (s : State) (l : LaneNo) (d : EntryNo) (x : Expansion),
    s.lanes[l].state = .expanding → s.lanes[l].subject = some (.entry d) →
    s.lanes[l].expansion = some x →
    exec (.entryActivationCompletion l) s = .next (State.settle
      ((x.slots.foldl (fun v m => v.compareSlot d m) (s.atInstant x.finish)).setLane l { s.lanes[l] with
        state := .empty, subject := none, keys := LaneKeys.blank, count := 0, expansion := none })))
  ∧ ∀ (s : State) (d : EntryNo) (m : MboxNo) (b : Mbox), b = s.mailboxes[m] →
    let ends := fun (v : State) => s.compareSlot d m = v
    let unlocked := s.setEntry d { s.directory[d] with lock := none }
    let inForce := ∃ u, s.directory[d].lock = some u ∧ 2147483648 ≤ (s.timer.counter - u).toNat
    (b.state ≠ .answered ∨ b.selfRead = true → ends s)
    ∧ ∀ (e : EpNo) (c : Half) (given : Half × Half), b.state = .answered → b.selfRead = false →
      b.owner = some e → b.challenge = some c → b.answer = some given →
      (s.directory[d].enabled = false ∨ b.number ≠ some s.directory[d].number →
        ends (s.decideSlot m { code := .noEntry, detail := 0#32 }))
      ∧ (s.directory[d].enabled = true → b.number = some s.directory[d].number →
        (∀ u, s.directory[d].lock = some u → 2147483648 ≤ (s.timer.counter - u).toNat →
          ends (s.decideSlot m { code := .locked, detail := u - s.timer.counter }))
        ∧ (¬ inForce → expectedAnswer s.directory[d].secret c ≠ given →
          (s.directory[d].fails < 2 →
            ends ((s.setEntry d { s.directory[d] with
                lock := none, fails := s.directory[d].fails + 1 }).decideSlot m
              { code := .wrong, detail := BitVec.ofNat 32 (s.directory[d].fails + 1) }))
          ∧ (s.directory[d].fails = 2 →
            ends ((s.setEntry d { s.directory[d] with
                fails := 0
                lock := some (s.timer.counter + BitVec.ofNat 32 s.thePlan.lockout) }).decideSlot m
              { code := .locked, detail := BitVec.ofNat 32 s.thePlan.lockout })))
        ∧ (¬ inForce → expectedAnswer s.directory[d].secret c = given →
          let admits := fun (v : State) (be : Bool) => State.raise (State.decideSlot
            ((v.setEp e { v.endpoints[e] with admitted := some d, bigEndian := be }).setEntry d
              { v.directory[d] with admittedEp := some e, fails := 0 })
            m { code := .admitted, detail := BitVec.ofNat 32 d.val })
            .admitted (.endpoint (BitVec.ofNat 16 e.val)) []
          (∀ o, s.directory[d].admittedEp = some o → o ≠ e → s.endpoints[o].call.isSome = true →
            ends (unlocked.decideSlot m { code := .inUse, detail := BitVec.ofNat 32 o.val }))
          ∧ (∀ be, s.directory[d].admittedEp = none ∨ s.directory[d].admittedEp = some e →
            b.bigEndian = some be → ends (admits unlocked be))
          ∧ (∀ o be, s.directory[d].admittedEp = some o → o ≠ e → s.endpoints[o].call = none →
            b.bigEndian = some be → ends (admits (unlocked.deadmit o .moved) be))))

/-! ## The order engine (chapter 9) -/

/-- R166, R167, R178. A fetch starts exactly while the part is PLANNED, no order is in execution, no
completion is held and the counts differ. At its return the consumed count rises by 1 and is written. A
fetch answered FAULT completes its order FAULT; an order whose kind or fields are malformed is completed
BAD-ORDER with no subject, and neither does anything more. That the engine fetches while
entries of its own still wait for places is the model's choice (log 35), and that a start that is not
due changes nothing log 2. -/
def Obligations.OrdersFetched : Prop :=
  (∀ (s : State) (t : Instant),
    (s.part = .planned → s.engine.inExec = none → s.engine.held = none →
      s.engine.orderProducer ≠ s.engine.orderConsumed →
      exec (.orderFetchStart t) s = .next (State.place { s with
        now := max s.now t
        engine := { s.engine with
          inExec := some { seq := s.engine.orderConsumed, phase := .fetching } } }
        .engine false
        [selfRead (s.thePlan.orderBase / 4 + 8 * (s.engine.orderConsumed.toNat % 32)) 8
          .orderFetch]).settle)
    ∧ (s.part ≠ .planned ∨ s.engine.inExec ≠ none ∨ s.engine.held ≠ none
        ∨ s.engine.orderProducer = s.engine.orderConsumed →
      exec (.orderFetchStart t) s = .next (s.atInstant t).settle))
  ∧ ∀ (s : State) (t : Instant) (i : Nat) (q : Half), s.FetchAt i q →
    s.afterFetch t i = State.place { s.afterAnswer t i with
        engine := { s.engine with orderConsumed := s.engine.orderConsumed + 1#16 } }
      .engine false
      [selfWrite (s.thePlan.orderBase / 4 + 257)
        [wordOfHalves (s.engine.orderConsumed + 1#16) 0#16] .consumedCount]
    ∧ exec (.orderFetchFault t) s =
        .next ((s.afterFetch t i).finish (orderCompletion q .fault .none [])).settle
    ∧ ∀ c o, ReturnsOrder c t o → Malformed o →
      exec c s = .next ((s.afterFetch t i).finish (orderCompletion q .badOrder .none [])).settle

/-- 10.4, R166, R167. The order that each kind of entry holds, whatever its unread bytes; and an order
command is memory's answer to the fetch with an entry that holds that order. A word's bytes and halves
stand in ascending order of place from its low end. -/
def Obligations.OrderEntriesDecode : Prop :=
  (∀ (a b c n l ro by' on y z : Byte) (call e0 e1 e2 e3 k0 k1 k2 k3 x1 x2 : Half)
      (period number buffer u1 u2 u3 u4 u5 u6 u7 : Word),
    decodeOrder [wordOfBytes 0x01#8 a b c, wordOfBytes (loByte call) (hiByte call) n l,
      wordOfHalves e0 e1, wordOfHalves e2 e3, wordOfHalves k0 k1, wordOfHalves k2 k3, u6, u7]
      = .openCall call n l e0 e1 e2 e3 { k0 := k0, k1 := k1, k2 := k2, k3 := k3 }
    ∧ decodeOrder [wordOfBytes 0x02#8 a b c, wordOfHalves call x1, wordOfHalves e0 x2,
      u3, u4, u5, u6, u7] = .addMember call e0
    ∧ decodeOrder [wordOfBytes 0x03#8 a b c, wordOfHalves call x1, wordOfHalves e0 x2,
      u3, u4, u5, u6, u7] = .dropMember call e0
    ∧ decodeOrder [wordOfBytes 0x04#8 a b c, wordOfHalves call x1, u2, u3, u4, u5, u6, u7]
      = .closeCall call
    ∧ decodeOrder [wordOfBytes 0x05#8 a b c, wordOfBytes (loByte call) (hiByte call) n l,
      u2, u3, u4, u5, u6, u7] = .rekeyNow call l
    ∧ decodeOrder [wordOfBytes 0x10#8 a b c, wordOfBytes n y z l, period, u3, u4, u5, u6, u7]
      = .setTiming n period
    ∧ decodeOrder [wordOfBytes 0x20#8 a b c, u1, wordOfBytes (loByte e0) (hiByte e0) ro by',
      u3, u4, u5, u6, u7] = .setEndpoint e0 ro by'
    ∧ decodeOrder [wordOfBytes 0x21#8 a b c, wordOfBytes (loByte call) (hiByte call) on y, number, u3,
      wordOfHalves k0 k1, wordOfHalves k2 k3, u6, u7]
      = .setDirectory call on number { k0 := k0, k1 := k1, k2 := k2, k3 := k3 }
    ∧ decodeOrder [wordOfBytes 0x22#8 a b c, u1, wordOfHalves e0 x1, u3, u4, u5, u6, u7] = .revoke e0
    ∧ decodeOrder [wordOfBytes 0x23#8 a b c, wordOfHalves call x1, u2, u3, u4, u5, u6, u7]
      = .unlock call
    ∧ decodeOrder [wordOfBytes 0x30#8 a b c, wordOfBytes n y (loByte call) (hiByte call),
      wordOfHalves e0 x1, buffer, u4, u5, u6, u7] = .report n call e0 buffer
    ∧ decodeOrder [wordOfBytes 0x3F#8 a b c, u1, u2, u3, u4, u5, u6, u7] = .restart
    ∧ (n ∉ [0x01#8, 0x02#8, 0x03#8, 0x04#8, 0x05#8, 0x10#8, 0x20#8, 0x21#8, 0x22#8, 0x23#8, 0x30#8,
        0x3F#8] →
      decodeOrder [wordOfBytes n a b c, u1, u2, u3, u4, u5, u6, u7] = .unknown n))
  ∧ (∀ (a b c d : Byte) (x y : Half),
    (wordOfBytes a b c d).toNat
      = a.toNat + 256 * b.toNat + 65536 * c.toNat + 16777216 * d.toNat
    ∧ (wordOfHalves x y).toNat = x.toNat + 65536 * y.toNat
    ∧ x.toNat = (loByte x).toNat + 256 * (hiByte x).toNat)
  ∧ ∀ (s : State) (t : Instant) (i : Nat) (r : DsRequest) (q : Half) (c : Instr) (o : Order)
      (ws : List Word), s.SelfAt i r .orderFetch → s.FetchAt i q → r.kind = .read → r.len = 8 →
    ws.length = 8 → ReturnsOrder c t o → decodeOrder ws = o →
    exec (.memoryAnswer t i (.ok ws)) s = exec c s

/-- R168, R170, 10.3, 10.5. The end of an order's execution: with room in the ring and no notice
waiting, its completion takes entry (producer count mod 64), the count rises by 1, and the entry's four
words and then the count are written; else it is held. Every completion is written so. The entry carries
kind, status, sequence number, subject kind, repeat count, subject (all ones for none), data bytes and
data length, and 0 elsewhere. -/
def Obligations.CompletionWrittenOrHeld : Prop :=
  (∀ (s : State) (c : Completion),
    ((s.engine.completionProducer - s.engine.completionConsumer).toNat < 64 → s.engine.backlog = [] →
      s.finish c = State.place { s with engine := { s.engine with
          inExec := none, completionProducer := s.engine.completionProducer + 1#16 } }
        .engine false
        [selfWrite (s.thePlan.completionBase / 4 + 4 * (s.engine.completionProducer.toNat % 64))
           (completionWords c) (.completionEntry c.kind false),
         selfWrite (s.thePlan.completionBase / 4 + 256)
           [wordOfHalves (s.engine.completionProducer + 1#16) 0#16] .completionCount])
    ∧ (64 ≤ (s.engine.completionProducer - s.engine.completionConsumer).toNat
        ∨ s.engine.backlog ≠ [] →
      s.finish c = { s with engine := { s.engine with inExec := none, held := some c } }))
  ∧ (∀ (s : State) (b : Block) (byPass restart : Bool) (c : Completion),
    s.writeCompletion b byPass c restart = State.place
      { s with engine := { s.engine with
        completionProducer := s.engine.completionProducer + 1#16 } } b byPass
      [selfWrite (s.thePlan.completionBase / 4 + 4 * (s.engine.completionProducer.toNat % 64))
         (completionWords c) (.completionEntry c.kind restart),
       selfWrite (s.thePlan.completionBase / 4 + 256)
         [wordOfHalves (s.engine.completionProducer + 1#16) 0#16] .completionCount])
  ∧ ∀ (c : Completion) (kind status : Byte) (su : Byte × Half) (d0 d1 d2 d3 : Byte),
    (c.kind, kind) ∈ [(CompKind.order, 0#8), (.callEmptied, 1#8), (.admitted, 2#8),
      (.deadmitted, 3#8), (.syncLost, 4#8), (.syncRegained, 5#8), (.slip, 6#8),
      (.memoryFault, 7#8)] →
    (c.status, status) ∈ [(Status.done, 0#8), (.badOrder, 1#8), (.noCall, 2#8), (.callTaken, 3#8),
      (.notEligible, 4#8), (.listFull, 5#8), (.callFull, 6#8), (.noRing, 7#8), (.inCall, 8#8),
      (.busy, 10#8), (.fault, 11#8)] →
    (c.subject = .none ∧ su = (0#8, 0xFFFF#16) ∨ c.subject = .call su.2 ∧ su.1 = 1#8
      ∨ c.subject = .endpoint su.2 ∧ su.1 = 2#8 ∨ c.subject = .entry su.2 ∧ su.1 = 3#8) →
    c.data.length ≤ 4 → c.data ++ List.replicate (4 - c.data.length) 0#8 = [d0, d1, d2, d3] →
    completionWords c =
      [wordOfBytes kind status (loByte c.seq) (hiByte c.seq),
       wordOfBytes su.1 (BitVec.ofNat 8 c.repeats) (loByte su.2) (hiByte su.2),
       wordOfBytes d0 d1 d2 d3, wordOfBytes (BitVec.ofNat 8 c.data.length) 0#8 0#8 0#8]

/-! ## Calls (chapter 6) -/

/-- R102, R103, R101, R178, 10.4. An OPEN-CALL with well-formed fields, its endpoints the first 2 to 4
of the entry's endpoint fields, as many as its count says: the first check that fails decides the
completion and nothing else changes; one that passes opens the call at frame 0 and epoch 0 with the
order's key and level, gives the members the lowest FREE rings in order with slot 0 opened, and is
completed DONE with the rings. -/
def Obligations.OpenCallOrders : Prop :=
  (∀ s : State, s.freeRings.Pairwise (· < ·)
    ∧ ∀ r : RingNo, r ∈ s.freeRings ↔ s.rings[r].state = .free)
  ∧ (∀ (call : Half) (count level : Byte) (eps : List Half) (c : CallNo) (es : List EpNo) (lv : Fin 8),
    openCallFields call count level eps = some (c, es, lv) ↔
      c.val = call.toNat ∧ 2 ≤ count.toNat ∧ count.toNat ≤ 4 ∧ lv.val = level.toNat
        ∧ es.map Fin.val = (eps.take count.toNat).map BitVec.toNat)
  ∧ ∀ (s : State) (t : Instant) (i : Nat) (q call : Half) (count level : Byte) (e0 e1 e2 e3 : Half)
      (key : Key) (c : CallNo) (es : List EpNo) (lv : Fin 8), s.FetchAt i q →
    openCallFields call count level [e0, e1, e2, e3] = some (c, es, lv) →
    let w := s.afterFetch t i
    let refused := fun (st : Status) => exec (.openCall t call count level e0 e1 e2 e3 key) s =
      .next (w.finish (orderCompletion q st (.call (BitVec.ofNat 16 c.val)) [])).settle
    let fit := fun (e : EpNo) => s.endpoints[e].role = .trunk
      ∨ s.endpoints[e].role = .station ∧ s.endpoints[e].admitted ≠ none
    (s.calls[c].state ≠ .free → refused .callTaken)
    ∧ (s.calls[c].state = .free → ¬ es.Nodup → refused .notEligible)
    ∧ (s.calls[c].state = .free → (∃ e ∈ es, ¬ fit e) → refused .notEligible)
    ∧ (s.calls[c].state = .free → (∃ e ∈ es, s.endpoints[e].call ≠ none) → refused .notEligible)
    ∧ (s.calls[c].state = .free → es.Nodup → (∀ e ∈ es, fit e ∧ s.endpoints[e].call = none) →
      s.freeRings.length < es.length → refused .noRing)
    ∧ (s.calls[c].state = .free → es.Nodup → (∀ e ∈ es, fit e ∧ s.endpoints[e].call = none) →
      es.length ≤ s.freeRings.length →
      ∃ v : State, exec (.openCall t call count level e0 e1 e2 e3 key) s =
          .next (v.finish (orderCompletion q .done (.call (BitVec.ofNat 16 c.val))
            ((s.freeRings.take es.length).map fun r => BitVec.ofNat 8 r.val))).settle
        ∧ v = { w with calls := v.calls, endpoints := v.endpoints, rings := v.rings }
        ∧ v.calls = s.calls.set c
          { state := .opened
            members := (es.zip s.freeRings).map fun x => { ep := x.1, ring := x.2 }
            frame := 0#32, epoch := 0#16, key := some key, prev := none, next := none,
            countdown := s.thePlan.rekeyInterval, debt := 0, rekeyNow := false, comfort := lv,
            switches := [], lane := none, closeSeq := none }
        ∧ (∀ e : EpNo, v.endpoints[e] =
            if e ∈ es then { s.endpoints[e] with call := some c } else s.endpoints[e])
        ∧ (∀ (j : Nat) (e : EpNo) (r : RingNo), es[j]? = some e → s.freeRings[j]? = some r →
          v.rings[r] = { state := .owned c e, count := 0, slots :=
            #v[some { frame := 0#32, tag := 0#16, fill := 0#8 }, none, none, none] })
        ∧ ∀ r : RingNo, r ∉ s.freeRings.take es.length → v.rings[r] = s.rings[r])

/-- R104 to R107. ADD-MEMBER and DROP-MEMBER: NO-CALL unless the call is OPEN, LIST-FULL at 2 pending
switches, else the switch is stored with no completion. At a visit a switch is applied only with room:
an ADD is refused or gives the lowest FREE ring with the slot of the call's frame opened, a DROP is
refused or takes the member out and drains its ring, and each is completed as it is applied. That a DROP
which empties its call is completed before CALL-EMPTIED is raised (log 36), and before the NO-CALL
completions of the close (log 8), is the model's choice. -/
def Obligations.SwitchesStoredAndApplied : Prop :=
  (∀ (s : State) (t : Instant) (i : Nat) (q call ep : Half) (c : CallNo) (e : EpNo), s.FetchAt i q →
    call.toNat = c.val → ep.toNat = e.val →
    let w := s.afterFetch t i
    let done := fun (st : Status) => Host.Outcome.next (φ := Fault) (ρ := Refusal)
      (w.finish (orderCompletion q st (.call (BitVec.ofNat 16 c.val)) [])).settle
    let stored := fun (add : Bool) => Host.Outcome.next (φ := Fault) (ρ := Refusal) (State.settle
      { w with
        calls := s.calls.set c { s.calls[c] with
          switches := s.calls[c].switches ++ [{ isAdd := add, ep := e, seq := q }] }
        engine := { w.engine with inExec := none } })
    (s.calls[c].state ≠ .opened →
      exec (.addMember t call ep) s = done .noCall ∧ exec (.dropMember t call ep) s = done .noCall)
    ∧ (s.calls[c].state = .opened → 2 ≤ s.calls[c].switches.length →
      exec (.addMember t call ep) s = done .listFull
        ∧ exec (.dropMember t call ep) s = done .listFull)
    ∧ (s.calls[c].state = .opened → s.calls[c].switches.length < 2 →
      exec (.addMember t call ep) s = stored true ∧ exec (.dropMember t call ep) s = stored false))
  ∧ (∀ (s : State) (c : CallNo) (x : Switch) (xs : List Switch),
    (64 ≤ (s.engine.completionProducer - s.engine.completionConsumer).toNat
        ∨ s.calls[c].state ≠ .opened →
      State.applySwitches (x :: xs) c s = s)
    ∧ ((s.engine.completionProducer - s.engine.completionConsumer).toNat < 64 →
      s.calls[c].state = .opened →
      State.applySwitches (x :: xs) c s = State.applySwitches xs c
        (if x.isAdd then (s.setCall c { s.calls[c] with switches := xs }).applyAdd c x
          else (s.setCall c { s.calls[c] with switches := xs }).applyDrop c x)))
  ∧ (∀ (s : State) (c : CallNo) (x : Switch),
    let done := fun (v : State) (st : Status) (d : List Byte) => v.writeCompletion .callLogic true
      (orderCompletion x.seq st (.call (BitVec.ofNat 16 c.val)) d)
    let fit := (s.endpoints[x.ep].role = .trunk
      ∨ s.endpoints[x.ep].role = .station ∧ s.endpoints[x.ep].admitted ≠ none)
      ∧ s.endpoints[x.ep].call = none
    (¬ fit → s.applyAdd c x = done s .notEligible [])
    ∧ (fit → 4 ≤ s.calls[c].members.length → s.applyAdd c x = done s .callFull [])
    ∧ (fit → s.calls[c].members.length < 4 → s.freeRings = [] → s.applyAdd c x = done s .noRing [])
    ∧ ∀ r rest, fit → s.calls[c].members.length < 4 → s.freeRings = r :: rest →
      s.applyAdd c x = done { s with
        calls := s.calls.set c { s.calls[c] with
          members := s.calls[c].members ++ [{ ep := x.ep, ring := r }] }
        endpoints := s.endpoints.set x.ep { s.endpoints[x.ep] with call := some c }
        rings := s.rings.set r
          { state := .owned c x.ep, count := 0
            slots := (Vector.replicate 4 none).set (s.calls[c].frame.toNat % 4)
              (some { frame := s.calls[c].frame, tag := s.calls[c].epoch, fill := 0#8 })
              (Nat.mod_lt _ (by decide)) } } .done [BitVec.ofNat 8 r.val])
  ∧ ∀ (s : State) (c : CallNo) (x : Switch),
    (s.calls[c].members.map Member.ep).Nodup →
    let done := fun (v : State) (st : Status) (d : List Byte) => v.writeCompletion .callLogic true
      (orderCompletion x.seq st (.call (BitVec.ofNat 16 c.val)) d)
    ((∀ y ∈ s.calls[c].members, y.ep ≠ x.ep) → s.applyDrop c x = done s .notEligible [])
    ∧ ∀ y ∈ s.calls[c].members, y.ep = x.ep →
      s.applyDrop c x = (done { s with
        calls := s.calls.set c { s.calls[c] with
          members := s.calls[c].members.filter fun z => z.ep ≠ x.ep }
        endpoints := s.endpoints.set x.ep { s.endpoints[x.ep] with call := none }
        rings := s.rings.set y.ring
          (if s.rings[y.ring].count = 0 then
            { state := .free, count := 0, slots := Vector.replicate 4 none }
          else { s.rings[y.ring] with
            state := .draining c, slots := Vector.replicate 4 none }) }
        .done [BitVec.ofNat 8 y.ring.val]).closeIfEmptied c

/-- R43, R47, R110, R111, R96, R109. CLOSE-CALL of an OPEN call sends it CLOSING with its completion
stored and its requests closed under; of another it is completed NO-CALL. A CLOSING call with nothing in
transform and room for its waiting completions goes FREE: NO-CALL for each switch left, in list order,
and then DONE for its CLOSE-CALL are written, its rings go FREE, its members leave it, and its lane goes
EMPTY or is detached. A DRAINING ring with count 0 goes FREE. That a call which may not go FREE, or a
ring that may not, is left as it is by its command is log 2; the closed-under mark is the model's own
(log 9); and that the pass does not wait for these completions is its choice (log 38). -/
def Obligations.CallsClose : Prop :=
  (∀ (s : State) (t : Instant) (i : Nat) (q call : Half) (c : CallNo), s.FetchAt i q →
    call.toNat = c.val →
    let w := s.afterFetch t i
    (s.calls[c].state ≠ .opened → exec (.closeCall t call) s =
      .next (w.finish (orderCompletion q .noCall (.call (BitVec.ofNat 16 c.val)) [])).settle)
    ∧ (s.calls[c].state = .opened → exec (.closeCall t call) s = .next (State.settle { w with
        calls := s.calls.set c { s.calls[c] with state := .closing, closeSeq := some q }
        waiting := s.waiting.filter fun r => r.subject ≠ .call c
        engine := { w.engine with inExec := none }
        port := { w.port with
          arrival := s.port.arrival.map fun a =>
            if a.arrivalCall = some c then { a with closedUnder := true } else a
          hold := s.port.hold.map fun a =>
            if a.arrivalCall = some c then { a with closedUnder := true } else a } })))
  ∧ (∀ (s : State) (t : Instant) (c : CallNo),
    let n := s.calls[c].switches.length + (if s.calls[c].closeSeq = none then 0 else 1)
    let subject : CompSubject := .call (BitVec.ofNat 16 c.val)
    let closings := s.calls[c].switches.map (fun x => orderCompletion x.seq .noCall subject [])
      ++ s.calls[c].closeSeq.toList.map fun q => orderCompletion q .done subject []
    let written := closings.foldl (fun x k => x.writeCompletion .callLogic false k) (s.atInstant t)
    let ready := s.calls[c].state = .closing
      ∧ (∀ x ∈ s.port.xforms, ∀ tk, x.course.ticket = some tk → tk.call ≠ c)
      ∧ (s.engine.completionProducer - s.engine.completionConsumer).toNat + n ≤ 64
    (¬ ready → exec (.callCloseEnd t c) s = .next (s.atInstant t).settle)
    ∧ (ready → ∃ u : State, exec (.callCloseEnd t c) s = .next u.settle
      ∧ u.calls = s.calls.set c
        { state := .free, members := [], frame := 0#32, epoch := 0#16, key := none, prev := none,
          next := none, countdown := 0, debt := 0, rekeyNow := false, comfort := 0, switches := [],
          lane := none, closeSeq := none }
      ∧ (∀ r : RingNo, ((∃ e, s.rings[r].state = .owned c e) → u.rings[r] =
          { state := .free, count := 0, slots := Vector.replicate 4 none })
        ∧ ((∀ e, s.rings[r].state ≠ .owned c e) → u.rings[r] = s.rings[r]))
      ∧ (∀ e : EpNo, u.endpoints[e] =
        if e ∈ s.calls[c].members.map Member.ep then { s.endpoints[e] with call := none }
        else s.endpoints[e])
      ∧ (s.calls[c].lane = none → u.lanes = s.lanes)
      ∧ (∀ l, s.calls[c].lane = some l →
        (s.lanes[l].state = .ready → u.lanes = s.lanes.set l { s.lanes[l] with
          state := .empty, subject := none, keys := LaneKeys.blank, count := 0, expansion := none })
        ∧ (s.lanes[l].state = .expanding →
          u.lanes = s.lanes.set l { s.lanes[l] with subject := none }))
      ∧ u.port = written.port
      ∧ u.engine = { s.engine with
          completionProducer := s.engine.completionProducer + BitVec.ofNat 16 n }
      ∧ u = { s with
          now := max s.now t, calls := u.calls, rings := u.rings, endpoints := u.endpoints,
          lanes := u.lanes, engine := u.engine
          port := { s.port with selfQ := u.port.selfQ, waiters := u.port.waiters } }))
  ∧ ∀ (s : State) (t : Instant) (r : RingNo),
    (∀ c, s.rings[r].state = .draining c → s.rings[r].count = 0 →
      exec (.ringDrainEnd t r) s = .next (State.settle { s with
        now := max s.now t
        rings := s.rings.set r { state := .free, count := 0, slots := Vector.replicate 4 none } }))
    ∧ ((∀ c, s.rings[r].state ≠ .draining c) ∨ s.rings[r].count ≠ 0 →
      exec (.ringDrainEnd t r) s = .next (s.atInstant t).settle)

/-- R112. REKEY-NOW: NO-CALL unless the call is OPEN, and nothing changes; else the flag is set, the
comfort level becomes the order's where it carries one, and the order is completed DONE. -/
def Obligations.RekeyNowOrders : Prop :=
  ∀ (s : State) (t : Instant) (i : Nat) (q call : Half) (level : Byte) (c : CallNo),
    s.FetchAt i q → call.toNat = c.val →
    let w := s.afterFetch t i
    let done := fun (v : State) (st : Status) =>
      exec (.rekeyNow t call level) s =
        .next (v.finish (orderCompletion q st (.call (BitVec.ofNat 16 c.val)) [])).settle
    (level.toNat < 8 ∨ level = 0xFF#8 → s.calls[c].state ≠ .opened → done w .noCall)
    ∧ (s.calls[c].state = .opened → level = 0xFF#8 →
      done { w with calls := s.calls.set c { s.calls[c] with rekeyNow := true } } .done)
    ∧ (∀ lv : Fin 8, s.calls[c].state = .opened → level.toNat = lv.val →
      done { w with calls := s.calls.set c { s.calls[c] with rekeyNow := true, comfort := lv } }
        .done)

/-! ## Frame timing and the scan pass (chapter 7) -/

/-- R122 to R125, R127, R128, R136, R137, R139. What each timer event does, and what a tick does: taken,
it raises the counter, starts a pass or sets the pending tick, puts an ARMED change in force or ends a
blanking interval, and ages the admission requests and the locks; slipped, it is counted and SLIP is
raised. FSYNC has no effect in INTERNAL or while the timer does not run. That SYNC-LOST and
SYNC-REGAINED are raised before the SLIP of the same event is the model's choice (log 36), and so is
that every edge in EXTERNAL-LOCKED ticks, right after an expiry that changed to EXTERNAL too (log 43). -/
def Obligations.TicksTakenOrSlipped : Prop :=
  (∀ (s : State) (e : Instant),
    let n := s.timer.counter + 1#32
    let counted : Timer := { s.timer with
      lastTick := e, counter := n
      pass := if s.timer.pass = none then some { number := n, pos := .calls none } else s.timer.pass
      pendingTick := if s.timer.pass = none then s.timer.pendingTick else some n }
    let becomes := fun (x : Timer) =>
      s.tick e = (State.ageRequests { s with timer := x }).expireLocks
    (∀ p k, s.timer.pass = some p → s.timer.pendingTick = some k →
      s.tick e = State.raise { s with timer := { s.timer with
        lastTick := e, slips := min 65535 (s.timer.slips + 1) } } .slip .none [])
    ∧ (s.timer.pass = none ∨ s.timer.pendingTick = none →
      (s.timer.change = .none ∨ (∃ q, s.timer.change = .waiting q) → becomes counted)
      ∧ (∀ q src p, s.timer.change = .armed q src p → becomes { counted with
        source := src, period := p
        state := if src = .internal then .internal else .externalLocked
        nextExpiry := some (e + if src = .internal then p * 1000 else 3 * (p * 1000) / 2)
        change := .blanking q })
      ∧ (∀ q, s.timer.change = .blanking q → becomes { counted with change := .waiting q })))
  ∧ ∀ (s : State) (t e : Instant),
    (s.TickAt .internalExpiry e → exec .internalExpiry s = .next ((State.tick { s with
      now := max s.now e
      timer := { s.timer with nextExpiry := some (e + s.timer.period * 1000) } } e).settle))
    ∧ (s.TickAt .guardExpiry e → exec .guardExpiry s = .next (((State.raise { s with
      now := max s.now e
      timer := { s.timer with
        state := .externalLost, nextExpiry := some (e + s.timer.period * 1000) } }
      .syncLost .none []).tick e).settle))
    ∧ (s.timer.running = true → s.timer.state = .externalLocked →
      exec (.fsyncEdge t) s = .next ((State.tick { s with
        now := max s.now t
        timer := { s.timer with
          nextExpiry := some (max s.now t + 3 * (s.timer.period * 1000) / 2) } }
        (max s.now t)).settle))
    ∧ (s.timer.running = true → s.timer.state = .externalLost →
      ∃ v : State, v = State.raise { s with
          now := max s.now t
          timer := { s.timer with
            state := .externalLocked
            nextExpiry := some (max s.now t + 3 * (s.timer.period * 1000) / 2) } }
          .syncRegained .none []
        ∧ (s.timer.lastTick + s.timer.period * 1000 / 2 ≤ max s.now t →
          exec (.fsyncEdge t) s = .next (v.tick (max s.now t)).settle)
        ∧ (max s.now t < s.timer.lastTick + s.timer.period * 1000 / 2 →
          exec (.fsyncEdge t) s = .next v.settle))
    ∧ (s.timer.running = false ∨ s.timer.state = .internal →
      exec (.fsyncEdge t) s = .next (s.atInstant t).settle)

/-- R127, R135, R136, R137. SET-TIMING is refused BAD-ORDER or BUSY, or arms the change. The first taken
tick that finds it ARMED puts the settings in force from the tick's instant and begins blanking; the next
ends the blanking; each is the timer event of its cause, and does with the pass, the requests and the
locks what any taken tick does. The DONE completion is then written with room and the change becomes
none. That a change not due changes nothing is the model's choice (log 2), and so is that a change to
EXTERNAL at an expiry leaves an edge of the same instant to tick (log 43). -/
def Obligations.TimingChanges : Prop :=
  (∀ (s : State) (t : Instant) (i : Nat) (q : Half) (source : Byte) (period : Word),
    s.FetchAt i q →
    let w := s.afterFetch t i
    let bad := (source ≠ 1#8 ∧ source ≠ 2#8) ∨ period.toNat < 5000 ∨ 40000 < period.toNat
    (bad → exec (.setTiming t source period) s =
      .next (w.finish (orderCompletion q .badOrder .none [])).settle)
    ∧ (¬ bad → s.timer.change ≠ .none → exec (.setTiming t source period) s =
      .next (w.finish (orderCompletion q .busy .none [])).settle)
    ∧ (¬ bad → s.timer.change = .none → exec (.setTiming t source period) s = .next (State.settle
      { w with
        timer := { s.timer with
          change := .armed q (if source = 1#8 then .internal else .external) period.toNat }
        engine := { w.engine with inExec := none } })))
  ∧ (∀ (s : State) (cause : TickCause) (e : Instant), s.TickAt cause e →
    s.timer.pass = none ∨ s.timer.pendingTick = none →
    let n := s.timer.counter + 1#32
    let event : Instr := match cause with
      | .internalExpiry => .internalExpiry
      | .guardExpiry => .guardExpiry
      | .fsyncEdge t => .fsyncEdge t
    let ages := fun (q : ActRequest) => q.cls = .admit_ ∧ 8 ≤ (n - q.askTick).toNat
    let ticked := fun (u : State) =>
      u.timer.counter = n ∧ u.timer.lastTick = e ∧ u.timer.slips = s.timer.slips
      ∧ u.timer.running = true
      ∧ (s.timer.pass = none → u.timer.pass = some { number := n, pos := .calls none }
        ∧ u.timer.pendingTick = s.timer.pendingTick)
      ∧ (∀ p, s.timer.pass = some p → u.timer.pass = some p ∧ u.timer.pendingTick = some n)
      ∧ u.waiting = s.waiting.map (fun q => if ages q then { q with cls := .admitAged } else q)
      ∧ (∀ m : MboxNo, u.mailboxes[m] = { s.mailboxes[m] with
          aged := if ∃ q ∈ s.waiting, ages q ∧ m ∈ q.slots then true else s.mailboxes[m].aged })
      ∧ (∀ d : EntryNo, u.directory[d] = { s.directory[d] with
          lock := if s.directory[d].lock = some n then none else s.directory[d].lock })
      ∧ u = { s with
          now := max s.now e, timer := u.timer, waiting := u.waiting, mailboxes := u.mailboxes
          directory := u.directory
          engine := { s.engine with
            backlog := u.engine.backlog, completionProducer := u.engine.completionProducer }
          port := { s.port with selfQ := u.port.selfQ, waiters := u.port.waiters } }
      ∧ (cause = .internalExpiry ∨ cause ≠ .guardExpiry ∧ s.timer.state = .externalLocked →
        u.engine = s.engine)
    (∀ q src p, s.timer.change = .armed q src p →
      exec (.timingChangeTakeEffect cause) s = exec event s
      ∧ ∃ u : State, exec (.timingChangeTakeEffect cause) s = .next u.settle ∧ ticked u
        ∧ u.timer.source = src ∧ u.timer.period = p ∧ u.timer.change = .blanking q
        ∧ u.timer.state = (if src = .internal then .internal else .externalLocked)
        ∧ u.timer.nextExpiry =
          some (e + if src = .internal then p * 1000 else 3 * (p * 1000) / 2))
    ∧ (∀ q, s.timer.change = .blanking q →
      exec (.blankingEnd cause) s = exec event s
      ∧ ∃ u : State, exec (.blankingEnd cause) s = .next u.settle ∧ ticked u
        ∧ u.timer.change = .waiting q ∧ u.timer.source = s.timer.source
        ∧ u.timer.period = s.timer.period
        ∧ u.timer.state = (match cause with
          | .internalExpiry => s.timer.state
          | .guardExpiry => .externalLost
          | .fsyncEdge _ => .externalLocked)
        ∧ u.timer.nextExpiry = some (e + (match cause with
          | .internalExpiry => s.timer.period * 1000
          | .guardExpiry => s.timer.period * 1000
          | .fsyncEdge _ => 3 * (s.timer.period * 1000) / 2)))
    ∧ ((∀ q src p, s.timer.change ≠ .armed q src p) →
      exec (.timingChangeTakeEffect cause) s = .next s.settle)
    ∧ ((∀ q, s.timer.change ≠ .blanking q) → exec (.blankingEnd cause) s = .next s.settle))
  ∧ ∀ (s : State) (t : Instant) (q : Half), s.timer.change = .waiting q →
    ((s.engine.completionProducer - s.engine.completionConsumer).toNat < 64 →
      exec (.timingChangeCompletion t) s = .next ((State.writeCompletion
        { s with now := max s.now t, timer := { s.timer with change := .none } } .timer false
        (orderCompletion q .done .none [])).settle))
    ∧ (64 ≤ (s.engine.completionProducer - s.engine.completionConsumer).toNat →
      exec (.timingChangeCompletion t) s = .next (s.atInstant t).settle)

/-- R82, R94, R113 to R117, R130, R131. The visit of an OPEN call: the frame rises; the previous key is
retired at its advance frame plus 3; the epoch advances when a next key and no previous key are held,
and a READY lane follows; every member ring's slot of the new frame is opened, and each ring whose slot
of the frame two behind has a clear fill bit is counted against its member. Then the switches are
applied, and, if the call is still OPEN, the countdown falls unless the epoch advanced, and a rekey due
with no next key adds to the debt and is asked for. REKEY_COUNTDOWN_EXPIRY is the visit where a rekey
falls due at it, and nothing where none does (log 4, log 2), judged on the call as the visit finds it,
though a switch may then close the call, which is the model's choice (log 42); that each visit at debt 8
sets the age of the request again is its reading (log 13). -/
def Obligations.CallVisited : Prop :=
  (∀ (s : State) (t : Instant) (p : Pass) (c : CallNo) (x : Call), s.dueVisit = some (p, c) →
    x = s.calls[c] → (x.members.map Member.ep).Nodup → (x.members.map Member.ring).Nodup →
    let f := x.frame + 1#32
    let kept := x.prev.filter fun k => f ≠ k.advance + 3#32
    let advances := x.next.isSome = true ∧ kept = none
    let epoch := if advances then x.epoch + 1#16 else x.epoch
    let now : Call :=
      if advances then { x with
        frame := f, epoch := x.epoch + 1#16, key := x.next, next := none,
        prev := x.key.map fun k => { key := k, advance := f },
        countdown := s.thePlan.rekeyInterval, debt := 0, rekeyNow := false }
      else { x with frame := f, prev := kept }
    ∃ u v : State, v = State.applySwitches x.switches c u
      ∧ exec (.visit t) s = .next (if v.calls[c].state = .opened then
          v.rekeyWork c (decide advances) else v).settle
      ∧ (¬ advances → x.countdown ≤ 1 ∨ x.rekeyNow = true →
          exec (.rekeyCountdownExpiry t) s = exec (.visit t) s)
      ∧ (advances ∨ 1 < x.countdown ∧ x.rekeyNow = false →
          exec (.rekeyCountdownExpiry t) s = .next (s.atInstant t).settle)
      ∧ u.calls = s.calls.set c now
      ∧ u.timer = { s.timer with pass := some { p with pos := .calls (some c) } }
      ∧ (∀ m ∈ x.members, u.rings[m.ring] = { s.rings[m.ring] with
          slots := s.rings[m.ring].slots.set (f.toNat % 4)
            (some { frame := f, tag := epoch, fill := 0#8 }) (Nat.mod_lt _ (by decide)) })
      ∧ (∀ r : RingNo, (∀ m ∈ x.members, m.ring ≠ r) → u.rings[r] = s.rings[r])
      ∧ (∀ m ∈ x.members, u.endpoints[m.ep] = { s.endpoints[m.ep] with
          shortFrames :=
            if (s.rings[m.ring].slots[(f - 2#32).toNat % 4]'(Nat.mod_lt _ (by decide))).any
                (fun o => o.frame = f - 2#32 && o.fill ≠ 0xFF#8) then
              min 65535 (s.endpoints[m.ep].shortFrames + 1)
            else s.endpoints[m.ep].shortFrames })
      ∧ (∀ e : EpNo, (∀ m ∈ x.members, m.ep ≠ e) → u.endpoints[e] = s.endpoints[e])
      ∧ (∀ l, x.lane = some l → s.lanes[l].state = .ready →
          u.lanes = s.lanes.set l { s.lanes[l] with keys :=
            { prev := now.prev.map PrevKey.key, cur := now.key, epoch := some epoch,
              next := now.next, secret := none } })
      ∧ ((∀ l, x.lane = some l → s.lanes[l].state ≠ .ready) → u.lanes = s.lanes)
      ∧ u = { s with
          now := max s.now t, calls := u.calls, timer := u.timer, rings := u.rings,
          endpoints := u.endpoints, lanes := u.lanes })
  ∧ ∀ (v : State) (c : CallNo) (advanced : Bool) (y : Call), y = v.calls[c] →
    let left := if advanced then y.countdown else y.countdown - 1
    let due := (left = 0 ∨ y.rekeyNow = true) ∧ y.next = none
    let derives := ∃ (l : LaneNo) (x : Expansion), v.lanes[l].state = .expanding
      ∧ v.lanes[l].subject = some (.call c) ∧ v.lanes[l].expansion = some x ∧ x.derives = true
    let asked := { y with countdown := left, debt := min 8 (y.debt + 1) }
    (¬ due → v.rekeyWork c advanced =
      { v with calls := v.calls.set c { y with countdown := left } })
    ∧ (due → derives → v.rekeyWork c advanced = { v with calls := v.calls.set c asked })
    ∧ (due → ¬ derives → (∀ q ∈ v.waiting, q.subject ≠ .call c) →
      v.rekeyWork c advanced = { v with
        calls := v.calls.set c asked
        waiting := v.waiting ++ [{
          subject := .call c, cls := if 7 ≤ y.debt then .rekeyForced else .rekey, age := v.now,
          derive_ := true, slots := [], askTick := 0#32 }] })
    ∧ (due → ¬ derives → (∃ q ∈ v.waiting, q.subject = .call c) →
      v.rekeyWork c advanced = { v with
        calls := v.calls.set c asked
        waiting := v.waiting.map fun q =>
          if q.subject = .call c then
            if 7 ≤ y.debt then { q with derive_ := true, cls := .rekeyForced, age := v.now }
            else { q with derive_ := true }
          else q })

/-- R129, R133, R142, R146, R156. The order of a pass: the lowest-numbered OPEN call above the one last
visited, and then, with none left, slots 0 to 31. While a step's entry waits for a place no step is
taken; the pass ends after slot 31, and a pending tick then starts the next under its own number. A slot
not expired is left as it is; an expired one goes FREE with its owner's slot field cleared, TIMEOUT
written from CLAIMED and CHALLENGED, a failure counted from CHALLENGED, and its claim word and mirror
written. SLOT_DEADLINE_EXPIRY is the check where it expires its slot, and a command of a step that is
not due changes nothing (log 4, log 2); no call is visited once the slot phase has begun (log 30, log
37); and the pass waits for no entries but those that a step of a pass placed (log 38), of a pass that
was ended too (log 41). -/
def Obligations.SlotsChecked : Prop :=
  (∀ (s : State) (t : Instant),
    let waits := ∃ w ∈ s.port.waiters, ∃ b es, w = .entries b true es
    let above := fun (last : Option CallNo) (c : CallNo) =>
      s.calls[c].state = .opened ∧ ∀ l, last = some l → l < c
    (∀ p c, s.dueVisit = some (p, c) ↔ ¬ waits ∧ s.timer.pass = some p
      ∧ ∃ last, p.pos = .calls last ∧ above last c ∧ ∀ c', above last c' → c ≤ c')
    ∧ (∀ p m, s.dueCheck = some (p, m) ↔ ¬ waits ∧ s.timer.pass = some p
      ∧ (p.pos = .slots m.val
        ∨ m = 0 ∧ ∃ last, p.pos = .calls last ∧ ∀ c, ¬ above last c))
    ∧ (s.dueVisit = none → exec (.visit t) s = .next (s.atInstant t).settle
      ∧ exec (.rekeyCountdownExpiry t) s = .next (s.atInstant t).settle)
    ∧ (s.dueCheck = none → exec (.slotCheck t) s = .next (s.atInstant t).settle
      ∧ exec (.slotDeadlineExpiry t) s = .next (s.atInstant t).settle)
    ∧ (∀ p n, s.timer.pass = some p → p.pos = .slots n → 32 ≤ n → ¬ waits →
      s.endPass = { s with timer := { s.timer with
        pass := s.timer.pendingTick.map fun k => { number := k, pos := .calls none }
        pendingTick := none } })
    ∧ (waits ∨ s.timer.pass = none ∨ (∃ p last, s.timer.pass = some p ∧ p.pos = .calls last)
        ∨ (∃ p n, s.timer.pass = some p ∧ p.pos = .slots n ∧ n < 32) →
      s.endPass = s))
  ∧ (∀ s : State, ∃ u v : State, u = s.settle ∧ u.timer = v.endPass.timer
    ∧ v.timer.pass = s.timer.pass ∧ v.timer.pendingTick = s.timer.pendingTick
    ∧ v.port.waiters = u.port.waiters)
  ∧ ∀ (s : State) (t : Instant) (p : Pass) (m : MboxNo) (x : Mbox), s.dueCheck = some (p, m) →
    x = s.mailboxes[m] →
    let area := s.thePlan.mailboxBase / 4 + 16 * m.val
    let timer := { s.timer with pass := some { p with pos := .slots (m.val + 1) } }
    let expired := (x.state = .claimed ∨ x.state = .challenged ∨ x.state = .decided)
      ∧ ∃ d, x.deadline = some d ∧ (p.number - d).toNat < 2147483648
    (¬ expired →
      exec (.slotCheck t) s = .next (State.settle { s with now := max s.now t, timer := timer })
      ∧ exec (.slotDeadlineExpiry t) s = .next (s.atInstant t).settle)
    ∧ (expired → ∃ v : State, v = { s with
        now := max s.now t
        timer := timer
        mailboxes := s.mailboxes.set m
          { state := .free, owner := none, goCode := none, entry := none, number := none,
            bigEndian := none, challenge := none, answer := none, deadline := none, verdict := none,
            aged := false, inFlight := x.inFlight, selfRead := x.selfRead }
        endpoints := v.endpoints, directory := v.directory }
      ∧ (∀ e, x.owner = some e → v.endpoints =
          s.endpoints.set e { s.endpoints[e] with slot := none })
      ∧ (x.owner = none → v.endpoints = s.endpoints)
      ∧ (x.state ≠ .challenged ∨ x.entry = none → v.directory = s.directory)
      ∧ (∀ d, x.state = .challenged → x.entry = some d → v.directory = s.directory.set d
          (s.directory[d].fail s.timer.counter s.thePlan.lockout))
      ∧ exec (.slotCheck t) s = .next (v.place .admission true
          ((if x.state = .decided then [] else [selfWrite (area + 7) [9#32, 0#32] (.verdict m)])
            ++ [selfWrite area [0#32] (.claimClear m), selfWrite (area + 5) [0#32] (.mirror m)])).settle
      ∧ exec (.slotDeadlineExpiry t) s = exec (.slotCheck t) s)

/-! ## Extension admission: orders, aging and locks (chapter 8) -/

/-- R158, R159, R161, R141, R178, 10.1, 10.4, 10.5. The admission orders: each refusal in its order, and what an order that
passes sets. An endpoint that goes OUT has both sides of its pair cleared and DEADMITTED raised. That a
number out of range stands as the subject of its BAD-ORDER completion is the model's reading (log 15),
and that DEADMITTED is raised before the order's completion its choice (log 36). The reason codes, the
roles and the byte orders are the numbers of 10.5, 10.1 and 10.4. -/
def Obligations.AdmissionOrders : Prop :=
  ((∀ x ∈ ([(.moved, 1#8), (.resigned, 2#8), (.role, 3#8), (.directory, 4#8), (.revoked, 5#8)] :
      List (Reason × Byte)), x.1.code = x.2)
    ∧ (∀ (code : Byte) (role : Role), roleOf code = some role ↔
      (code, role) ∈ [(0#8, Role.unused), (1#8, .station), (2#8, .trunk), (3#8, .control)])
    ∧ (∀ (code : Byte) (be : Bool), orderOf .trunk code = some be ↔
      (code, be) ∈ [(0#8, false), (1#8, true)])
    ∧ ∀ (code : Byte) (role : Role), role ≠ .trunk → (orderOf role code).isSome = true)
  ∧ (∀ (s : State) (e : EpNo) (r : Reason),
    (s.endpoints[e].admitted = none → s.deadmit e r = s)
    ∧ ∀ d, s.endpoints[e].admitted = some d → s.deadmit e r = State.raise { s with
        endpoints := s.endpoints.set e { s.endpoints[e] with admitted := none }
        directory := s.directory.set d { s.directory[d] with admittedEp := none } }
        .deadmitted (.endpoint (BitVec.ofNat 16 e.val)) [r.code])
  ∧ (∀ (s : State) (t : Instant) (i : Nat) (q n : Half) (rc oc : Byte) (role : Role) (be : Bool),
    s.FetchAt i q → roleOf rc = some role → orderOf role oc = some be →
    let w := s.afterFetch t i
    let done := fun (v : State) (st : Status) => exec (.setEndpoint t n rc oc) s =
      .next (v.finish (orderCompletion q st (.endpoint n) [])).settle
    (512 ≤ n.toNat → done w .badOrder)
    ∧ ∀ e : EpNo, e.val = n.toNat →
      (role = .control ∨ s.endpoints[e].role = .control → done w .badOrder)
      ∧ (role ≠ .control → s.endpoints[e].role ≠ .control →
        (s.endpoints[e].call ≠ none → done w .inCall)
        ∧ (s.endpoints[e].call = none →
          (s.endpoints[e].slot ≠ none ∨ (∃ (m : MboxNo) (k : Mark), s.mailboxes[m].inFlight = some k
              ∧ k.kind = .claim ∧ k.ep = e) → done w .busy)
          ∧ (s.endpoints[e].slot = none → (∀ (m : MboxNo) (k : Mark),
              s.mailboxes[m].inFlight = some k → k.kind = .claim → k.ep ≠ e) →
            let order := if role = .trunk then be else s.endpoints[e].bigEndian
            (role = s.endpoints[e].role ∧ order = s.endpoints[e].bigEndian → done w .done)
            ∧ (role ≠ s.endpoints[e].role ∨ order ≠ s.endpoints[e].bigEndian →
              done ((w.setEp e { s.endpoints[e] with role := role, bigEndian := order }).deadmit e
                .role) .done)))))
  ∧ (∀ (s : State) (t : Instant) (i : Nat) (q n : Half) (flag : Byte) (number : Word) (key : Key),
    s.FetchAt i q → flag = 0#8 ∨ flag = 1#8 →
    let w := s.afterFetch t i
    let done := fun (v : State) (st : Status) => exec (.setDirectory t n flag number key) s =
      .next (v.finish (orderCompletion q st (.entry n) [])).settle
    (1024 ≤ n.toNat ∨ 99999999 < number.toNat → done w .badOrder)
    ∧ ∀ d : EntryNo, d.val = n.toNat → number.toNat ≤ 99999999 →
      let set := w.setEntry d { s.directory[d] with
        enabled := decide (flag = 1#8), number := number.toNat, secret := key }
      (s.directory[d].admittedEp = none → done set .done)
      ∧ ∀ e, s.directory[d].admittedEp = some e →
        (s.endpoints[e].call ≠ none → done w .inCall)
        ∧ (s.endpoints[e].call = none → done (set.deadmit e .directory) .done))
  ∧ ∀ (s : State) (t : Instant) (i : Nat) (q n : Half), s.FetchAt i q →
    let w := s.afterFetch t i
    (1024 ≤ n.toNat → exec (.unlock t n) s =
      .next (w.finish (orderCompletion q .badOrder (.entry n) [])).settle)
    ∧ ∀ d : EntryNo, d.val = n.toNat → exec (.unlock t n) s =
      .next ((w.setEntry d { s.directory[d] with lock := none, fails := 0 }).finish
        (orderCompletion q .done (.entry n) [])).settle

/-- R160, R107, R108, R109, R110. REVOKE: BAD-ORDER above 511; else the endpoint goes OUT, and a member
leaves its call at once with its ring draining or FREE, closing a call it empties, which raises
CALL-EMPTIED; the order is completed DONE in every case. That a number out of range stands as the
subject of its BAD-ORDER completion is the model's reading (log 15), the closed-under mark its own (log
9), and that the notices are raised before the order's completion (log 36), and that completion written
before the NO-CALL completions of a close at the same event (log 8), its choices. -/
def Obligations.RevokeOrders : Prop :=
  (∀ (s : State) (c : CallNo),
    (s.calls[c].state = .opened → s.calls[c].members = [] →
      s.closeIfEmptied c = State.raise { s with
        calls := s.calls.set c { s.calls[c] with state := .closing }
        waiting := s.waiting.filter fun r => r.subject ≠ .call c
        port := { s.port with
          arrival := s.port.arrival.map fun a =>
            if a.arrivalCall = some c then { a with closedUnder := true } else a
          hold := s.port.hold.map fun a =>
            if a.arrivalCall = some c then { a with closedUnder := true } else a } }
        .callEmptied (.call (BitVec.ofNat 16 c.val)) [])
    ∧ (s.calls[c].state ≠ .opened ∨ s.calls[c].members ≠ [] → s.closeIfEmptied c = s))
  ∧ ∀ (s : State) (t : Instant) (i : Nat) (q n : Half), s.FetchAt i q →
    let w := s.afterFetch t i
    let done := fun (v : State) (st : Status) => exec (.revoke t n) s =
      .next (v.finish (orderCompletion q st (.endpoint n) [])).settle
    (512 ≤ n.toNat → done w .badOrder)
    ∧ ∀ e : EpNo, e.val = n.toNat →
      (s.endpoints[e].call = none → done (w.deadmit e .revoked) .done)
      ∧ ∀ (c : CallNo) (y : Member), s.endpoints[e].call = some c →
        (s.calls[c].members.map Member.ep).Nodup → y ∈ s.calls[c].members → y.ep = e →
        ∃ v o : State, o = w.deadmit e .revoked
          ∧ done (v.closeIfEmptied c) .done
          ∧ v = { o with
            calls := s.calls.set c { s.calls[c] with
              members := s.calls[c].members.filter fun z => z.ep ≠ e }
            endpoints := o.endpoints.set e { o.endpoints[e] with call := none }
            rings := s.rings.set y.ring
              (if s.rings[y.ring].count = 0 then
                { state := .free, count := 0, slots := Vector.replicate 4 none }
              else { s.rings[y.ring] with
                state := .draining c, slots := Vector.replicate 4 none }) }
          ∧ o.endpoints[e].admitted = none

/-- R83, R84, R127, R142, R146, 10.1. Checks asked for, aged and locked. An ask makes a request of class ADMIT
for the slot's entry, or adds the slot to the one that waits. A request asked 8 or more ticks ago
becomes ADMIT-AGED, its age unchanged, its slots' flags are set and their mirrors written, in the order
of the requests and of their slot lists, which is the model's reading (log 25); a lock ends at the tick
its locked-until tick names; a failure counts, locks or does nothing, by the entry's state. The state
codes of a mirror are the numbers of 10.1. -/
def Obligations.ChecksAskedAgedAndLocked : Prop :=
  (∀ x ∈ ([(.free, 0#8), (.claimed, 1#8), (.requested, 2#8), (.challenged, 3#8), (.answered, 4#8),
      (.decided, 5#8)] : List (SlotState × Byte)), x.1.code = x.2)
  ∧ (∀ (s : State) (m : MboxNo) (d : EntryNo), s.mailboxes[m].entry = some d →
    ((∀ q ∈ s.waiting, q.subject ≠ .entry d) →
      s.askCheck m = { s with waiting := s.waiting ++
        [{ subject := .entry d, cls := .admit_, age := s.now, derive_ := false, slots := [m],
           askTick := s.timer.counter }] })
    ∧ ∀ q ∈ s.waiting, q.subject = .entry d → (∀ q' ∈ s.waiting, q'.subject = .entry d → q' = q) →
      m ∉ q.slots →
      ∃ v : State, v = { s with waiting := s.waiting.map fun q' =>
          if q'.subject = .entry d then { q' with slots := q'.slots ++ [m] } else q' }
        ∧ (q.cls ≠ .admitAged → s.askCheck m = v)
        ∧ (q.cls = .admitAged → s.askCheck m =
          (v.setMbox m { s.mailboxes[m] with aged := true }).place .admission false
            [selfWrite (s.thePlan.mailboxBase / 4 + 16 * m.val + 5)
              [wordOfBytes s.mailboxes[m].state.code 1#8 0#8 0#8] (.mirror m)]))
  ∧ (∀ (s : State) (t : Instant),
    let ages := fun (q : ActRequest) => q.cls = .admit_ ∧ 8 ≤ (s.timer.counter - q.askTick).toNat
    ∃ u : State, u = (s.atInstant t).ageRequests ∧ exec (.admitAging t) s = .next u.settle
      ∧ u.waiting = s.waiting.map (fun q => if ages q then { q with cls := .admitAged } else q)
      ∧ (∀ m : MboxNo, u.mailboxes[m] = { s.mailboxes[m] with
          aged := if ∃ q ∈ s.waiting, ages q ∧ m ∈ q.slots then true else s.mailboxes[m].aged })
      ∧ u.port = ((s.waiting.filter fun q => ages q).flatMap ActRequest.slots).foldl
          (fun p m => p.place .admission false
            [selfWrite (s.thePlan.mailboxBase / 4 + 16 * m.val + 5)
              [wordOfBytes s.mailboxes[m].state.code 1#8 0#8 0#8] (.mirror m)]) s.port
      ∧ u = { s with
          now := max s.now t, waiting := u.waiting, mailboxes := u.mailboxes, port := u.port })
  ∧ (∀ (s : State) (t : Instant),
    ∃ u : State, u = (s.atInstant t).expireLocks ∧ exec (.lockExpiry t) s = .next u.settle
      ∧ (∀ d : EntryNo, u.directory[d] = { s.directory[d] with
          lock := if s.directory[d].lock = some s.timer.counter then none else s.directory[d].lock })
      ∧ u = { s with now := max s.now t, directory := u.directory })
  ∧ ∀ (d : DirEntry) (counter : Word) (lockout : Nat),
    ((∀ u, d.lock = some u → (counter - u).toNat < 2147483648) → d.fails < 2 →
      d.fail counter lockout = { d with fails := d.fails + 1 })
    ∧ ((∀ u, d.lock = some u → (counter - u).toNat < 2147483648) → d.fails = 2 →
      d.fail counter lockout =
        { d with fails := 0, lock := some (counter + BitVec.ofNat 32 lockout) })
    ∧ ∀ u, d.lock = some u → 2147483648 ≤ (counter - u).toNat → d.fail counter lockout = d

/-! ## Reports (chapter 9) -/

/-- R175, R178. A REPORT with an operand out of range, or a buffer that is not on a multiple of 16,
passes the top of the byte space or meets one of the five areas, is completed BAD-ORDER; else it stays
in execution and its record writes are placed. That the BAD-ORDER completion has a data length of 0 is
the model's reading (log 28). -/
def Obligations.ReportOrders : Prop :=
  ∀ (s : State) (t : Instant) (i : Nat) (q first count : Half) (buffer : Word), s.FetchAt i q →
    let w := s.afterFetch t i
    let fits := fun (n : Nat) => buffer.toNat % 16 = 0 ∧ buffer.toNat + 16 * n ≤ 4294967296
      ∧ ∀ area ∈ planAreas s.thePlan s.anchorByte,
        buffer.toNat + 16 * n ≤ area.1 ∨ area.1 + area.2 ≤ buffer.toNat
    let bad := fun (c : Instr) =>
      exec c s = .next (w.finish (orderCompletion q .badOrder .none [])).settle
    let begins := fun (c : Instr) (kind : ReportKind) =>
      let job : ReportJob :=
        { kind := kind, buffer := buffer.toNat, placed := 0, outstanding := 0, faulted := false }
      exec c s = .next (State.placeReport { w with
        engine := { w.engine with inExec := some { seq := q, phase := .report job } } }).settle
    let spans := 1 ≤ count.toNat ∧ count.toNat ≤ 64 ∧ first.toNat + count.toNat ≤ 512
    (spans → fits count.toNat →
      begins (.reportEndpoints t first count buffer) (.endpoints first.toNat count.toNat))
    ∧ (¬ (spans ∧ fits count.toNat) → bad (.reportEndpoints t first count buffer))
    ∧ (∀ c : CallNo, c.val = first.toNat → fits 4 → begins (.reportCall t first buffer) (.call c))
    ∧ (128 ≤ first.toNat ∨ ¬ fits 4 → bad (.reportCall t first buffer))
    ∧ (fits 3 → begins (.reportSummary t buffer) .summary)
    ∧ (¬ fits 3 → bad (.reportSummary t buffer))

/-- R38, R175, R176, 10.1, 10.7. The record writes of the REPORT in execution: with no block waiting, as
many as the queue has places for are placed at one event, in ascending address order, each with its
records as the state then stands, and the next waits; behind another block it waits. A write carries up
to four records of 16 bytes, each field in its place. The code of a part state other than PLANNED is not
said here (log 16). When memory has answered the last of them the REPORT is completed, DONE with the
number of records, or FAULT with 0. That REPORT_COMPLETION with no REPORT in execution, or before its
last answer, changes nothing is the model's choice (log 2). -/
def Obligations.ReportProgress : Prop :=
  (∀ (s : State) (q : Half) (job : ReportJob),
    s.engine.inExec = some { seq := q, phase := .report job } →
    let k := min (job.kind.writes - job.placed) (8 - s.port.selfQ.length)
    (job.kind.writes ≤ job.placed → s.placeReport = s)
    ∧ (job.placed < job.kind.writes → s.port.waiters ≠ [] → s.placeReport =
      { s with port := { s.port with waiters := s.port.waiters ++ [.reportWrite] } })
    ∧ (job.placed < job.kind.writes → s.port.waiters = [] → s.placeReport = { s with
        port := { s.port with
          selfQ := s.port.selfQ ++ (List.range k).map fun j =>
            selfWrite (job.buffer / 4 + 16 * (job.placed + j))
              (packBytes (s.reportBytes job.kind (job.placed + j))) .report
          waiters := if job.placed + k < job.kind.writes then [.reportWrite] else [] }
        engine := { s.engine with inExec := some { seq := q, phase := .report { job with
          placed := job.placed + k, outstanding := job.outstanding + k } } } }))
  ∧ (∀ bs : List Byte, bs.length % 4 = 0 → (packBytes bs).length = bs.length / 4
    ∧ ∀ (i : Nat) (b0 b1 b2 b3 : Byte), bs[4 * i]? = some b0 → bs[4 * i + 1]? = some b1 →
      bs[4 * i + 2]? = some b2 → bs[4 * i + 3]? = some b3 →
      (packBytes bs)[i]? = some (wordOfBytes b0 b1 b2 b3))
  ∧ (∀ (s : State) (first count k : Nat), first + count ≤ 512 → 4 * k < count →
    let bytes := s.reportBytes (.endpoints first count) k
    bytes.length = 16 * min 4 (count - 4 * k)
    ∧ ∀ (j : Nat) (e : EpNo) (role last : Byte), j < 4 → 4 * k + j < count →
      e.val = first + 4 * k + j →
      let x := s.endpoints[e]
      let index : Half := x.admitted.elim 0xFFFF#16 fun d => BitVec.ofNat 16 d.val
      let short : Half := BitVec.ofNat 16 x.shortFrames
      (x.role, role) ∈ [(Role.unused, 0#8), (.station, 1#8), (.trunk, 2#8), (.control, 3#8)] →
      (x.lastViolation, last) ∈ [(none, 0xFF#8), (some Violation.shape, 0#8), (some .window, 1#8),
        (some .foreign, 2#8), (some .partialSample, 3#8), (some .mailbox, 4#8)] →
      (bytes.drop (16 * j)).take 16 =
        [role, if x.admitted.isSome then 1#8 else 0#8, loByte index, hiByte index, loByte short,
         hiByte short, if x.bigEndian then 1#8 else 0#8,
         x.call.elim 0xFF#8 (fun c => BitVec.ofNat 8 c.val),
         x.slot.elim 0xFF#8 (fun m => BitVec.ofNat 8 m.val), last,
         BitVec.ofNat 8 x.shapeCount, BitVec.ofNat 8 x.windowCount, BitVec.ofNat 8 x.foreignCount,
         BitVec.ofNat 8 x.partialCount, BitVec.ofNat 8 x.mailboxCount, 0#8])
  ∧ (∀ (s : State) (n : CallNo) (x : Call) (state w0 w1 w2 w3 a0 a1 a2 a3 : Byte), x = s.calls[n] →
    (x.state, state) ∈ [(CallState.free, 0#8), (.opened, 1#8), (.closing, 2#8)] →
    wordOfBytes w0 w1 w2 w3 = x.frame →
    wordOfBytes a0 a1 a2 a3 = x.prev.elim 0xFFFFFFFF#32 PrevKey.advance →
    let bytes := s.reportBytes (.call n) 0
    let field := fun (k : Nat) (bs : List Byte) => (bytes.drop k).take bs.length = bs
    let half := fun (h : Half) => [loByte h, hiByte h]
    bytes.length = 64
    ∧ field 0 [BitVec.ofNat 8 n.val, state, BitVec.ofNat 8 x.members.length,
        BitVec.ofNat 8 x.comfort.val, w0, w1, w2, w3]
    ∧ field 8 (half x.epoch
        ++ [if x.prev.isSome then 1#8 else 0#8, if x.next.isSome then 1#8 else 0#8])
    ∧ field 12 [a0, a1, a2, a3]
    ∧ field 16 (half (BitVec.ofNat 16 x.countdown)
        ++ [BitVec.ofNat 8 x.debt, if x.rekeyNow then 1#8 else 0#8])
    ∧ field 20 ([x.lane.elim 0xFF#8 (fun l => BitVec.ofNat 8 l.val),
        if x.closeSeq.isSome then 1#8 else 0#8] ++ half (x.closeSeq.getD 0xFFFF#16))
    ∧ (∀ j < 4, field (24 + 4 * j) (x.members[j]?.elim [0xFF#8, 0xFF#8, 0xFF#8, 0xFF#8] fun m =>
        half (BitVec.ofNat 16 m.ep.val) ++ [BitVec.ofNat 8 m.ring.val, 0#8]))
    ∧ field 40 [BitVec.ofNat 8 x.switches.length, 0#8, 0#8, 0#8]
    ∧ (∀ j < 2, field (44 + 8 * j) (x.switches[j]?.elim (List.replicate 8 0xFF#8) fun w =>
        [if w.isAdd then 1#8 else 2#8, 0#8] ++ half (BitVec.ofNat 16 w.ep.val) ++ half w.seq
          ++ [0#8, 0#8]))
    ∧ field 60 [0#8, 0#8, 0#8, 0#8])
  ∧ (∀ (s : State) (timing c0 c1 c2 c3 : Byte),
    (s.timer.state, timing) ∈ [(TimingState.internal, 0#8), (.externalLocked, 1#8),
      (.externalLost, 2#8)] →
    wordOfBytes c0 c1 c2 c3 = s.timer.counter →
    let bytes := s.reportBytes .summary 0
    let field := fun (k : Nat) (bs : List Byte) => (bytes.drop k).take bs.length = bs
    let half := fun (n : Nat) => [loByte (BitVec.ofNat 16 n), hiByte (BitVec.ofNat 16 n)]
    bytes.length = 48
    ∧ (s.part = .planned → field 0 [1#8])
    ∧ field 1 ([timing] ++ half s.timer.slips ++ [c0, c1, c2, c3])
    ∧ field 8 ([BitVec.ofNat 8 s.port.hold.length, 0#8] ++ half s.freeRings.length)
    ∧ field 12 (half ((List.finRange 512).countP fun e => s.endpoints[e].admitted.isSome)
        ++ [0#8, 0#8])
    ∧ ∀ (l : LaneNo) (state : Byte),
      (s.lanes[l].state, state) ∈ [(LaneState.empty, 0#8), (.expanding, 1#8), (.ready, 2#8)] →
      (s.lanes[l].subject = none → field (16 + 4 * l.val) [state, 0#8, 0xFF#8, 0xFF#8])
      ∧ (∀ c, s.lanes[l].subject = some (.call c) →
        field (16 + 4 * l.val) ([state, 1#8] ++ half c.val))
      ∧ ∀ d, s.lanes[l].subject = some (.entry d) →
        field (16 + 4 * l.val) ([state, 2#8] ++ half d.val))
  ∧ (∀ (s : State) (t : Instant) (i : Nat) (r : DsRequest) (q : Half) (job : ReportJob),
    s.port.awaiting[i]? = some { req := r, src := .self .report } → r.kind = .write →
    s.engine.inExec = some { seq := q, phase := .report job } →
    let w := s.afterAnswer t i
    (1 < job.outstanding ∨ job.placed < job.kind.writes →
      exec (.memoryAnswer t i (.ok [])) s = .next (State.settle { w with engine := { s.engine with
        inExec := some { seq := q, phase := .report { job with
          outstanding := job.outstanding - 1 } } } })
      ∧ exec (.memoryAnswer t i .fault) s = .next (State.settle { w with engine := { s.engine with
        inExec := some { seq := q, phase := .report { job with
          outstanding := job.outstanding - 1, faulted := true } } } }))
    ∧ (job.outstanding ≤ 1 → job.kind.writes ≤ job.placed →
      exec (.memoryAnswer t i (.ok [])) s = .next (w.finish (if job.faulted then
          orderCompletion q .fault .none [0#8]
        else orderCompletion q .done .none [BitVec.ofNat 8 job.kind.records])).settle
      ∧ exec (.memoryAnswer t i .fault) s =
        .next (w.finish (orderCompletion q .fault .none [0#8])).settle))
  ∧ ∀ (s : State) (t : Instant),
    ((∀ q job, s.engine.inExec = some { seq := q, phase := .report job } →
        job.placed < job.kind.writes ∨ job.outstanding ≠ 0) →
      exec (.reportCompletion t) s = .next (s.atInstant t).settle)
    ∧ ∀ q job, s.engine.inExec = some { seq := q, phase := .report job } →
      job.kind.writes ≤ job.placed → job.outstanding = 0 →
      exec (.reportCompletion t) s = .next ((s.atInstant t).finish (if job.faulted then
          orderCompletion q .fault .none [0#8]
        else orderCompletion q .done .none [BitVec.ofNat 8 job.kind.records])).settle

/-! ## RESTART and draining (1.5) -/

/-- R8, R97. RESTART: the part is QUIESCING; every OPEN call goes CLOSING, and every call's switches and
close completion are discarded; every slot outside FREE goes FREE, with its claim word and its mirror
written, and every watched write in flight on a slot is voided; the waiting requests of entries are
withdrawn and an entry's activation in flight serves no slot. That the slots are taken in ascending
order, the two writes of each as one group, is the model's choice (log 31), and the closed-under mark
its own (log 9). -/
def Obligations.RestartQuiesces : Prop :=
  ∀ (s : State) (t : Instant) (i : Nat) (q : Half), s.FetchAt i q →
    let w := s.afterFetch t i
    let area := fun (m : MboxNo) => s.thePlan.mailboxBase / 4 + 16 * m.val
    let closes := fun (a : Accepted) =>
      if ∃ c, a.arrivalCall = some c ∧ s.calls[c].state = .opened then { a with closedUnder := true }
      else a
    let void := fun (k : Mark) => { k with voided := true }
    ∃ u v : State, exec (.restart t) s = .next u.settle
      ∧ u.part = .quiescing
      ∧ (∀ c : CallNo,
        (s.calls[c].state = .opened → u.calls[c] = { s.calls[c] with
          state := .closing, switches := [], closeSeq := none })
        ∧ (s.calls[c].state = .closing → u.calls[c] = { s.calls[c] with
          switches := [], closeSeq := none })
        ∧ (s.calls[c].state = .free → u.calls[c] = s.calls[c]))
      ∧ (∀ m : MboxNo,
        (s.mailboxes[m].state = .free → u.mailboxes[m] = { s.mailboxes[m] with
          inFlight := s.mailboxes[m].inFlight.map void })
        ∧ (s.mailboxes[m].state ≠ .free → u.mailboxes[m] =
          { state := .free, owner := none, goCode := none, entry := none, number := none,
            bigEndian := none, challenge := none, answer := none, deadline := none, verdict := none,
            aged := false, inFlight := s.mailboxes[m].inFlight.map void,
            selfRead := s.mailboxes[m].selfRead }))
      ∧ (∀ e : EpNo, u.endpoints[e] =
        if ∃ m : MboxNo, s.mailboxes[m].state ≠ .free ∧ s.mailboxes[m].owner = some e then
          { s.endpoints[e] with slot := none }
        else s.endpoints[e])
      ∧ (∀ r, r ∈ u.waiting ↔
        r ∈ s.waiting ∧ ∃ c, r.subject = .call c ∧ s.calls[c].state ≠ .opened)
      ∧ (∀ l : LaneNo,
        ((∃ d, s.lanes[l].subject = some (.entry d)) → u.lanes[l] = { s.lanes[l] with
          expansion := s.lanes[l].expansion.map fun x => { x with slots := [] } })
        ∧ ((∀ d, s.lanes[l].subject ≠ some (.entry d)) → u.lanes[l] = s.lanes[l]))
      ∧ v.port = ((List.finRange 32).filter fun m => s.mailboxes[m].state ≠ .free).foldl
          (fun p m => p.place .admission false
            [selfWrite (area m) [0#32] (.claimClear m), selfWrite (area m + 5) [0#32] (.mirror m)])
          w.port
      ∧ u = { w with
          part := u.part, calls := u.calls, mailboxes := u.mailboxes, endpoints := u.endpoints,
          waiting := u.waiting, lanes := u.lanes
          engine := { w.engine with inExec := some { seq := q, phase := .restart false } }
          port := { v.port with
            arrival := s.port.arrival.map closes, hold := s.port.hold.map closes } }

/-- R10, R38, R40, R140, R141, R121, R138, R165, R169. The RESTART completion is written when draining has ended, no notice
waits and the ring has room; and when memory answers its entry write, OK or FAULT, the part enters
UNPLANNED with its roles, byte orders, counts and directory contents kept and the rest cleared. Every
request keeps its place in the ports (log 10), waiting entries of a pass their mark (log 41), and of the
watched writes the count writes alone are events no more, as PlanTaken says (log 39). That it is the
answer to the entry's write, not to the producer count's, is the model's reading (log 21), and that
UNPLANNED_ENTRY with none awaited changes nothing its choice (log 2). -/
def Obligations.DrainingEnds : Prop :=
  (∀ (s : State) (t : Instant) (q : Half),
    s.engine.inExec = some { seq := q, phase := .restart false } →
    let ended := s.part = .quiescing ∧ (∀ c : CallNo, s.calls[c].state = .free)
      ∧ (∀ l : LaneNo, s.lanes[l].state ≠ .expanding)
      ∧ (∀ m : MboxNo, s.mailboxes[m].selfRead = false ∧ s.mailboxes[m].inFlight = none)
      ∧ s.engine.backlog = []
      ∧ (s.engine.completionProducer - s.engine.completionConsumer).toNat < 64
    (ended → exec (.drainingEnd t) s = .next ((State.writeCompletion
      { s with
        now := max s.now t
        engine := { s.engine with inExec := some { seq := q, phase := .restart true } } }
      .engine false (orderCompletion q .done .none []) true).settle))
    ∧ (¬ ended → exec (.drainingEnd t) s = .next (s.atInstant t).settle))
  ∧ (∀ (s : State) (t : Instant) (i : Nat) (r : DsRequest) (k : CompKind) (a : Answer),
    s.awaitingIdx Awaiting.isRestartEntry = some i →
    s.port.awaiting[i]? = some { req := r, src := .self (.completionEntry k true) } →
    r.kind = .write → a = .ok [] ∨ a = .fault →
    ∃ u : State, exec (.unplannedEntry t a) s = .next u.settle
      ∧ exec (.memoryAnswer t i a) s = .next u.settle
      ∧ u.part = .unplanned ∧ u.plan = none
      ∧ (∀ e : EpNo, u.endpoints[e] = { s.endpoints[e] with
          admitted := none, call := none, slot := none, reservation := none })
      ∧ (∀ d : EntryNo, u.directory[d] = { s.directory[d] with
          admittedEp := none, fails := 0, lock := none })
      ∧ u.monitor = []
      ∧ u.timer = { s.timer with
          running := false, nextExpiry := none, counter := 0#32, slips := 0, pass := none,
          pendingTick := none, change := .none }
      ∧ u.engine =
        { orderProducer := 0#16, orderConsumed := 0#16, completionProducer := 0#16,
          completionConsumer := 0#16, inExec := none, held := none, backlog := [] }
      ∧ u.settle.alert = false
      ∧ u = { s with
          now := max s.now t, part := u.part, plan := u.plan, endpoints := u.endpoints,
          directory := u.directory, monitor := u.monitor, timer := u.timer, engine := u.engine
          port := { s.port with
            arrival := s.port.arrival.map Accepted.voidCount
            hold := s.port.hold.map Accepted.voidCount
            awaiting := (dropAt i s.port.awaiting).map Awaiting.voidCount } })
  ∧ ∀ (s : State) (t : Instant) (a : Answer), s.awaitingIdx Awaiting.isRestartEntry = none →
    exec (.unplannedEntry t a) s = .next (s.atInstant t).settle

/-! ## Notices (chapter 9) -/

/-- R170, R171, R172, R174, 10.5. A notice raised with no notice of its kind in the backlog is added as
the newest; with one it is merged in its place. The oldest is written as a completion while the ring has
room, and then the held completion. A self-write that memory answers FAULT raises MEMORY-FAULT with its
source, and the slot's number for a mailbox source, but for the entry of a MEMORY-FAULT completion. That
a command of a writing that is not due changes nothing is log 2, and that the engine writes while
entries of its own still wait for places log 35. -/
def Obligations.NoticesDelivered : Prop :=
  (∀ (n b : Notice) (pre post : List Notice), (∀ x ∈ pre, x.kind ≠ n.kind) →
    addNotice n pre = pre ++ [n]
    ∧ (b.kind = n.kind → addNotice n (pre ++ b :: post) =
        pre ++ { n with repeats := min 255 (b.repeats + 1) } :: post))
  ∧ (∀ (s : State) (k : CompKind) (u : CompSubject) (d : List Byte),
    (s.part = .unplanned → s.raise k u d = s)
    ∧ (s.part ≠ .unplanned → s.raise k u d = State.deliver { s with
        engine := { s.engine with
          backlog := addNotice { kind := k, subject := u, data := d, repeats := 1 }
            s.engine.backlog } }))
  ∧ (∀ (s : State) (t : Instant),
    (s.engine.backlog = []
        ∨ 64 ≤ (s.engine.completionProducer - s.engine.completionConsumer).toNat →
      s.deliver = s ∧ exec (.noticeDelivery t) s = .next (s.atInstant t).settle)
    ∧ ∀ n rest, s.engine.backlog = n :: rest →
      (s.engine.completionProducer - s.engine.completionConsumer).toNat < 64 →
      let written := fun (v : State) => State.writeCompletion
        { v with engine := { v.engine with backlog := rest } } .engine false
        { kind := n.kind, status := .done, seq := 0#16, subject := n.subject, repeats := n.repeats,
          data := n.data }
      s.deliver = (written s).deliver
        ∧ exec (.noticeDelivery t) s = .next (written (s.atInstant t)).deliver.settle)
  ∧ (∀ (s : State) (t : Instant),
    (∀ c, s.engine.held = some c → s.engine.backlog = [] →
      (s.engine.completionProducer - s.engine.completionConsumer).toNat < 64 →
      exec (.heldCompletionWrite t) s = .next ((State.writeCompletion
        { s with now := max s.now t, engine := { s.engine with held := none } }
        .engine false c).settle))
    ∧ (s.engine.held = none ∨ s.engine.backlog ≠ []
        ∨ 64 ≤ (s.engine.completionProducer - s.engine.completionConsumer).toNat →
      exec (.heldCompletionWrite t) s = .next (s.atInstant t).settle))
  ∧ (SelfSource.consumedCount.faultData = some [1#8]
    ∧ (∀ k b, (SelfSource.completionEntry k b).faultData = some [2#8])
    ∧ SelfSource.completionCount.faultData = some [3#8]
    ∧ (∀ m : MboxNo, ∀ x ∈ [(SelfSource.mirror m, 4#8), (.challenge m, 5#8), (.verdict m, 6#8),
        (.claimClear m, 7#8)], x.1.faultData = some [x.2, BitVec.ofNat 8 m.val])
    ∧ SelfSource.planStatus.faultData = some [8#8]
    ∧ (∀ m : MboxNo, ∀ x ∈ [SelfSource.anchorRead, .orderFetch, .report, .requestRead m,
        .answerRead m], x.faultData = none))
  ∧ ∀ (s : State) (t : Instant) (i : Nat) (r : DsRequest) (src : SelfSource) (d : List Byte),
    s.port.awaiting[i]? = some { req := r, src := .self src } → r.kind = .write →
    src.faultData = some d → (∀ k, src ≠ .completionEntry k true) →
    exec (.memoryAnswer t i (.ok [])) s = .next (s.afterAnswer t i).settle
    ∧ (src ≠ .completionEntry .memoryFault false →
      exec (.memoryAnswer t i .fault) s =
        .next ((s.afterAnswer t i).raise .memoryFault .none d).settle)
    ∧ (src = .completionEntry .memoryFault false →
      exec (.memoryAnswer t i .fault) s = .next (s.afterAnswer t i).settle)

/-! ## Key lanes (chapter 5) -/

/-- R85, R92, R118. The oldest start in the window leaves it at its instant plus T_AW. The activation of
a call's lane completes at its instant: the lane goes READY with the call record's keys, and, for an
OPEN call with derivation and no next key held, the derived next key enters both; a detached lane goes
EMPTY. That the leaving is a move of time is the model's reading (log 29), and that a completion of a
lane not EXPANDING changes nothing its choice (log 2). -/
def Obligations.LaneEvents : Prop :=
  (∀ (s : State) (p : Plan) (pre post : List Instant) (x : Instant), s.hasPlan = true →
    s.plan = some p → s.starts = pre ++ x :: post → (∀ y ∈ pre, y + p.tAw * 1000 ≤ s.now) →
    s.now < x + p.tAw * 1000 →
    exec .activationWindowLeave s = .next (State.settle { s with now := x + p.tAw * 1000 }))
  ∧ (∀ (s : State), s.hasPlan = false ∨ (∀ y ∈ s.starts, y + s.thePlan.tAw * 1000 ≤ s.now) →
    exec .activationWindowLeave s = .next s.settle)
  ∧ (∀ (s : State) (l : LaneNo) (c : CallNo) (x : Expansion), s.lanes[l].state = .expanding →
    s.lanes[l].subject = some (.call c) → s.lanes[l].expansion = some x →
    let ready := fun (r : Call) => s.lanes.set l { s.lanes[l] with
      state := .ready
      keys := { prev := r.prev.map PrevKey.key, cur := r.key, epoch := some r.epoch, next := r.next,
                secret := none }
      lastUse := max s.now x.finish, expansion := none }
    (∀ k, s.calls[c].state = .opened → x.derives = true → s.calls[c].next = none →
      s.calls[c].key = some k →
      let r := { s.calls[c] with next := some (deriveKey k s.calls[c].epoch) }
      exec (.callActivationCompletion l) s = .next (State.settle { s with
        now := max s.now x.finish, calls := s.calls.set c r, lanes := ready r }))
    ∧ (s.calls[c].state ≠ .opened ∨ x.derives = false ∨ s.calls[c].next ≠ none
        ∨ s.calls[c].key = none →
      exec (.callActivationCompletion l) s = .next (State.settle { s with
        now := max s.now x.finish, lanes := ready s.calls[c] })))
  ∧ (∀ (s : State) (l : LaneNo) (x : Expansion), s.lanes[l].state = .expanding →
    s.lanes[l].subject = none → s.lanes[l].expansion = some x →
    exec (.callActivationCompletion l) s = .next (State.settle { s with
      now := max s.now x.finish
      lanes := s.lanes.set l { s.lanes[l] with
        state := .empty, keys := LaneKeys.blank, count := 0, expansion := none } }))
  ∧ ∀ (s : State) (l : LaneNo), s.lanes[l].state ≠ .expanding →
    exec (.callActivationCompletion l) s = .next s.settle
      ∧ exec (.entryActivationCompletion l) s = .next s.settle

/-- R81, R85, R86, R87, R88, R89, R90, R91. A call for which a held request has the lane condition, and which
holds no lane, has a waiting request, and a call's request is of class VOICE only then: a REKEY request
takes class VOICE as the two conditions come to hold, and leaves it, with its age set, or is withdrawn
as they cease. The request granted is the first, by class, age and subject, of those that can start,
REKEY-FORCED before VOICE, ADMIT-AGED, REKEY and ADMIT; it starts in place on its call's READY lane, or
on the lowest EMPTY or the longest unused evictable lane, whose call loses it. A start joins the last
three, and none is made while four of the listed starts are in the window of the plan in force, or in
UNPLANNED. The work of every event makes the grants that can be made, up to four, after which none is
left: that it does so at every event is the model's reading of R87's list of events (log 32). -/
def Obligations.ActivationsAskedAndGranted : Prop :=
  (∀ s : State,
    let wanted := fun (c : CallNo) => ∃ a ∈ s.port.hold, s.memberCall a = some c
      ∧ s.readyLane c = none ∧ s.calls[c].lane = none
    ∃ (u : State) (f : ActRequest → Option ActRequest) (asked : List ActRequest),
      s.voiceUpkeep = u ∧ u = { s with waiting := s.waiting.filterMap f ++ asked }
      ∧ (∀ r d, r.subject = .entry d → f r = some r)
      ∧ (∀ r c, r.subject = .call c →
        (wanted c → r.cls = .rekey → f r = some { r with cls := .voice, age := s.now })
        ∧ (wanted c → r.cls ≠ .rekey → f r = some r)
        ∧ (¬ wanted c → r.cls ≠ .voice → f r = some r)
        ∧ (¬ wanted c → r.cls = .voice → r.derive_ = false → f r = none)
        ∧ (¬ wanted c → r.cls = .voice → r.derive_ = true → f r = some { r with
            cls := if s.calls[c].debt = 8 then .rekeyForced else .rekey, age := s.now }))
      ∧ (∀ q ∈ asked, ∃ c, wanted c ∧ (∀ r ∈ s.waiting.filterMap f, r.subject ≠ .call c)
        ∧ q = { subject := .call c, cls := .voice, age := s.now, derive_ := false, slots := [],
                askTick := 0#32 })
      ∧ (asked.map ActRequest.subject).Nodup
      ∧ ∀ c, (wanted c → ∃ r ∈ u.waiting, r.subject = .call c)
        ∧ ∀ r ∈ u.waiting, r.subject = .call c → r.cls = .voice → wanted c)
  ∧ (([.rekeyForced, .voice, .admitAged, .rekey, .admit_] : List ActClass).Pairwise
      (fun x y => x.rank < y.rank)
    ∧ (∀ c c' : CallNo, (Subject.call c).rank ≤ (Subject.call c').rank ↔ c ≤ c')
    ∧ (∀ d d' : EntryNo, (Subject.entry d).rank ≤ (Subject.entry d').rank ↔ d ≤ d')
    ∧ ∀ (c : CallNo) (d : EntryNo), ((Subject.call c).rank < (Subject.entry d).rank ↔ c.val ≤ d.val)
      ∧ ((Subject.entry d).rank < (Subject.call c).rank ↔ d.val < c.val))
  ∧ (∀ (s : State) (l : LaneNo), s.evictable l = true ↔
    s.lanes[l].state = .ready ∧ s.lanes[l].count = 0
      ∧ ∀ u, s.lanes[l].subject = some u → (∀ r ∈ s.waiting, r.subject ≠ u)
        ∧ ∀ c, u = .call c → ∀ a ∈ s.port.hold ++ s.port.arrival.toList, a.region = .voice →
          (∃ o, s.rings[a.ring].state = .owned c o) ∨ s.rings[a.ring].state = .draining c →
          ∀ m ∈ s.calls[c].members, m.ep ≠ a.req.ep)
  ∧ (∀ (starts : List Instant) (x : Instant),
    (starts.length < 4 → addStart starts x = starts ++ [x])
    ∧ ∀ oldest rest, starts = oldest :: rest → 4 ≤ starts.length → addStart starts x = rest ++ [x])
  ∧ (∀ s : State,
    (∀ r, s.nextGrant = some r → r ∈ s.waiting ∧ s.startLane r ≠ none
      ∧ ∀ r' ∈ s.waiting, s.startLane r' ≠ none →
        r.cls.rank < r'.cls.rank ∨ r.cls = r'.cls ∧ (r.age < r'.age
          ∨ r.age = r'.age ∧ r.subject.rank ≤ r'.subject.rank))
    ∧ (s.nextGrant = none → ∀ r ∈ s.waiting, s.startLane r = none))
  ∧ (∀ (s : State) (r : ActRequest) (l : LaneNo), s.startLane r = some (l, true) ↔
      ∃ c, r.subject = .call c ∧ s.calls[c].lane = some l ∧ s.lanes[l].state = .ready
        ∧ r.derive_ = true
        ∧ ∀ l' : LaneNo, ¬ (s.lanes[l'].state = .expanding ∧ s.lanes[l'].subject = some (.call c)))
  ∧ (∀ (s : State) (r : ActRequest) (l : LaneNo), s.startLane r = some (l, false) →
      (∀ l' : LaneNo, ¬ (s.lanes[l'].state = .expanding ∧ s.lanes[l'].subject = some r.subject))
      ∧ (∀ c, r.subject = .call c → s.calls[c].lane = none)
      ∧ ((s.lanes[l].state = .empty ∧ ∀ l', l' < l → s.lanes[l'].state ≠ .empty)
        ∨ ((∀ l' : LaneNo, s.lanes[l'].state ≠ .empty) ∧ s.evictable l = true
          ∧ ∀ l' : LaneNo, s.evictable l' = true →
            s.lanes[l].lastUse < s.lanes[l'].lastUse
              ∨ s.lanes[l].lastUse = s.lanes[l'].lastUse ∧ l ≤ l')))
  ∧ (∀ (s : State) (r : ActRequest),
    (∀ l : LaneNo, ¬ (s.lanes[l].state = .expanding ∧ s.lanes[l].subject = some r.subject)) →
    (∀ c, r.subject = .call c → s.calls[c].lane = none) →
    (∃ l : LaneNo, s.lanes[l].state = .empty ∨ s.evictable l = true) →
    ∃ l, s.startLane r = some (l, false))
  ∧ (∀ (s : State) (n : Nat),
    let fullOf := fun (p : Plan) =>
      4 ≤ (s.starts.filter fun x => s.now < x + p.tAw * 1000).length
    s.grantAll = s.grantN 4 ∧ s.grantN 0 = s
    ∧ (∀ p r l inPlace, s.part ≠ .unplanned → s.plan = some p → ¬ fullOf p → s.nextGrant = some r →
      s.startLane r = some (l, inPlace) → s.grantN (n + 1) = (s.start r l inPlace).grantN n)
    ∧ (∀ p, s.plan = some p → fullOf p → s.grantN (n + 1) = s)
    ∧ (s.part = .unplanned ∨ s.nextGrant = none → s.grantN (n + 1) = s))
  ∧ (∀ s : State, ∃ v : State, v = s.settleRings.retestArrival.voiceUpkeep
    ∧ s.settle = { v.grantAll with port := s.settle.port, alert := s.settle.alert })
  ∧ (∀ (s : State) (r : ActRequest) (l : LaneNo),
    let x : Expansion :=
      { start := s.now, finish := s.now + 1500, derives := r.derive_, slots := r.slots }
    let kept := s.waiting.filter fun r' => r'.subject ≠ r.subject
    s.start r l true = { s with
      waiting := kept, starts := addStart s.starts s.now
      lanes := s.lanes.set l { s.lanes[l] with state := .expanding, expansion := some x } }
    ∧ ∃ u : State, s.start r l false = u
      ∧ u.lanes = s.lanes.set l { s.lanes[l] with
          state := .expanding, subject := some r.subject, keys := LaneKeys.blank, count := 0,
          expansion := some x }
      ∧ (∀ c : CallNo, u.calls[c] = { s.calls[c] with
          lane := if r.subject = .call c then some l
            else if s.lanes[l].subject = some (.call c) then none else s.calls[c].lane })
      ∧ u = { s with
          waiting := kept, starts := addStart s.starts s.now, lanes := u.lanes, calls := u.calls })
  ∧ ∀ (s : State) (p : Plan), s.plan = some p → 0 < p.tAw → s.StartsBounded → ∃ u : State,
    u = s.settle
    ∧ (u.hasPlan = false ∨ u.nextGrant = none
      ∨ 4 ≤ (u.starts.filter fun x => u.now < x + p.tAw * 1000).length)

/-! ## The scrambling transform (chapter 4) -/

/-- R62. The stages of the generator, in unsigned arithmetic mod 65536. -/
def Obligations.GeneratorStages : Prop :=
  ∀ (k : Key) (n d : Half),
    let p := (n.toNat + k.k0.toNat) % 65536
    let q := n.toNat ^^^ k.k1.toNat ^^^ d.toNat
    let P := (p * 40693 + k.k2.toNat) % 65536
    let Q := (q * 36969 + k.k3.toNat) % 65536
    let Q' := Q % 256 * 256 + Q / 256
    (gen k n d).toNat = P ^^^ Q'

/-- R58, R64, R65, R67 to R69, R71, R73, R75. The uses of the generator: descrambling undoes scrambling;
the ranks of eight values are a permutation of the segments in ascending order of value and, among
equals, of segment; a comfort sample is the output divided by 2^(12 − L) rounded downward, within 2^(3 +
L); the derived key and the expected answer; and the exchange of a sample's bytes undoes itself. -/
def Obligations.UsesOfTheGenerator : Prop :=
  (∀ (k : Key) (f : Word) (r : RingNo) (j : Nat) (x : Half),
    sampleOut k f r j =
        gen k (BitVec.ofNat 16 (f.toNat * 168 + j)) (BitVec.ofNat 16 (r.val * 257))
      ∧ (scramble k f r j x).toNat = (x.toNat + (sampleOut k f r j).toNat) % 65536
      ∧ descramble k f r j (scramble k f r j x) = x ∧ scramble k f r j (descramble k f r j x) = x)
  ∧ (∀ (k : Key) (f : Word) (r : RingNo), ∀ s < 8, ∀ u < 8,
    let v := fun i => gen k (BitVec.ofNat 16 (f.toNat * 168 + (160 + i))) (BitVec.ofNat 16 (r.val * 257))
    segPlace k f r s < 8
      ∧ (segPlace k f r s < segPlace k f r u ↔ v s < v u ∨ v s = v u ∧ s < u)
      ∧ (segPlace k f r s = segPlace k f r u ↔ s = u))
  ∧ (∀ (k : Key) (f : Word) (j : Nat) (level : Fin 8),
    (level.val = 0 → comfortSample k f j level = 0#16)
    ∧ (level.val ≠ 0 → (comfortSample k f j level).toInt =
        (gen k (BitVec.ofNat 16 (f.toNat * 168 + j)) 0x3CC3#16).toInt / 2 ^ (12 - level.val))
    ∧ -(2 ^ (3 + level.val) : Int) ≤ (comfortSample k f j level).toInt
    ∧ (comfortSample k f j level).toInt < 2 ^ (3 + level.val))
  ∧ (∀ (k : Key) (e : Half),
    let w := fun i => gen k (BitVec.ofNat 16 (e.toNat * 168 + i)) 0x5A3C#16
    deriveKey k e = { k0 := w 0, k1 := w 1, k2 := w 2, k3 := w 3 })
  ∧ (∀ (k : Key) (c : Half),
    expectedAnswer k c = (gen k c 0xC3A5#16, gen k (c + 1#16) 0xC3A5#16))
  ∧ ∀ (be : Bool) (x : Half), convertOrder be (convertOrder be x) = x
    ∧ (convertOrder true x).toNat = x.toNat % 256 * 256 + x.toNat / 256

/-! ## Invariants that every step keeps -/

/-- R173. ALERT keeps the level of R173 through every step. -/
def Obligations.AlertKept : Prop :=
  ∀ s u : State, s.AlertRight → step s = .next u → u.AlertRight

/-- R140, R143, R144. Every step keeps the reservation monitor and the endpoints' reservation fields in
agreement, with at most 16 reservations and none twice. -/
def Obligations.ReservationsKept : Prop :=
  ∀ s u : State, s.ReservationsAgree → s.MonitorBounded → step s = .next u →
    u.ReservationsAgree ∧ u.MonitorBounded

/-- R18, R19, R28, R34, R38, R85, R99, R142, R164, R169. Every step keeps the bounds of the part's
tables and queues: the responses, the hold queue, the transform places, the run count, the self-traffic
queue, the window's list, the calls' lists and debts, the fail counts, the backlog and the completions
not yet consumed; and no request stands twice in the response order table. -/
def Obligations.BoundsKept : Prop :=
  ∀ s u : State, step s = .next u →
    (s.PortBounded → u.PortBounded) ∧ (s.SelfQueueBounded → u.SelfQueueBounded)
    ∧ (s.StartsBounded → u.StartsBounded) ∧ (s.CallsBounded → u.CallsBounded)
    ∧ (s.FailsBounded → u.FailsBounded) ∧ (s.BacklogDistinct → u.BacklogDistinct)
    ∧ (s.CompletionsBounded → u.CompletionsBounded)
    ∧ (s.ResponsesDistinct → u.ResponsesDistinct)

/-- R145. Every step keeps a mailbox slot's deadline present exactly in CLAIMED, CHALLENGED and DECIDED,
and its owner exactly outside FREE. -/
def Obligations.SlotsKept : Prop :=
  ∀ s u : State, s.SlotsWellFormed → step s = .next u → u.SlotsWellFormed

/-- R8, R9, R10, R99, R100, R101, R140, R141, R145, R148. Every step keeps the pairs of the tables:
members with call fields and talk rings, slot owners with slot fields, ADMITTED endpoints with directory
entries; and what is quiet while RESTART is in execution. That its end is the answer to the entry's
write is the model's reading (log 21). -/
def Obligations.PairsKept : Prop :=
  ∀ s u : State, s.CallsPaired → s.SlotsPaired → s.AdmissionPaired → s.RestartQuiet →
    s.SlotsWellFormed → step s = .next u →
    u.CallsPaired ∧ u.SlotsPaired ∧ u.AdmissionPaired ∧ u.RestartQuiet ∧ u.SlotsWellFormed

/-- R79, R89, R90, R93, R96, R99. Every step keeps the pairs of calls and lanes: no subject has two
lanes, an EMPTY lane has none, a READY one has a call, a FREE call has no lane, and only OPEN calls have
waiting requests. -/
def Obligations.LanesKept : Prop :=
  ∀ s u : State, s.LanesPaired → step s = .next u → u.LanesPaired
end

