-- ==== Sys2Proof/Laws/State.lean ====
section
/-! SUPPORT. One lemma for each field of the state after each update of one record. -/

namespace Sys2Proof.Laws

open Sys2Proof Sys2Proof.Machine

variable (s : State)

/-! ## atInstant -/

@[simp] theorem atInstant_now (t : Instant) : (s.atInstant t).now = max s.now t := rfl
@[simp] theorem atInstant_resetLow (t : Instant) : (s.atInstant t).resetLow = s.resetLow := rfl
@[simp] theorem atInstant_anchorSel (t : Instant) : (s.atInstant t).anchorSel = s.anchorSel := rfl
@[simp] theorem atInstant_bootEp (t : Instant) : (s.atInstant t).bootEp = s.bootEp := rfl
@[simp] theorem atInstant_part (t : Instant) : (s.atInstant t).part = s.part := rfl
@[simp] theorem atInstant_plan (t : Instant) : (s.atInstant t).plan = s.plan := rfl
@[simp] theorem atInstant_validator (t : Instant) : (s.atInstant t).validator = s.validator := rfl
@[simp] theorem atInstant_endpoints (t : Instant) : (s.atInstant t).endpoints = s.endpoints := rfl
@[simp] theorem atInstant_directory (t : Instant) : (s.atInstant t).directory = s.directory := rfl
@[simp] theorem atInstant_mailboxes (t : Instant) : (s.atInstant t).mailboxes = s.mailboxes := rfl
@[simp] theorem atInstant_monitor (t : Instant) : (s.atInstant t).monitor = s.monitor := rfl
@[simp] theorem atInstant_challengeCtr (t : Instant) : (s.atInstant t).challengeCtr = s.challengeCtr := rfl
@[simp] theorem atInstant_rings (t : Instant) : (s.atInstant t).rings = s.rings := rfl
@[simp] theorem atInstant_calls (t : Instant) : (s.atInstant t).calls = s.calls := rfl
@[simp] theorem atInstant_lanes (t : Instant) : (s.atInstant t).lanes = s.lanes := rfl
@[simp] theorem atInstant_waiting (t : Instant) : (s.atInstant t).waiting = s.waiting := rfl
@[simp] theorem atInstant_starts (t : Instant) : (s.atInstant t).starts = s.starts := rfl
@[simp] theorem atInstant_timer (t : Instant) : (s.atInstant t).timer = s.timer := rfl
@[simp] theorem atInstant_engine (t : Instant) : (s.atInstant t).engine = s.engine := rfl
@[simp] theorem atInstant_port (t : Instant) : (s.atInstant t).port = s.port := rfl
@[simp] theorem atInstant_alert (t : Instant) : (s.atInstant t).alert = s.alert := rfl
@[simp] theorem atInstant_pending (t : Instant) : (s.atInstant t).pending = s.pending := rfl

/-! ## setEp -/

@[simp] theorem setEp_now (e : EpNo) (r : EndpointRec) : (s.setEp e r).now = s.now := rfl
@[simp] theorem setEp_resetLow (e : EpNo) (r : EndpointRec) : (s.setEp e r).resetLow = s.resetLow := rfl
@[simp] theorem setEp_anchorSel (e : EpNo) (r : EndpointRec) : (s.setEp e r).anchorSel = s.anchorSel := rfl
@[simp] theorem setEp_bootEp (e : EpNo) (r : EndpointRec) : (s.setEp e r).bootEp = s.bootEp := rfl
@[simp] theorem setEp_part (e : EpNo) (r : EndpointRec) : (s.setEp e r).part = s.part := rfl
@[simp] theorem setEp_plan (e : EpNo) (r : EndpointRec) : (s.setEp e r).plan = s.plan := rfl
@[simp] theorem setEp_validator (e : EpNo) (r : EndpointRec) : (s.setEp e r).validator = s.validator := rfl
@[simp] theorem setEp_endpoints (e : EpNo) (r : EndpointRec) : (s.setEp e r).endpoints = s.endpoints.set e r := rfl
@[simp] theorem setEp_directory (e : EpNo) (r : EndpointRec) : (s.setEp e r).directory = s.directory := rfl
@[simp] theorem setEp_mailboxes (e : EpNo) (r : EndpointRec) : (s.setEp e r).mailboxes = s.mailboxes := rfl
@[simp] theorem setEp_monitor (e : EpNo) (r : EndpointRec) : (s.setEp e r).monitor = s.monitor := rfl
@[simp] theorem setEp_challengeCtr (e : EpNo) (r : EndpointRec) : (s.setEp e r).challengeCtr = s.challengeCtr := rfl
@[simp] theorem setEp_rings (e : EpNo) (r : EndpointRec) : (s.setEp e r).rings = s.rings := rfl
@[simp] theorem setEp_calls (e : EpNo) (r : EndpointRec) : (s.setEp e r).calls = s.calls := rfl
@[simp] theorem setEp_lanes (e : EpNo) (r : EndpointRec) : (s.setEp e r).lanes = s.lanes := rfl
@[simp] theorem setEp_waiting (e : EpNo) (r : EndpointRec) : (s.setEp e r).waiting = s.waiting := rfl
@[simp] theorem setEp_starts (e : EpNo) (r : EndpointRec) : (s.setEp e r).starts = s.starts := rfl
@[simp] theorem setEp_timer (e : EpNo) (r : EndpointRec) : (s.setEp e r).timer = s.timer := rfl
@[simp] theorem setEp_engine (e : EpNo) (r : EndpointRec) : (s.setEp e r).engine = s.engine := rfl
@[simp] theorem setEp_port (e : EpNo) (r : EndpointRec) : (s.setEp e r).port = s.port := rfl
@[simp] theorem setEp_alert (e : EpNo) (r : EndpointRec) : (s.setEp e r).alert = s.alert := rfl
@[simp] theorem setEp_pending (e : EpNo) (r : EndpointRec) : (s.setEp e r).pending = s.pending := rfl

/-! ## setEntry -/

@[simp] theorem setEntry_now (d : EntryNo) (r : DirEntry) : (s.setEntry d r).now = s.now := rfl
@[simp] theorem setEntry_resetLow (d : EntryNo) (r : DirEntry) : (s.setEntry d r).resetLow = s.resetLow := rfl
@[simp] theorem setEntry_anchorSel (d : EntryNo) (r : DirEntry) : (s.setEntry d r).anchorSel = s.anchorSel := rfl
@[simp] theorem setEntry_bootEp (d : EntryNo) (r : DirEntry) : (s.setEntry d r).bootEp = s.bootEp := rfl
@[simp] theorem setEntry_part (d : EntryNo) (r : DirEntry) : (s.setEntry d r).part = s.part := rfl
@[simp] theorem setEntry_plan (d : EntryNo) (r : DirEntry) : (s.setEntry d r).plan = s.plan := rfl
@[simp] theorem setEntry_validator (d : EntryNo) (r : DirEntry) : (s.setEntry d r).validator = s.validator := rfl
@[simp] theorem setEntry_endpoints (d : EntryNo) (r : DirEntry) : (s.setEntry d r).endpoints = s.endpoints := rfl
@[simp] theorem setEntry_directory (d : EntryNo) (r : DirEntry) : (s.setEntry d r).directory = s.directory.set d r := rfl
@[simp] theorem setEntry_mailboxes (d : EntryNo) (r : DirEntry) : (s.setEntry d r).mailboxes = s.mailboxes := rfl
@[simp] theorem setEntry_monitor (d : EntryNo) (r : DirEntry) : (s.setEntry d r).monitor = s.monitor := rfl
@[simp] theorem setEntry_challengeCtr (d : EntryNo) (r : DirEntry) : (s.setEntry d r).challengeCtr = s.challengeCtr := rfl
@[simp] theorem setEntry_rings (d : EntryNo) (r : DirEntry) : (s.setEntry d r).rings = s.rings := rfl
@[simp] theorem setEntry_calls (d : EntryNo) (r : DirEntry) : (s.setEntry d r).calls = s.calls := rfl
@[simp] theorem setEntry_lanes (d : EntryNo) (r : DirEntry) : (s.setEntry d r).lanes = s.lanes := rfl
@[simp] theorem setEntry_waiting (d : EntryNo) (r : DirEntry) : (s.setEntry d r).waiting = s.waiting := rfl
@[simp] theorem setEntry_starts (d : EntryNo) (r : DirEntry) : (s.setEntry d r).starts = s.starts := rfl
@[simp] theorem setEntry_timer (d : EntryNo) (r : DirEntry) : (s.setEntry d r).timer = s.timer := rfl
@[simp] theorem setEntry_engine (d : EntryNo) (r : DirEntry) : (s.setEntry d r).engine = s.engine := rfl
@[simp] theorem setEntry_port (d : EntryNo) (r : DirEntry) : (s.setEntry d r).port = s.port := rfl
@[simp] theorem setEntry_alert (d : EntryNo) (r : DirEntry) : (s.setEntry d r).alert = s.alert := rfl
@[simp] theorem setEntry_pending (d : EntryNo) (r : DirEntry) : (s.setEntry d r).pending = s.pending := rfl

/-! ## setMbox -/

@[simp] theorem setMbox_now (m : MboxNo) (r : Mbox) : (s.setMbox m r).now = s.now := rfl
@[simp] theorem setMbox_resetLow (m : MboxNo) (r : Mbox) : (s.setMbox m r).resetLow = s.resetLow := rfl
@[simp] theorem setMbox_anchorSel (m : MboxNo) (r : Mbox) : (s.setMbox m r).anchorSel = s.anchorSel := rfl
@[simp] theorem setMbox_bootEp (m : MboxNo) (r : Mbox) : (s.setMbox m r).bootEp = s.bootEp := rfl
@[simp] theorem setMbox_part (m : MboxNo) (r : Mbox) : (s.setMbox m r).part = s.part := rfl
@[simp] theorem setMbox_plan (m : MboxNo) (r : Mbox) : (s.setMbox m r).plan = s.plan := rfl
@[simp] theorem setMbox_validator (m : MboxNo) (r : Mbox) : (s.setMbox m r).validator = s.validator := rfl
@[simp] theorem setMbox_endpoints (m : MboxNo) (r : Mbox) : (s.setMbox m r).endpoints = s.endpoints := rfl
@[simp] theorem setMbox_directory (m : MboxNo) (r : Mbox) : (s.setMbox m r).directory = s.directory := rfl
@[simp] theorem setMbox_mailboxes (m : MboxNo) (r : Mbox) : (s.setMbox m r).mailboxes = s.mailboxes.set m r := rfl
@[simp] theorem setMbox_monitor (m : MboxNo) (r : Mbox) : (s.setMbox m r).monitor = s.monitor := rfl
@[simp] theorem setMbox_challengeCtr (m : MboxNo) (r : Mbox) : (s.setMbox m r).challengeCtr = s.challengeCtr := rfl
@[simp] theorem setMbox_rings (m : MboxNo) (r : Mbox) : (s.setMbox m r).rings = s.rings := rfl
@[simp] theorem setMbox_calls (m : MboxNo) (r : Mbox) : (s.setMbox m r).calls = s.calls := rfl
@[simp] theorem setMbox_lanes (m : MboxNo) (r : Mbox) : (s.setMbox m r).lanes = s.lanes := rfl
@[simp] theorem setMbox_waiting (m : MboxNo) (r : Mbox) : (s.setMbox m r).waiting = s.waiting := rfl
@[simp] theorem setMbox_starts (m : MboxNo) (r : Mbox) : (s.setMbox m r).starts = s.starts := rfl
@[simp] theorem setMbox_timer (m : MboxNo) (r : Mbox) : (s.setMbox m r).timer = s.timer := rfl
@[simp] theorem setMbox_engine (m : MboxNo) (r : Mbox) : (s.setMbox m r).engine = s.engine := rfl
@[simp] theorem setMbox_port (m : MboxNo) (r : Mbox) : (s.setMbox m r).port = s.port := rfl
@[simp] theorem setMbox_alert (m : MboxNo) (r : Mbox) : (s.setMbox m r).alert = s.alert := rfl
@[simp] theorem setMbox_pending (m : MboxNo) (r : Mbox) : (s.setMbox m r).pending = s.pending := rfl

/-! ## setRing -/

@[simp] theorem setRing_now (q : RingNo) (r : Ring) : (s.setRing q r).now = s.now := rfl
@[simp] theorem setRing_resetLow (q : RingNo) (r : Ring) : (s.setRing q r).resetLow = s.resetLow := rfl
@[simp] theorem setRing_anchorSel (q : RingNo) (r : Ring) : (s.setRing q r).anchorSel = s.anchorSel := rfl
@[simp] theorem setRing_bootEp (q : RingNo) (r : Ring) : (s.setRing q r).bootEp = s.bootEp := rfl
@[simp] theorem setRing_part (q : RingNo) (r : Ring) : (s.setRing q r).part = s.part := rfl
@[simp] theorem setRing_plan (q : RingNo) (r : Ring) : (s.setRing q r).plan = s.plan := rfl
@[simp] theorem setRing_validator (q : RingNo) (r : Ring) : (s.setRing q r).validator = s.validator := rfl
@[simp] theorem setRing_endpoints (q : RingNo) (r : Ring) : (s.setRing q r).endpoints = s.endpoints := rfl
@[simp] theorem setRing_directory (q : RingNo) (r : Ring) : (s.setRing q r).directory = s.directory := rfl
@[simp] theorem setRing_mailboxes (q : RingNo) (r : Ring) : (s.setRing q r).mailboxes = s.mailboxes := rfl
@[simp] theorem setRing_monitor (q : RingNo) (r : Ring) : (s.setRing q r).monitor = s.monitor := rfl
@[simp] theorem setRing_challengeCtr (q : RingNo) (r : Ring) : (s.setRing q r).challengeCtr = s.challengeCtr := rfl
@[simp] theorem setRing_rings (q : RingNo) (r : Ring) : (s.setRing q r).rings = s.rings.set q r := rfl
@[simp] theorem setRing_calls (q : RingNo) (r : Ring) : (s.setRing q r).calls = s.calls := rfl
@[simp] theorem setRing_lanes (q : RingNo) (r : Ring) : (s.setRing q r).lanes = s.lanes := rfl
@[simp] theorem setRing_waiting (q : RingNo) (r : Ring) : (s.setRing q r).waiting = s.waiting := rfl
@[simp] theorem setRing_starts (q : RingNo) (r : Ring) : (s.setRing q r).starts = s.starts := rfl
@[simp] theorem setRing_timer (q : RingNo) (r : Ring) : (s.setRing q r).timer = s.timer := rfl
@[simp] theorem setRing_engine (q : RingNo) (r : Ring) : (s.setRing q r).engine = s.engine := rfl
@[simp] theorem setRing_port (q : RingNo) (r : Ring) : (s.setRing q r).port = s.port := rfl
@[simp] theorem setRing_alert (q : RingNo) (r : Ring) : (s.setRing q r).alert = s.alert := rfl
@[simp] theorem setRing_pending (q : RingNo) (r : Ring) : (s.setRing q r).pending = s.pending := rfl

/-! ## setCall -/

@[simp] theorem setCall_now (c : CallNo) (r : Call) : (s.setCall c r).now = s.now := rfl
@[simp] theorem setCall_resetLow (c : CallNo) (r : Call) : (s.setCall c r).resetLow = s.resetLow := rfl
@[simp] theorem setCall_anchorSel (c : CallNo) (r : Call) : (s.setCall c r).anchorSel = s.anchorSel := rfl
@[simp] theorem setCall_bootEp (c : CallNo) (r : Call) : (s.setCall c r).bootEp = s.bootEp := rfl
@[simp] theorem setCall_part (c : CallNo) (r : Call) : (s.setCall c r).part = s.part := rfl
@[simp] theorem setCall_plan (c : CallNo) (r : Call) : (s.setCall c r).plan = s.plan := rfl
@[simp] theorem setCall_validator (c : CallNo) (r : Call) : (s.setCall c r).validator = s.validator := rfl
@[simp] theorem setCall_endpoints (c : CallNo) (r : Call) : (s.setCall c r).endpoints = s.endpoints := rfl
@[simp] theorem setCall_directory (c : CallNo) (r : Call) : (s.setCall c r).directory = s.directory := rfl
@[simp] theorem setCall_mailboxes (c : CallNo) (r : Call) : (s.setCall c r).mailboxes = s.mailboxes := rfl
@[simp] theorem setCall_monitor (c : CallNo) (r : Call) : (s.setCall c r).monitor = s.monitor := rfl
@[simp] theorem setCall_challengeCtr (c : CallNo) (r : Call) : (s.setCall c r).challengeCtr = s.challengeCtr := rfl
@[simp] theorem setCall_rings (c : CallNo) (r : Call) : (s.setCall c r).rings = s.rings := rfl
@[simp] theorem setCall_calls (c : CallNo) (r : Call) : (s.setCall c r).calls = s.calls.set c r := rfl
@[simp] theorem setCall_lanes (c : CallNo) (r : Call) : (s.setCall c r).lanes = s.lanes := rfl
@[simp] theorem setCall_waiting (c : CallNo) (r : Call) : (s.setCall c r).waiting = s.waiting := rfl
@[simp] theorem setCall_starts (c : CallNo) (r : Call) : (s.setCall c r).starts = s.starts := rfl
@[simp] theorem setCall_timer (c : CallNo) (r : Call) : (s.setCall c r).timer = s.timer := rfl
@[simp] theorem setCall_engine (c : CallNo) (r : Call) : (s.setCall c r).engine = s.engine := rfl
@[simp] theorem setCall_port (c : CallNo) (r : Call) : (s.setCall c r).port = s.port := rfl
@[simp] theorem setCall_alert (c : CallNo) (r : Call) : (s.setCall c r).alert = s.alert := rfl
@[simp] theorem setCall_pending (c : CallNo) (r : Call) : (s.setCall c r).pending = s.pending := rfl

/-! ## setLane -/

@[simp] theorem setLane_now (l : LaneNo) (r : Lane) : (s.setLane l r).now = s.now := rfl
@[simp] theorem setLane_resetLow (l : LaneNo) (r : Lane) : (s.setLane l r).resetLow = s.resetLow := rfl
@[simp] theorem setLane_anchorSel (l : LaneNo) (r : Lane) : (s.setLane l r).anchorSel = s.anchorSel := rfl
@[simp] theorem setLane_bootEp (l : LaneNo) (r : Lane) : (s.setLane l r).bootEp = s.bootEp := rfl
@[simp] theorem setLane_part (l : LaneNo) (r : Lane) : (s.setLane l r).part = s.part := rfl
@[simp] theorem setLane_plan (l : LaneNo) (r : Lane) : (s.setLane l r).plan = s.plan := rfl
@[simp] theorem setLane_validator (l : LaneNo) (r : Lane) : (s.setLane l r).validator = s.validator := rfl
@[simp] theorem setLane_endpoints (l : LaneNo) (r : Lane) : (s.setLane l r).endpoints = s.endpoints := rfl
@[simp] theorem setLane_directory (l : LaneNo) (r : Lane) : (s.setLane l r).directory = s.directory := rfl
@[simp] theorem setLane_mailboxes (l : LaneNo) (r : Lane) : (s.setLane l r).mailboxes = s.mailboxes := rfl
@[simp] theorem setLane_monitor (l : LaneNo) (r : Lane) : (s.setLane l r).monitor = s.monitor := rfl
@[simp] theorem setLane_challengeCtr (l : LaneNo) (r : Lane) : (s.setLane l r).challengeCtr = s.challengeCtr := rfl
@[simp] theorem setLane_rings (l : LaneNo) (r : Lane) : (s.setLane l r).rings = s.rings := rfl
@[simp] theorem setLane_calls (l : LaneNo) (r : Lane) : (s.setLane l r).calls = s.calls := rfl
@[simp] theorem setLane_lanes (l : LaneNo) (r : Lane) : (s.setLane l r).lanes = s.lanes.set l r := rfl
@[simp] theorem setLane_waiting (l : LaneNo) (r : Lane) : (s.setLane l r).waiting = s.waiting := rfl
@[simp] theorem setLane_starts (l : LaneNo) (r : Lane) : (s.setLane l r).starts = s.starts := rfl
@[simp] theorem setLane_timer (l : LaneNo) (r : Lane) : (s.setLane l r).timer = s.timer := rfl
@[simp] theorem setLane_engine (l : LaneNo) (r : Lane) : (s.setLane l r).engine = s.engine := rfl
@[simp] theorem setLane_port (l : LaneNo) (r : Lane) : (s.setLane l r).port = s.port := rfl
@[simp] theorem setLane_alert (l : LaneNo) (r : Lane) : (s.setLane l r).alert = s.alert := rfl
@[simp] theorem setLane_pending (l : LaneNo) (r : Lane) : (s.setLane l r).pending = s.pending := rfl

/-! ## setTimer -/

@[simp] theorem setTimer_now (x : Timer) : (s.setTimer x).now = s.now := rfl
@[simp] theorem setTimer_resetLow (x : Timer) : (s.setTimer x).resetLow = s.resetLow := rfl
@[simp] theorem setTimer_anchorSel (x : Timer) : (s.setTimer x).anchorSel = s.anchorSel := rfl
@[simp] theorem setTimer_bootEp (x : Timer) : (s.setTimer x).bootEp = s.bootEp := rfl
@[simp] theorem setTimer_part (x : Timer) : (s.setTimer x).part = s.part := rfl
@[simp] theorem setTimer_plan (x : Timer) : (s.setTimer x).plan = s.plan := rfl
@[simp] theorem setTimer_validator (x : Timer) : (s.setTimer x).validator = s.validator := rfl
@[simp] theorem setTimer_endpoints (x : Timer) : (s.setTimer x).endpoints = s.endpoints := rfl
@[simp] theorem setTimer_directory (x : Timer) : (s.setTimer x).directory = s.directory := rfl
@[simp] theorem setTimer_mailboxes (x : Timer) : (s.setTimer x).mailboxes = s.mailboxes := rfl
@[simp] theorem setTimer_monitor (x : Timer) : (s.setTimer x).monitor = s.monitor := rfl
@[simp] theorem setTimer_challengeCtr (x : Timer) : (s.setTimer x).challengeCtr = s.challengeCtr := rfl
@[simp] theorem setTimer_rings (x : Timer) : (s.setTimer x).rings = s.rings := rfl
@[simp] theorem setTimer_calls (x : Timer) : (s.setTimer x).calls = s.calls := rfl
@[simp] theorem setTimer_lanes (x : Timer) : (s.setTimer x).lanes = s.lanes := rfl
@[simp] theorem setTimer_waiting (x : Timer) : (s.setTimer x).waiting = s.waiting := rfl
@[simp] theorem setTimer_starts (x : Timer) : (s.setTimer x).starts = s.starts := rfl
@[simp] theorem setTimer_timer (x : Timer) : (s.setTimer x).timer = x := rfl
@[simp] theorem setTimer_engine (x : Timer) : (s.setTimer x).engine = s.engine := rfl
@[simp] theorem setTimer_port (x : Timer) : (s.setTimer x).port = s.port := rfl
@[simp] theorem setTimer_alert (x : Timer) : (s.setTimer x).alert = s.alert := rfl
@[simp] theorem setTimer_pending (x : Timer) : (s.setTimer x).pending = s.pending := rfl

/-! ## setEngine -/

@[simp] theorem setEngine_now (x : Engine) : (s.setEngine x).now = s.now := rfl
@[simp] theorem setEngine_resetLow (x : Engine) : (s.setEngine x).resetLow = s.resetLow := rfl
@[simp] theorem setEngine_anchorSel (x : Engine) : (s.setEngine x).anchorSel = s.anchorSel := rfl
@[simp] theorem setEngine_bootEp (x : Engine) : (s.setEngine x).bootEp = s.bootEp := rfl
@[simp] theorem setEngine_part (x : Engine) : (s.setEngine x).part = s.part := rfl
@[simp] theorem setEngine_plan (x : Engine) : (s.setEngine x).plan = s.plan := rfl
@[simp] theorem setEngine_validator (x : Engine) : (s.setEngine x).validator = s.validator := rfl
@[simp] theorem setEngine_endpoints (x : Engine) : (s.setEngine x).endpoints = s.endpoints := rfl
@[simp] theorem setEngine_directory (x : Engine) : (s.setEngine x).directory = s.directory := rfl
@[simp] theorem setEngine_mailboxes (x : Engine) : (s.setEngine x).mailboxes = s.mailboxes := rfl
@[simp] theorem setEngine_monitor (x : Engine) : (s.setEngine x).monitor = s.monitor := rfl
@[simp] theorem setEngine_challengeCtr (x : Engine) : (s.setEngine x).challengeCtr = s.challengeCtr := rfl
@[simp] theorem setEngine_rings (x : Engine) : (s.setEngine x).rings = s.rings := rfl
@[simp] theorem setEngine_calls (x : Engine) : (s.setEngine x).calls = s.calls := rfl
@[simp] theorem setEngine_lanes (x : Engine) : (s.setEngine x).lanes = s.lanes := rfl
@[simp] theorem setEngine_waiting (x : Engine) : (s.setEngine x).waiting = s.waiting := rfl
@[simp] theorem setEngine_starts (x : Engine) : (s.setEngine x).starts = s.starts := rfl
@[simp] theorem setEngine_timer (x : Engine) : (s.setEngine x).timer = s.timer := rfl
@[simp] theorem setEngine_engine (x : Engine) : (s.setEngine x).engine = x := rfl
@[simp] theorem setEngine_port (x : Engine) : (s.setEngine x).port = s.port := rfl
@[simp] theorem setEngine_alert (x : Engine) : (s.setEngine x).alert = s.alert := rfl
@[simp] theorem setEngine_pending (x : Engine) : (s.setEngine x).pending = s.pending := rfl

/-! ## setPort -/

@[simp] theorem setPort_now (x : Port) : (s.setPort x).now = s.now := rfl
@[simp] theorem setPort_resetLow (x : Port) : (s.setPort x).resetLow = s.resetLow := rfl
@[simp] theorem setPort_anchorSel (x : Port) : (s.setPort x).anchorSel = s.anchorSel := rfl
@[simp] theorem setPort_bootEp (x : Port) : (s.setPort x).bootEp = s.bootEp := rfl
@[simp] theorem setPort_part (x : Port) : (s.setPort x).part = s.part := rfl
@[simp] theorem setPort_plan (x : Port) : (s.setPort x).plan = s.plan := rfl
@[simp] theorem setPort_validator (x : Port) : (s.setPort x).validator = s.validator := rfl
@[simp] theorem setPort_endpoints (x : Port) : (s.setPort x).endpoints = s.endpoints := rfl
@[simp] theorem setPort_directory (x : Port) : (s.setPort x).directory = s.directory := rfl
@[simp] theorem setPort_mailboxes (x : Port) : (s.setPort x).mailboxes = s.mailboxes := rfl
@[simp] theorem setPort_monitor (x : Port) : (s.setPort x).monitor = s.monitor := rfl
@[simp] theorem setPort_challengeCtr (x : Port) : (s.setPort x).challengeCtr = s.challengeCtr := rfl
@[simp] theorem setPort_rings (x : Port) : (s.setPort x).rings = s.rings := rfl
@[simp] theorem setPort_calls (x : Port) : (s.setPort x).calls = s.calls := rfl
@[simp] theorem setPort_lanes (x : Port) : (s.setPort x).lanes = s.lanes := rfl
@[simp] theorem setPort_waiting (x : Port) : (s.setPort x).waiting = s.waiting := rfl
@[simp] theorem setPort_starts (x : Port) : (s.setPort x).starts = s.starts := rfl
@[simp] theorem setPort_timer (x : Port) : (s.setPort x).timer = s.timer := rfl
@[simp] theorem setPort_engine (x : Port) : (s.setPort x).engine = s.engine := rfl
@[simp] theorem setPort_port (x : Port) : (s.setPort x).port = x := rfl
@[simp] theorem setPort_alert (x : Port) : (s.setPort x).alert = s.alert := rfl
@[simp] theorem setPort_pending (x : Port) : (s.setPort x).pending = s.pending := rfl

/-! ## setWaiting -/

@[simp] theorem setWaiting_now (x : List ActRequest) : (s.setWaiting x).now = s.now := rfl
@[simp] theorem setWaiting_resetLow (x : List ActRequest) : (s.setWaiting x).resetLow = s.resetLow := rfl
@[simp] theorem setWaiting_anchorSel (x : List ActRequest) : (s.setWaiting x).anchorSel = s.anchorSel := rfl
@[simp] theorem setWaiting_bootEp (x : List ActRequest) : (s.setWaiting x).bootEp = s.bootEp := rfl
@[simp] theorem setWaiting_part (x : List ActRequest) : (s.setWaiting x).part = s.part := rfl
@[simp] theorem setWaiting_plan (x : List ActRequest) : (s.setWaiting x).plan = s.plan := rfl
@[simp] theorem setWaiting_validator (x : List ActRequest) : (s.setWaiting x).validator = s.validator := rfl
@[simp] theorem setWaiting_endpoints (x : List ActRequest) : (s.setWaiting x).endpoints = s.endpoints := rfl
@[simp] theorem setWaiting_directory (x : List ActRequest) : (s.setWaiting x).directory = s.directory := rfl
@[simp] theorem setWaiting_mailboxes (x : List ActRequest) : (s.setWaiting x).mailboxes = s.mailboxes := rfl
@[simp] theorem setWaiting_monitor (x : List ActRequest) : (s.setWaiting x).monitor = s.monitor := rfl
@[simp] theorem setWaiting_challengeCtr (x : List ActRequest) : (s.setWaiting x).challengeCtr = s.challengeCtr := rfl
@[simp] theorem setWaiting_rings (x : List ActRequest) : (s.setWaiting x).rings = s.rings := rfl
@[simp] theorem setWaiting_calls (x : List ActRequest) : (s.setWaiting x).calls = s.calls := rfl
@[simp] theorem setWaiting_lanes (x : List ActRequest) : (s.setWaiting x).lanes = s.lanes := rfl
@[simp] theorem setWaiting_waiting (x : List ActRequest) : (s.setWaiting x).waiting = x := rfl
@[simp] theorem setWaiting_starts (x : List ActRequest) : (s.setWaiting x).starts = s.starts := rfl
@[simp] theorem setWaiting_timer (x : List ActRequest) : (s.setWaiting x).timer = s.timer := rfl
@[simp] theorem setWaiting_engine (x : List ActRequest) : (s.setWaiting x).engine = s.engine := rfl
@[simp] theorem setWaiting_port (x : List ActRequest) : (s.setWaiting x).port = s.port := rfl
@[simp] theorem setWaiting_alert (x : List ActRequest) : (s.setWaiting x).alert = s.alert := rfl
@[simp] theorem setWaiting_pending (x : List ActRequest) : (s.setWaiting x).pending = s.pending := rfl

/-! ## The entry of a table after its update -/

theorem setEp_get_self (i : EpNo) (r : EndpointRec) : (s.setEp i r).endpoints[i] = r := by
  simp [State.setEp]

theorem setEp_get_ne {i j : EpNo} (r : EndpointRec) (h : j ≠ i) : (s.setEp i r).endpoints[j] = s.endpoints[j] := by
  have h' : (i : Nat) ≠ j := fun e => h (Fin.ext e.symm)
  simp [State.setEp, Vector.getElem_set_ne, h']

/-- An entry of the table after the update of entry i. -/
theorem setEp_get (i j : EpNo) (r : EndpointRec) :
    (s.setEp i r).endpoints[j] = if j = i then r else s.endpoints[j] := by
  by_cases h : j = i
  · subst h; rw [if_pos rfl, setEp_get_self]
  · rw [if_neg h, setEp_get_ne s r h]

theorem setEntry_get_self (i : EntryNo) (r : DirEntry) : (s.setEntry i r).directory[i] = r := by
  simp [State.setEntry]

theorem setEntry_get_ne {i j : EntryNo} (r : DirEntry) (h : j ≠ i) : (s.setEntry i r).directory[j] = s.directory[j] := by
  have h' : (i : Nat) ≠ j := fun e => h (Fin.ext e.symm)
  simp [State.setEntry, Vector.getElem_set_ne, h']

/-- An entry of the table after the update of entry i. -/
theorem setEntry_get (i j : EntryNo) (r : DirEntry) :
    (s.setEntry i r).directory[j] = if j = i then r else s.directory[j] := by
  by_cases h : j = i
  · subst h; rw [if_pos rfl, setEntry_get_self]
  · rw [if_neg h, setEntry_get_ne s r h]

theorem setMbox_get_self (i : MboxNo) (r : Mbox) : (s.setMbox i r).mailboxes[i] = r := by
  simp [State.setMbox]

theorem setMbox_get_ne {i j : MboxNo} (r : Mbox) (h : j ≠ i) : (s.setMbox i r).mailboxes[j] = s.mailboxes[j] := by
  have h' : (i : Nat) ≠ j := fun e => h (Fin.ext e.symm)
  simp [State.setMbox, Vector.getElem_set_ne, h']

/-- An entry of the table after the update of entry i. -/
theorem setMbox_get (i j : MboxNo) (r : Mbox) :
    (s.setMbox i r).mailboxes[j] = if j = i then r else s.mailboxes[j] := by
  by_cases h : j = i
  · subst h; rw [if_pos rfl, setMbox_get_self]
  · rw [if_neg h, setMbox_get_ne s r h]

theorem setRing_get_self (i : RingNo) (r : Ring) : (s.setRing i r).rings[i] = r := by
  simp [State.setRing]

theorem setRing_get_ne {i j : RingNo} (r : Ring) (h : j ≠ i) : (s.setRing i r).rings[j] = s.rings[j] := by
  have h' : (i : Nat) ≠ j := fun e => h (Fin.ext e.symm)
  simp [State.setRing, Vector.getElem_set_ne, h']

/-- An entry of the table after the update of entry i. -/
theorem setRing_get (i j : RingNo) (r : Ring) :
    (s.setRing i r).rings[j] = if j = i then r else s.rings[j] := by
  by_cases h : j = i
  · subst h; rw [if_pos rfl, setRing_get_self]
  · rw [if_neg h, setRing_get_ne s r h]

theorem setCall_get_self (i : CallNo) (r : Call) : (s.setCall i r).calls[i] = r := by
  simp [State.setCall]

theorem setCall_get_ne {i j : CallNo} (r : Call) (h : j ≠ i) : (s.setCall i r).calls[j] = s.calls[j] := by
  have h' : (i : Nat) ≠ j := fun e => h (Fin.ext e.symm)
  simp [State.setCall, Vector.getElem_set_ne, h']

/-- An entry of the table after the update of entry i. -/
theorem setCall_get (i j : CallNo) (r : Call) :
    (s.setCall i r).calls[j] = if j = i then r else s.calls[j] := by
  by_cases h : j = i
  · subst h; rw [if_pos rfl, setCall_get_self]
  · rw [if_neg h, setCall_get_ne s r h]

theorem setLane_get_self (i : LaneNo) (r : Lane) : (s.setLane i r).lanes[i] = r := by
  simp [State.setLane]

theorem setLane_get_ne {i j : LaneNo} (r : Lane) (h : j ≠ i) : (s.setLane i r).lanes[j] = s.lanes[j] := by
  have h' : (i : Nat) ≠ j := fun e => h (Fin.ext e.symm)
  simp [State.setLane, Vector.getElem_set_ne, h']

/-- An entry of the table after the update of entry i. -/
theorem setLane_get (i j : LaneNo) (r : Lane) :
    (s.setLane i r).lanes[j] = if j = i then r else s.lanes[j] := by
  by_cases h : j = i
  · subst h; rw [if_pos rfl, setLane_get_self]
  · rw [if_neg h, setLane_get_ne s r h]

end Sys2Proof.Laws
end

