-- ==== Sys2Proof/Laws/Frames.lean ====
section
/-! SUPPORT. What each shared operation can change, said once: the state after it is the state before
with the named records replaced. -/

namespace Sys2Proof.Laws

open Sys2Proof Sys2Proof.Machine

/-! ## Self traffic and completions -/

/-- Only the self-traffic queue and its waiters differ. -/
def SelfOnly (s u : State) : Prop :=
  ∃ q w, u = { s with port := { s.port with selfQ := q, waiters := w } }

/-- Only the order engine's record, the self-traffic queue and its waiters differ. -/
def EngineOnly (s u : State) : Prop :=
  ∃ g q w, u = { s with engine := g, port := { s.port with selfQ := q, waiters := w } }

theorem SelfOnly.refl (s : State) : SelfOnly s s := ⟨s.port.selfQ, s.port.waiters, rfl⟩

theorem SelfOnly.trans {s u v : State} (h : SelfOnly s u) (k : SelfOnly u v) : SelfOnly s v := by
  obtain ⟨q, w, rfl⟩ := h
  obtain ⟨q', w', rfl⟩ := k
  exact ⟨q', w', rfl⟩

theorem SelfOnly.engineOnly {s u : State} (h : SelfOnly s u) : EngineOnly s u := by
  obtain ⟨q, w, rfl⟩ := h
  exact ⟨s.engine, q, w, rfl⟩

theorem EngineOnly.refl (s : State) : EngineOnly s s :=
  ⟨s.engine, s.port.selfQ, s.port.waiters, rfl⟩

theorem EngineOnly.trans {s u v : State} (h : EngineOnly s u) (k : EngineOnly u v) :
    EngineOnly s v := by
  obtain ⟨g, q, w, rfl⟩ := h
  obtain ⟨g', q', w', rfl⟩ := k
  exact ⟨g', q', w', rfl⟩

theorem setEngine_only (s : State) (g : Engine) : EngineOnly s (s.setEngine g) :=
  ⟨g, s.port.selfQ, s.port.waiters, rfl⟩

/-- Placing entries appends them to the queue, or makes their block wait behind the others (R38). -/
theorem place_eq (s : State) (b : Block) (p : Bool) (es : List SelfEntry) :
    s.place b p es =
      if s.port.waiters.isEmpty && s.port.fits es.length then
        s.setPort { s.port with selfQ := s.port.selfQ ++ es }
      else s.setPort { s.port with waiters := s.port.waiters ++ [.entries b p es] } := by
  unfold State.place Port.place
  split <;> rfl

theorem place_only (s : State) (b : Block) (p : Bool) (es : List SelfEntry) :
    SelfOnly s (s.place b p es) := by
  rw [place_eq]
  split
  · exact ⟨_, s.port.waiters, rfl⟩
  · exact ⟨s.port.selfQ, _, rfl⟩

@[simp] theorem place_engine (s : State) (b : Block) (p : Bool) (es : List SelfEntry) :
    (s.place b p es).engine = s.engine := by
  obtain ⟨q, w, h⟩ := place_only s b p es
  rw [h]

/-- A completion written raises the producer count by 1 and places its two self-writes together
(R168). -/
theorem writeCompletion_eq (s : State) (b : Block) (p : Bool) (c : Completion) (r : Bool) :
    s.writeCompletion b p c r =
      (s.setEngine { s.engine with
        completionProducer := s.engine.completionProducer + 1#16 }).place b p
          (completionWrites s.thePlan.completionBase s.engine.completionProducer c r) := rfl

theorem writeCompletion_only (s : State) (b : Block) (p : Bool) (c : Completion) (r : Bool) :
    EngineOnly s (s.writeCompletion b p c r) :=
  (setEngine_only s _).trans (place_only _ b p _).engineOnly

@[simp] theorem writeCompletion_engine (s : State) (b : Block) (p : Bool) (c : Completion)
    (r : Bool) :
    (s.writeCompletion b p c r).engine =
      { s.engine with completionProducer := s.engine.completionProducer + 1#16 } := by
  rw [writeCompletion_eq, place_engine, setEngine_engine]

theorem deliverN_only (n : Nat) (s : State) : EngineOnly s (State.deliverN n s) := by
  induction n generalizing s with
  | zero => exact EngineOnly.refl s
  | succ n ih =>
    unfold State.deliverN
    split
    · exact EngineOnly.refl s
    · split
      · exact (setEngine_only s _).trans ((writeCompletion_only _ _ _ _ _).trans (ih _))
      · exact EngineOnly.refl s

theorem deliver_only (s : State) : EngineOnly s s.deliver := deliverN_only _ s

theorem raise_only (s : State) (k : CompKind) (u : CompSubject) (d : List Byte) :
    EngineOnly s (s.raise k u d) := by
  unfold State.raise
  split
  · exact (setEngine_only s _).trans (deliver_only _)
  · exact EngineOnly.refl s

/-- An order's execution ends with its completion written at once, with room and no notice waiting,
or held (R170). -/
theorem finish_eq (s : State) (c : Completion) :
    s.finish c =
      if s.engine.room && s.engine.backlog.isEmpty then
        s.endExecution.writeCompletion .engine false c
      else s.setEngine { s.engine with inExec := none, held := some c } := rfl

theorem finish_only (s : State) (c : Completion) : EngineOnly s (s.finish c) := by
  rw [finish_eq]
  split
  · exact (setEngine_only s _).trans (writeCompletion_only _ _ _ _ _)
  · exact setEngine_only s _

theorem writeHeld_only (s : State) : EngineOnly s s.writeHeld := by
  unfold State.writeHeld
  split
  · exact EngineOnly.refl s
  · split
    · exact (setEngine_only s _).trans (writeCompletion_only _ _ _ _ _)
    · exact EngineOnly.refl s

theorem writeAll_only (s : State) (cs : List Completion) : EngineOnly s (s.writeAll cs) := by
  induction cs generalizing s with
  | nil => exact EngineOnly.refl s
  | cons c cs ih => exact (writeCompletion_only s _ _ _ _).trans (ih _)

theorem startFetch_only (s : State) : EngineOnly s s.startFetch := by
  unfold State.startFetch
  split
  · exact (setEngine_only s _).trans (place_only _ _ _ _).engineOnly
  · exact EngineOnly.refl s

theorem endDraining_only (s : State) : EngineOnly s s.endDraining := by
  unfold State.endDraining
  split
  · split
    · exact (setEngine_only s _).trans (writeCompletion_only _ _ _ _ _)
    · exact EngineOnly.refl s
  all_goals exact EngineOnly.refl s

theorem countConsumed_only (s : State) : EngineOnly s s.countConsumed :=
  (setEngine_only s _).trans (place_only _ _ _ _).engineOnly

/-! ## Record writes of a REPORT -/

theorem setSelf_only (s : State) (q : List SelfEntry) (w : List Waiter) :
    EngineOnly s (s.setPort { s.port with selfQ := q, waiters := w }) :=
  ⟨s.engine, q, w, rfl⟩

theorem placeReportN_only (n : Nat) (s : State) : EngineOnly s (State.placeReportN n s) := by
  induction n generalizing s with
  | zero => exact EngineOnly.refl s
  | succ n ih =>
    unfold State.placeReportN
    split
    · split
      · split
        · exact (setSelf_only s _ s.port.waiters).trans ((setEngine_only _ _).trans (ih _))
        · exact setSelf_only s s.port.selfQ _
      · exact EngineOnly.refl s
    all_goals exact EngineOnly.refl s

theorem placeReport_only (s : State) : EngineOnly s s.placeReport := placeReportN_only _ s

theorem placeWaitingN_only (n : Nat) (s : State) : EngineOnly s (State.placeWaitingN n s) := by
  induction n generalizing s with
  | zero => exact EngineOnly.refl s
  | succ n ih =>
    unfold State.placeWaitingN
    split
    · exact EngineOnly.refl s
    · split
      · exact (setSelf_only s _ _).trans (ih _)
      · exact EngineOnly.refl s
    · split
      · split
        · exact (setSelf_only s _ _).trans
            ((setEngine_only _ _).trans ((placeReport_only _).trans (ih _)))
        · exact (setSelf_only s s.port.selfQ _).trans (ih _)
        · exact (setSelf_only s s.port.selfQ _).trans (ih _)
        · exact (setSelf_only s s.port.selfQ _).trans (ih _)
      · exact EngineOnly.refl s

theorem placeWaiting_only (s : State) : EngineOnly s s.placeWaiting := placeWaitingN_only _ s

theorem finishReport_only (s : State) : EngineOnly s s.finishReport := by
  unfold State.finishReport
  split
  · split
    · exact finish_only _ _
    · exact EngineOnly.refl s
  all_goals exact EngineOnly.refl s

theorem reportAnswer_only (s : State) (f : Bool) : EngineOnly s (s.reportAnswer f) := by
  unfold State.reportAnswer
  split
  · exact (setEngine_only s _).trans (finishReport_only _)
  all_goals exact EngineOnly.refl s

end Sys2Proof.Laws
end

