-- ==== Sys2Proof/Laws/Admission.lean ====
section
/-! SUPPORT. What the operations of the admission controller can change (chapter 8). -/

namespace Sys2Proof.Laws

open Sys2Proof Sys2Proof.Machine

/-- Only the endpoints, the directory, the mailbox slots, the challenge counter, the waiting requests,
the order engine's record, the self-traffic queue and its waiters differ. -/
def AdmissionOnly (s u : State) : Prop :=
  u = { s with
    endpoints := u.endpoints, directory := u.directory, mailboxes := u.mailboxes,
    challengeCtr := u.challengeCtr, waiting := u.waiting, engine := u.engine
    port := { s.port with selfQ := u.port.selfQ, waiters := u.port.waiters } }

theorem AdmissionOnly.refl (s : State) : AdmissionOnly s s := rfl

theorem AdmissionOnly.trans {s u v : State} (h : AdmissionOnly s u) (k : AdmissionOnly u v) :
    AdmissionOnly s v := by
  unfold AdmissionOnly at *
  rw [k, h]

theorem EngineOnly.admissionOnly {s u : State} (h : EngineOnly s u) : AdmissionOnly s u := by
  obtain ⟨g, q, w, rfl⟩ := h
  rfl

theorem place_admissionOnly (s : State) (b : Block) (p : Bool) (es : List SelfEntry) :
    AdmissionOnly s (s.place b p es) := (place_only s b p es).engineOnly.admissionOnly

theorem raise_admissionOnly (s : State) (k : CompKind) (u : CompSubject) (d : List Byte) :
    AdmissionOnly s (s.raise k u d) := (raise_only s k u d).admissionOnly

theorem setEp_admissionOnly (s : State) (e : EpNo) (r : EndpointRec) :
    AdmissionOnly s (s.setEp e r) := rfl

theorem setEntry_admissionOnly (s : State) (d : EntryNo) (r : DirEntry) :
    AdmissionOnly s (s.setEntry d r) := rfl

theorem setMbox_admissionOnly (s : State) (m : MboxNo) (r : Mbox) :
    AdmissionOnly s (s.setMbox m r) := rfl

theorem setWaiting_admissionOnly (s : State) (w : List ActRequest) :
    AdmissionOnly s (s.setWaiting w) := rfl

/-- An endpoint that goes OUT (R141). -/
theorem deadmit_only (s : State) (e : EpNo) (r : Reason) : AdmissionOnly s (s.deadmit e r) := by
  unfold State.deadmit
  split
  · exact AdmissionOnly.refl s
  · exact ((setEp_admissionOnly s e _).trans (setEntry_admissionOnly _ _ _)).trans
      (raise_admissionOnly _ _ _ _)

/-- A slot decided (R146). -/
theorem decideSlot_only (s : State) (m : MboxNo) (v : Verdict) : AdmissionOnly s (s.decideSlot m v) :=
  (setMbox_admissionOnly s m _).trans (place_admissionOnly _ _ _ _)

theorem countFailure_only (s : State) (d : EntryNo) : AdmissionOnly s (s.countFailure d) := rfl

theorem countSlotFailure_only (s : State) (m : MboxNo) : AdmissionOnly s (s.countSlotFailure m) := by
  unfold State.countSlotFailure
  split
  · exact AdmissionOnly.refl s
  · exact countFailure_only s _

/-- A slot that goes FREE (R145). -/
theorem freeSlot_only (s : State) (m : MboxNo) : AdmissionOnly s (s.freeSlot m) := by
  unfold State.freeSlot State.clearOwner
  split
  · exact setMbox_admissionOnly s m _
  · exact (setEp_admissionOnly s _ _).trans (setMbox_admissionOnly _ m _)

theorem ageSlot_only (s : State) (m : MboxNo) : AdmissionOnly s (s.ageSlot m) :=
  (setMbox_admissionOnly s m _).trans (place_admissionOnly _ _ _ _)

theorem ageSlots_only (ms : List MboxNo) (s : State) : AdmissionOnly s (s.ageSlots ms) := by
  induction ms generalizing s with
  | nil => exact AdmissionOnly.refl s
  | cons m ms ih => exact (ageSlot_only s m).trans (ih _)

theorem ageRequests_only (s : State) : AdmissionOnly s s.ageRequests :=
  (setWaiting_admissionOnly s _).trans (ageSlots_only _ _)

/-- A check asked for (R83). -/
theorem askCheck_only (s : State) (m : MboxNo) : AdmissionOnly s (s.askCheck m) := by
  unfold State.askCheck
  split
  · exact AdmissionOnly.refl s
  · split
    · dsimp only
      split
      · exact (setWaiting_admissionOnly s _).trans (ageSlot_only _ m)
      · exact setWaiting_admissionOnly s _
    · exact setWaiting_admissionOnly s _

/-- The slot events of R148 to R150. -/
theorem claimEvent_only (s : State) (m : MboxNo) (k : Mark) : AdmissionOnly s (s.claimEvent m k) := by
  unfold State.claimEvent
  split
  · exact ((setMbox_admissionOnly s m _).trans (setEp_admissionOnly _ _ _)).trans
      (place_admissionOnly _ _ _ _)
  · exact AdmissionOnly.refl s

theorem releaseEvent_only (s : State) (m : MboxNo) : AdmissionOnly s (s.releaseEvent m) := by
  unfold State.releaseEvent
  dsimp only
  split
  · exact ((countSlotFailure_only s m).trans (freeSlot_only _ m)).trans (place_admissionOnly _ _ _ _)
  · exact (freeSlot_only s m).trans (place_admissionOnly _ _ _ _)

theorem goRequestEvent_only (s : State) (m : MboxNo) (g : GoCode) :
    AdmissionOnly s (s.goRequestEvent m g) :=
  (setMbox_admissionOnly s m _).trans (place_admissionOnly _ _ _ _)

theorem goAnswerEvent_only (s : State) (m : MboxNo) : AdmissionOnly s (s.goAnswerEvent m) :=
  ((setMbox_admissionOnly s m _).trans (place_admissionOnly _ _ _ _)).trans (askCheck_only _ m)

theorem mailboxEvent_only (s : State) (m : MboxNo) : AdmissionOnly s (s.mailboxEvent m) := by
  have h : AdmissionOnly s (s.clearMark m) := setMbox_admissionOnly s m _
  unfold State.mailboxEvent
  split
  · exact AdmissionOnly.refl s
  · dsimp only
    split
    · exact h.trans (claimEvent_only _ m _)
    · split
      · exact h.trans (releaseEvent_only _ m)
      · exact h
    · split
      · exact h.trans (goRequestEvent_only _ m _)
      · exact h
    · split
      · exact h.trans (goRequestEvent_only _ m _)
      · exact h
    · split
      · exact h.trans (goAnswerEvent_only _ m)
      · exact h

/-- The return of a request self-read (R151, R152). -/
theorem requestReturn_only (s : State) (m : MboxNo) (a : Answer) :
    AdmissionOnly s (s.requestReturn m a) := by
  have h : AdmissionOnly s (s.setMbox m { s.mailboxes[m] with selfRead := false }) :=
    setMbox_admissionOnly s m _
  have resign : ∀ (u : State) (e : EpNo), AdmissionOnly u (u.decideResign m e) := fun u e => by
    unfold State.decideResign
    split
    · exact decideSlot_only u m _
    · exact (deadmit_only u e _).trans (decideSlot_only _ m _)
  have challenge : ∀ (u : State) (d : EntryNo) (r : RequestWords),
      AdmissionOnly u (u.challengeSlot m d r) := fun u d r => by
    have c : AdmissionOnly u { u with challengeCtr := u.challengeCtr + 1#16 } := rfl
    exact (c.trans (setMbox_admissionOnly _ m _)).trans (place_admissionOnly _ _ _ _)
  have owned : ∀ (u : State) (e : EpNo) (r : RequestWords),
      AdmissionOnly u (u.decideAdmit m e r) := fun u e r => by
    unfold State.decideAdmit
    split
    · exact decideSlot_only u m _
    · dsimp only
      split
      · exact decideSlot_only u m _
      · split
        · exact decideSlot_only u m _
        · split
          · exact (setEntry_admissionOnly u _ _).trans (decideSlot_only _ m _)
          · exact (setEntry_admissionOnly u _ _).trans (challenge _ _ _)
  unfold State.requestReturn
  dsimp only
  split
  · exact h
  · split
    · exact h.trans (resign _ _)
    · exact h.trans (owned _ _ _)
    · exact h
    · exact h.trans (decideSlot_only _ m _)
    · exact h

/-- The comparison of a slot (R155). -/
theorem compareSlot_only (s : State) (d : EntryNo) (m : MboxNo) :
    AdmissionOnly s (s.compareSlot d m) := by
  have owned : ∀ (u : State) (e : EpNo), AdmissionOnly u (u.admitOwner m d e) := fun u e => by
    have moved : AdmissionOnly u (match u.directory[d].admittedEp with
        | none => u
        | some o => if o = e then u else u.deadmit o .moved) := by
      split
      · exact AdmissionOnly.refl u
      · split
        · exact AdmissionOnly.refl u
        · exact deadmit_only u _ _
    unfold State.admitOwner
    exact (((moved.trans (setEp_admissionOnly _ _ _)).trans (setEntry_admissionOnly _ _ _)).trans
      (decideSlot_only _ m _)).trans (raise_admissionOnly _ _ _ _)
  unfold State.compareSlot
  dsimp only
  split
  · split
    · exact decideSlot_only s m _
    · split
      · exact decideSlot_only s m _
      · have h := setEntry_admissionOnly s d (s.directory[d].dropEnded s.timer.counter)
        split
        · split
          · exact (h.trans (countFailure_only _ d)).trans (decideSlot_only _ m _)
          · exact (h.trans (countFailure_only _ d)).trans (decideSlot_only _ m _)
        · split
          · exact h.trans (decideSlot_only _ m _)
          · exact h.trans (owned _ _)
  · exact AdmissionOnly.refl s

theorem compareSlots_only (d : EntryNo) (ms : List MboxNo) (s : State) :
    AdmissionOnly s (s.compareSlots d ms) := by
  induction ms generalizing s with
  | nil => exact AdmissionOnly.refl s
  | cons m ms ih => exact (compareSlot_only s d m).trans (ih _)

/-- A slot's check (R133, R156). -/
theorem checkSlot_only (s : State) (m : MboxNo) (n : Word) : AdmissionOnly s (s.checkSlot m n) := by
  unfold State.checkSlot
  split
  · unfold State.expireSlot
    dsimp only
    split
    · exact ((countSlotFailure_only s m).trans (freeSlot_only _ m)).trans
        (place_admissionOnly _ _ _ _)
    · exact (freeSlot_only s m).trans (place_admissionOnly _ _ _ _)
  · exact AdmissionOnly.refl s

/-- A slot whose ADMIT-aged flag is set (R84). -/
theorem ageSlot_mailbox (s : State) (m k : MboxNo) :
    (s.ageSlot m).mailboxes[k] =
      if k = m then { s.mailboxes[m] with aged := true } else s.mailboxes[k] :=
  setMbox_get s m k _

/-- The mirror written with it (R84, R146). -/
theorem ageSlot_port (s : State) (m : MboxNo) :
    (s.ageSlot m).port = s.port.place .admission false
      [selfWrite (s.mboxWord m 5) [mirrorWord s.mailboxes[m].state true] (.mirror m)] := by
  unfold State.ageSlot State.writeMirror State.place State.setPort State.mirrorWrite State.mboxWord
  simp [State.setMbox, State.thePlan]

/-- The slots that age have their flags set, and a mirror each, in the order of the list (R84). -/
theorem ageSlots_spec (ms : List MboxNo) (s : State) :
    (∀ m : MboxNo, (s.ageSlots ms).mailboxes[m] = { s.mailboxes[m] with
      aged := if m ∈ ms then true else s.mailboxes[m].aged })
    ∧ (s.ageSlots ms).port = ms.foldl (fun p m => p.place .admission false
        [selfWrite (s.mboxWord m 5) [mirrorWord s.mailboxes[m].state true] (.mirror m)]) s.port := by
  induction ms generalizing s with
  | nil => exact ⟨fun m => by simp [State.ageSlots], rfl⟩
  | cons m ms ih =>
    obtain ⟨h1, h2⟩ := ih (s.ageSlot m)
    refine ⟨fun k => ?_, ?_⟩
    · rw [State.ageSlots, h1 k, ageSlot_mailbox]
      by_cases h : k = m
      · subst h; simp
      · simp [h]
    · rw [State.ageSlots, h2, ageSlot_port]
      simp only [List.foldl_cons]
      congr 1
      funext p k
      rw [ageSlot_mailbox]
      split
      · rename_i h; subst h; rfl
      · rfl

end Sys2Proof.Laws
end

