-- ==== Sys2Proof/Laws/Tables.lean ====
section
/-! SUPPORT. What the walks over a table and the choice of a first element give. -/

namespace Sys2Proof.Laws

open Sys2Proof Sys2Proof.Machine

/-! ## Tables -/

theorem mapTab_get {α : Type} {n : Nat} (f : α → α) (v : Vector α n) (i : Fin n) :
    (mapTab f v)[i] = f v[i] := by
  simp [mapTab]

theorem mem_idxsFrom {α : Type} {n : Nat} (p : α → Bool) (j : Fin n) :
    ∀ (l : List α) (i : Nat), i + l.length = n →
      (j ∈ idxsFrom n p i l ↔ ∃ k x, l[k]? = some x ∧ j.val = i + k ∧ p x = true)
  | [], i, _ => by simp [idxsFrom]
  | x :: xs, i, h => by
    have hi : i < n := by simp only [List.length_cons] at h; omega
    have ih := mem_idxsFrom p j xs (i + 1) (by simp only [List.length_cons] at h; omega)
    unfold idxsFrom
    rw [dif_pos hi]
    constructor
    · intro hj
      split at hj
      · rcases List.mem_cons.1 hj with rfl | hj
        · exact ⟨0, x, by simp, by simp, by assumption⟩
        · obtain ⟨k, y, h1, h2, h3⟩ := ih.1 hj
          exact ⟨k + 1, y, by simpa using h1, by omega, h3⟩
      · obtain ⟨k, y, h1, h2, h3⟩ := ih.1 hj
        exact ⟨k + 1, y, by simpa using h1, by omega, h3⟩
    · rintro ⟨k, y, h1, h2, h3⟩
      cases k with
      | zero =>
        simp only [List.getElem?_cons_zero, Option.some.injEq] at h1
        subst h1
        rw [if_pos h3]
        exact List.mem_cons.2 (.inl (Fin.ext (by simpa using h2)))
      | succ k =>
        have : j ∈ idxsFrom n p (i + 1) xs :=
          ih.2 ⟨k, y, by simpa using h1, by omega, h3⟩
        split
        · exact List.mem_cons_of_mem _ this
        · exact this

/-- The numbers listed are exactly those of the entries that satisfy the test. -/
theorem mem_tabIdxs {α : Type} {n : Nat} (p : α → Bool) (v : Vector α n) (j : Fin n) :
    j ∈ tabIdxs p v ↔ p v[j] = true := by
  unfold tabIdxs
  rw [mem_idxsFrom p j v.toList 0 (by simp)]
  constructor
  · rintro ⟨k, x, h1, h2, h3⟩
    obtain rfl : j.val = k := by omega
    have : v.toList[j.val]? = some v[j] := by simp
    rw [this] at h1
    cases h1
    exact h3
  · intro h
    exact ⟨j.val, v[j], by simp, by simp, h⟩

theorem idxsFrom_sorted {α : Type} {n : Nat} (p : α → Bool) :
    ∀ (l : List α) (i : Nat), (idxsFrom n p i l).Pairwise (· < ·) ∧ ∀ j ∈ idxsFrom n p i l, i ≤ j.val
  | [], i => by simp [idxsFrom]
  | x :: xs, i => by
    have ih := idxsFrom_sorted p (n := n) xs (i + 1)
    unfold idxsFrom
    split
    · split
      · refine ⟨List.pairwise_cons.2 ⟨fun j hj => ?_, ih.1⟩, fun j hj => ?_⟩
        · have := ih.2 j hj
          exact Fin.lt_def.2 (by simp only; omega)
        · rcases List.mem_cons.1 hj with rfl | hj
          · simp
          · have := ih.2 j hj
            omega
      · exact ⟨ih.1, fun j hj => by have := ih.2 j hj; omega⟩
    · simp

/-- The numbers stand in ascending order. -/
theorem tabIdxs_sorted {α : Type} {n : Nat} (p : α → Bool) (v : Vector α n) :
    (tabIdxs p v).Pairwise (· < ·) :=
  (idxsFrom_sorted p v.toList 0).1

/-! ## First elements -/

theorem firstBy_none {α : Type} (before : α → α → Bool) (l : List α) :
    firstBy before l = none ↔ l = [] := by
  cases l with
  | nil => simp [firstBy]
  | cons x xs =>
    unfold firstBy
    split
    · simp
    · split <;> simp

theorem firstBy_mem {α : Type} (before : α → α → Bool) (l : List α) (a : α)
    (h : firstBy before l = some a) : a ∈ l := by
  induction l generalizing a with
  | nil => simp [firstBy] at h
  | cons x xs ih =>
    unfold firstBy at h
    split at h
    · cases h; simp
    · rename_i y hy
      split at h
      · cases h; exact List.mem_cons_of_mem _ (ih _ hy)
      · cases h; simp

/-- No element comes before the first one, for an order that is asymmetric and whose negation is
transitive. -/
theorem firstBy_le {α : Type} (before : α → α → Bool)
    (asymm : ∀ a b, before a b = true → before b a = false)
    (trans : ∀ a b c, before a b = false → before b c = false → before a c = false)
    (l : List α) (a : α) (h : firstBy before l = some a) : ∀ b ∈ l, before b a = false := by
  have irrefl : ∀ a, before a a = false := fun a => by
    cases h : before a a with
    | false => rfl
    | true => exact (asymm a a h).symm.trans h ▸ rfl
  induction l generalizing a with
  | nil => simp
  | cons x xs ih =>
    intro b hb
    unfold firstBy at h
    split at h
    · rename_i hn
      cases h
      rw [firstBy_none] at hn
      subst hn
      simp only [List.mem_singleton] at hb
      subst hb
      exact irrefl _
    · rename_i y hy
      split at h
      · rename_i hyx
        cases h
        rcases List.mem_cons.1 hb with rfl | hb
        · exact asymm _ _ hyx
        · exact ih _ hy b hb
      · rename_i hyx
        cases h
        rcases List.mem_cons.1 hb with rfl | hb
        · exact irrefl _
        · exact trans _ _ _ (ih _ hy b hb) (by simpa using hyx)

end Sys2Proof.Laws
end

