-- ==== Sys2Proof/Laws/Closing.lean ====
section
/-! SUPPORT. What the end of a call's close, and the retest of the arrival stage, can change. -/

namespace Sys2Proof.Laws

open Sys2Proof Sys2Proof.Machine

/-- Completions written one after another change the producer count and the self traffic alone. -/
theorem writeAll_engine (cs : List Completion) (s : State) :
    (s.writeAll cs).engine = { s.engine with
      completionProducer := s.engine.completionProducer + BitVec.ofNat 16 cs.length } := by
  induction cs generalizing s with
  | nil => simp [State.writeAll]
  | cons c cs ih =>
    unfold State.writeAll
    rw [ih, writeCompletion_engine]
    simp only [List.length_cons, Engine.mk.injEq, true_and, and_true]
    rw [BitVec.add_assoc, Nat.add_comm cs.length 1, BitVec.ofNat_add]

/-- Members that leave a freed call lose the call field of their records and nothing else. -/
theorem clearCalls_spec (ms : List Member) (s : State) :
    s.clearCalls ms = { s with endpoints := (s.clearCalls ms).endpoints }
    ∧ ∀ e : EpNo, (s.clearCalls ms).endpoints[e] =
      if e ∈ ms.map Member.ep then { s.endpoints[e] with call := none } else s.endpoints[e] := by
  induction ms generalizing s with
  | nil => exact ⟨rfl, fun e => by simp [State.clearCalls]⟩
  | cons m ms ih =>
    obtain ⟨h1, h2⟩ := ih (s.setEp m.ep { s.endpoints[m.ep] with call := none })
    refine ⟨h1, fun e => ?_⟩
    have hc : (s.clearCalls (m :: ms)).endpoints[e] =
        ((s.setEp m.ep { s.endpoints[m.ep] with call := none }).clearCalls ms).endpoints[e] := rfl
    rw [hc, h2 e, setEp_get]
    by_cases h : e = m.ep
    · subst h
      simp
    · by_cases h' : e ∈ ms.map Member.ep
      · simp [h, h']
      · simp [h, h']

/-- A freed call's rings go FREE, and no other ring changes. -/
theorem freeOwned_get (c : CallNo) (v : Vector Ring 256) (r : RingNo) :
    (mapTab (freeOwned c) v)[r] = v[r] ∨ (mapTab (freeOwned c) v)[r] = Ring.free := by
  rw [mapTab_get]
  unfold freeOwned
  split
  · split
    · exact .inr rfl
    · exact .inl rfl
  · exact .inl rfl
  · exact .inl rfl

/-- The lane of a freed call changes no record but the lanes. -/
theorem releaseLane_only (s : State) (c : CallNo) :
    s.releaseLane c = { s with lanes := (s.releaseLane c).lanes } := by
  unfold State.releaseLane
  split
  · rfl
  · split <;> rfl

/-- The arrival stage's request stays or moves to the hold queue's tail (R20). -/
theorem retestArrival_hold (s : State) :
    s.retestArrival.port.hold ++ s.retestArrival.port.arrival.toList =
      s.port.hold ++ s.port.arrival.toList := by
  unfold State.retestArrival
  split
  · rfl
  · rename_i a h
    split
    · simp [h]
    · rfl

/-- The retest changes the arrival stage and the hold queue alone. -/
theorem retestArrival_only (s : State) :
    s.retestArrival = { s with port := { s.port with
      arrival := s.retestArrival.port.arrival, hold := s.retestArrival.port.hold } } := by
  unfold State.retestArrival
  split
  · rfl
  · split <;> rfl

end Sys2Proof.Laws
end

