-- ==== Sys2Proof/Laws/Lanes.lean ====
section
/-! SUPPORT. What granting and the upkeep of activation requests can change (chapter 5). -/

namespace Sys2Proof.Laws

open Sys2Proof Sys2Proof.Machine

/-- Only the waiting requests, the window's list, the lanes and the lane fields of calls differ. -/
def LanesOnly (s u : State) : Prop :=
  u = { s with waiting := u.waiting, starts := u.starts, lanes := u.lanes, calls := u.calls }
    ∧ ∀ c : CallNo, u.calls[c] = { s.calls[c] with lane := u.calls[c].lane }

theorem LanesOnly.refl (s : State) : LanesOnly s s := ⟨rfl, fun _ => rfl⟩

theorem LanesOnly.trans {s u v : State} (h : LanesOnly s u) (k : LanesOnly u v) : LanesOnly s v := by
  refine ⟨?_, fun c => ?_⟩
  · rw [k.1, h.1]
  · have h1 := h.2 c
    have h2 := k.2 c
    rw [h2, h1]

theorem setWaiting_lanesOnly (s : State) (w : List ActRequest) : LanesOnly s (s.setWaiting w) :=
  ⟨rfl, fun _ => rfl⟩

theorem setLane_lanesOnly (s : State) (l : LaneNo) (x : Lane) : LanesOnly s (s.setLane l x) :=
  ⟨rfl, fun _ => rfl⟩

theorem setCallLane_lanesOnly (s : State) (c : CallNo) (o : Option LaneNo) :
    LanesOnly s (s.setCall c { s.calls[c] with lane := o }) := by
  refine ⟨rfl, fun c' => ?_⟩
  rw [setCall_get]
  split
  · rename_i h; subst h; rfl
  · rfl

theorem evict_lanesOnly (s : State) (l : LaneNo) : LanesOnly s (s.evict l) := by
  unfold State.evict
  split
  · exact setCallLane_lanesOnly s _ _
  · exact LanesOnly.refl s
  · exact LanesOnly.refl s

theorem addStart_lanesOnly (s : State) (x : List Instant) : LanesOnly s { s with starts := x } :=
  ⟨rfl, fun _ => rfl⟩

theorem start_lanesOnly (s : State) (r : ActRequest) (l : LaneNo) (b : Bool) :
    LanesOnly s (s.start r l b) := by
  unfold State.start
  dsimp only
  have h0 : LanesOnly s { (s.withdraw r.subject) with
      starts := addStart (s.withdraw r.subject).starts (s.withdraw r.subject).now } :=
    (setWaiting_lanesOnly s _).trans (addStart_lanesOnly _ _)
  split
  · exact h0.trans (setLane_lanesOnly _ _ _)
  · have h1 := h0.trans (evict_lanesOnly _ l)
    split
    · exact (h1.trans (setLane_lanesOnly _ l _)).trans (setCallLane_lanesOnly _ _ _)
    · exact h1.trans (setLane_lanesOnly _ l _)

theorem grantN_lanesOnly (n : Nat) (s : State) : LanesOnly s (s.grantN n) := by
  induction n generalizing s with
  | zero => exact LanesOnly.refl s
  | succ n ih =>
    unfold State.grantN
    split
    · split
      · exact LanesOnly.refl s
      · split
        · exact LanesOnly.refl s
        · exact (start_lanesOnly s _ _ _).trans (ih _)
    · exact LanesOnly.refl s

theorem grantAll_lanesOnly (s : State) : LanesOnly s s.grantAll := grantN_lanesOnly _ s

/-- Asking for VOICE activations changes the waiting requests alone. -/
theorem askVoice_eq (cs : List CallNo) (s : State) :
    s.askVoice cs = s.setWaiting (s.askVoice cs).waiting := by
  induction cs generalizing s with
  | nil => rfl
  | cons c cs ih =>
    unfold State.askVoice
    split
    · exact ih s
    · rw [ih]
      rfl

theorem voiceUpkeep_eq (s : State) : s.voiceUpkeep = s.setWaiting s.voiceUpkeep.waiting := by
  unfold State.voiceUpkeep
  dsimp only
  rw [askVoice_eq]
  rfl

theorem voiceUpkeep_lanesOnly (s : State) : LanesOnly s s.voiceUpkeep := by
  rw [voiceUpkeep_eq]
  exact setWaiting_lanesOnly s _

/-- Class decides first, then age, then the subject's number (R87). -/
theorem before_iff (a b : ActRequest) : a.before b = true ↔
    a.cls.rank < b.cls.rank ∨ a.cls.rank = b.cls.rank
      ∧ (a.age < b.age ∨ a.age = b.age ∧ a.subject.rank < b.subject.rank) := by
  unfold ActRequest.before
  split
  · simp only [decide_eq_true_eq, Instant] at *; omega
  · split
    · simp only [decide_eq_true_eq, Instant] at *; omega
    · simp only [decide_eq_true_eq, Instant] at *; omega

theorem before_asymm (a b : ActRequest) (h : a.before b = true) : b.before a = false := by
  rw [← Bool.not_eq_true, before_iff]
  rw [before_iff] at h
  simp only [Instant] at *
  omega

theorem before_trans (a b c : ActRequest) (h : a.before b = false) (k : b.before c = false) :
    a.before c = false := by
  rw [← Bool.not_eq_true, before_iff] at *
  simp only [Instant] at *
  omega

/-- No waiting request that can start comes before the one granted next (R87). -/
theorem nextGrant_first (s : State) (r : ActRequest) (h : s.nextGrant = some r) :
    r ∈ s.waiting ∧ (s.startLane r).isSome = true
      ∧ ∀ r' ∈ s.waiting, (s.startLane r').isSome = true → r'.before r = false := by
  unfold State.nextGrant at h
  have hm := firstBy_mem _ _ _ h
  simp only [List.mem_filter] at hm
  exact ⟨hm.1, hm.2, fun r' h1 h2 =>
    firstBy_le _ before_asymm before_trans _ _ h r' (List.mem_filter.2 ⟨h1, h2⟩)⟩

end Sys2Proof.Laws
end

