-- ==== Sys2Proof/Laws/Reservations.lean ====
section
/-! SUPPORT. What the reservation monitor's operations do (R143, R144), and what sending a request
downstream does besides. -/

namespace Sys2Proof.Laws

open Sys2Proof Sys2Proof.Machine

/-- Only the endpoints' records differ. -/
def EndpointsOnly (s u : State) : Prop := u = { s with endpoints := u.endpoints }

/-- Clearing the fields of holders changes no other record, and of an endpoint's record only the
field. -/
theorem clearFields_spec (l : List Reservation) (s : State) :
    EndpointsOnly s (s.clearFields l)
    ∧ ∀ e : EpNo, (s.clearFields l).endpoints[e] =
      if e ∈ l.map Reservation.ep then { s.endpoints[e] with reservation := none }
      else s.endpoints[e] := by
  induction l generalizing s with
  | nil => exact ⟨rfl, fun e => by simp [State.clearFields]⟩
  | cons r rs ih =>
    obtain ⟨h1, h2⟩ := ih (s.clearReservationField r.ep)
    refine ⟨h1, fun e => ?_⟩
    · have hc : (s.clearFields (r :: rs)).endpoints[e] =
          ((s.clearReservationField r.ep).clearFields rs).endpoints[e] := rfl
      rw [hc, h2 e]
      unfold State.clearReservationField
      rw [setEp_get]
      by_cases h : e = r.ep
      · subst h
        simp
      · by_cases h' : e ∈ rs.map Reservation.ep
        · simp [h, h']
        · simp [h, h']

/-- The reservations that satisfy the test leave the monitor, and their holders' fields are cleared. -/
theorem removeReservations_spec (s : State) (p : Reservation → Bool) :
    (s.removeReservations p).monitor = s.monitor.filter (fun r => !p r)
    ∧ (∀ e : EpNo, (s.removeReservations p).endpoints[e] =
      if e ∈ (s.monitor.filter p).map Reservation.ep then { s.endpoints[e] with reservation := none }
      else s.endpoints[e])
    ∧ s.removeReservations p = { s with
        monitor := s.monitor.filter (fun r => !p r)
        endpoints := (s.removeReservations p).endpoints } := by
  have h := clearFields_spec (s.monitor.filter p)
    { s with monitor := s.monitor.filter fun r => !p r }
  refine ⟨?_, h.2, h.1⟩
  have h1 : s.removeReservations p = _ := h.1
  rw [h1]

theorem mem_writtenWords (ws : List WriteWord) (addr x : Nat) :
    x ∈ writtenWords addr ws ↔ ∃ j w, ws[j]? = some w ∧ w.en ≠ 0#4 ∧ x = addr + j := by
  induction ws generalizing addr with
  | nil => simp [writtenWords]
  | cons w ws ih =>
    have step : x ∈ writtenWords addr (w :: ws) ↔
        (w.en ≠ 0#4 ∧ x = addr) ∨ x ∈ writtenWords (addr + 1) ws := by
      rw [show writtenWords addr (w :: ws) = if w.en = 0#4 then writtenWords (addr + 1) ws
        else addr :: writtenWords (addr + 1) ws from rfl]
      split
      · rename_i h; simp [h]
      · rename_i h; simp [h]
    rw [step, ih]
    constructor
    · rintro (⟨h1, h2⟩ | ⟨j, y, h1, h2, h3⟩)
      · exact ⟨0, w, by simp, h1, by simpa using h2⟩
      · exact ⟨j + 1, y, by simpa using h1, h2, by omega⟩
    · rintro ⟨j, y, h1, h2, h3⟩
      cases j with
      | zero =>
        simp only [List.getElem?_cons_zero, Option.some.injEq] at h1
        subst h1
        exact .inl ⟨h2, by simpa using h3⟩
      | succ j => exact .inr ⟨j, y, by simpa using h1, h2, by omega⟩

/-- A request sent downstream changes the requests awaiting memory, the monitor and the endpoints'
reservation fields, and no other record. -/
theorem send_only (s : State) (r : DsRequest) (src : DsSource) :
    s.send r src = { s with
      monitor := (s.send r src).monitor, endpoints := (s.send r src).endpoints
      port := { s.port with awaiting := s.port.awaiting ++ [{ req := r, src := src }] } } := by
  unfold State.send State.clearByWrite
  split
  · have h := (removeReservations_spec s
      fun x => (writtenWords r.addr r.data).contains x.word).2.2
    rw [h]
    rfl
  · rfl

end Sys2Proof.Laws
end

