-- ==== Sys2Proof/Tests/Slice0.lean ====
section
/-! SUPPORT. Our own tests: the ill-formed commands that WellFormed refuses, values worked out in the
manual's text or by hand from its rules, and for every statement with hypotheses a concrete state and
operands that meet them (witness_<name>), clause by clause, at boundary values where clauses meet. -/

namespace Sys2Proof.Tests

open Sys2Proof Sys2Proof.Machine

-- One theorem after another: tests that wait in parallel for the kernel each hold a thread's stack.
set_option Elab.async false

/-! ## Well-formedness: each check refuses an ill-formed command -/

theorem test_read_of_no_word_refused : (Instr.read 0 0 0 0).wellFormed = false := by decide
theorem test_read_of_17_words_refused : (Instr.read 0 0 0 17).wellFormed = false := by decide
theorem test_read_of_16_words_accepted : (Instr.read 0 0 0 16).wellFormed = true := by decide
theorem test_read_reserve_of_no_word_refused :
    (Instr.readReserve 0 0 0 0).wellFormed = false := by decide
theorem test_write_of_no_word_refused : (Instr.write 0 0 0 []).wellFormed = false := by decide
theorem test_write_if_reserved_of_17_words_refused :
    (Instr.writeIfReserved 0 0 0 (List.replicate 17 default)).wellFormed = false := by decide
theorem test_answers_of_17_words_refused :
    (Instr.memoryAnswer 0 0 (.ok (List.replicate 17 0))).wellFormed = false
    ∧ (Instr.anchorSelfReadReturn 0 (.ok (List.replicate 17 0))).wellFormed = false
    ∧ (Instr.requestSelfReadReturn 0 0 (.ok (List.replicate 17 0))).wellFormed = false
    ∧ (Instr.answerSelfReadReturn 0 0 (.ok (List.replicate 17 0))).wellFormed = false
    ∧ (Instr.unplannedEntry 0 (.ok (List.replicate 17 0))).wellFormed = false := by decide

/-! ## Worked examples of the manual (chapter 4, chapter 10) -/

/-- The key of the manual's worked examples (4.9). -/
def key0 : Key := { k0 := 0x1234#16, k1 := 0x00FF#16, k2 := 0x0101#16, k3 := 0x0003#16 }

theorem test_sample_output : sampleOut key0 2#32 5 3 = 0x57CD#16 := by decide
theorem test_scramble_1000 :
    scramble key0 2#32 5 3 1000#16 = 0x5BB5#16
    ∧ descramble key0 2#32 5 3 0x5BB5#16 = 1000#16 := by decide
theorem test_scramble_wraps :
    scramble key0 2#32 5 3 45536#16 = 0x09AD#16
    ∧ descramble key0 2#32 5 3 0x09AD#16 = 45536#16 := by decide
theorem test_permutation :
    (List.range 8).map (segPlace key0 2#32 5) = [1, 3, 7, 6, 0, 4, 5, 2] := by decide +kernel
theorem test_equal_values_rank :
    (List.range 8).map (rankOf fun s =>
      [700#16, 200#16, 700#16, 50#16, 900#16, 200#16, 300#16, 700#16].getD s 0#16)
      = [4, 1, 5, 0, 7, 2, 3, 6] := by decide +kernel
theorem test_comfort_levels :
    comfortSample key0 2#32 3 3 = 0xFFC4#16
    ∧ (comfortSample key0 2#32 3 7).toInt = -948
    ∧ comfortSample key0 2#32 3 0 = 0#16 := by decide
theorem test_comfort_scrambled : scramble key0 2#32 5 3 (comfortSample key0 2#32 3 3) = 0x5791#16 := by
  decide
theorem test_next_key :
    deriveKey key0 0#16
      = { k0 := 0x7A2C#16, k1 := 0xB6E3#16, k2 := 0xEE66#16, k3 := 0xA29C#16 } := by decide
/-- The counters of epoch 65,535 are 65,368 and up (R74). -/
theorem test_next_key_counter_wraps :
    (deriveKey key0 65535#16).k0 = gen key0 65368#16 rekeyDomain := by decide

/-- The directory secret of the manual's worked admission (8, 4.8). -/
def secret0 : Key := { k0 := 0x2222#16, k1 := 0x0000#16, k2 := 0x0001#16, k3 := 0x0001#16 }

theorem test_expected_answer : expectedAnswer secret0 100#16 = (0x94E5#16, 0x9C7D#16) := by decide
/-- The second counter of challenge 65,535 is 0 (R75). -/
theorem test_expected_answer_wraps :
    (expectedAnswer secret0 65535#16).2 = gen secret0 0#16 answerDomain := by decide

/-! ## States that the tests start from -/

/-- The plan of the manual's worked example (chapter 1). -/
def plan0 : Plan :=
  { voiceBase := 0x100000, mailboxBase := 0x150000, orderBase := 0x150800,
    completionBase := 0x150C40, control := [40, 41], source := .external, period := 20000,
    tAw := 20, challengeLimit := 50, lockout := 3000, rekeyInterval := 1024,
    challengeStart := 100#16 }

/-- The record of that plan with a given COMPLETION base (10.2). -/
def record0 (completion : Word) : List Word :=
  [0#32, 0x00100000#32, 0x00150000#32, 0x00150800#32, completion, 0x00290028#32, 0xFFFFFFFF#32,
   0x00641402#32, 20000#32, 0x04000BB8#32, 50#32, 0#32, 0#32, 0#32, 0#32, 0x7A526120#32]

/-- The part PLANNED under that plan, the anchor at 0x03000000, tick 2,000. Endpoint 100 is an admitted
STATION of byte order BE, 130 a TRUNK, 144 a STATION. -/
def up : State :=
  { State.reset with
    anchorSel := 3#8, bootEp := 40, part := .planned, plan := some plan0
    timer := { (Timer.reset.taking plan0 0) with counter := 2000#32 }
    endpoints := (((State.reset.endpoints.set 40 { EndpointRec.reset with role := .control }).set 100
      { EndpointRec.reset with role := .station, admitted := some 1, bigEndian := true }).set 130
      { EndpointRec.reset with role := .trunk }).set 144
      { EndpointRec.reset with role := .station } }

/-- The state that a command leaves. -/
def after (c : Instr) (s : State) : State :=
  match exec c s with
  | .next u => u
  | .fault _ => s
  | .refused _ => s

/-- An accepted request. -/
def accept (kind : ReqKind) (ep : EpNo) (addr : WordAddr) (len : Nat) (data : List WriteWord)
    (s : State) : Accepted :=
  s.accepted 7 { kind := kind, ep := ep, addr := addr, len := len, data := data }

/-- The state with a request in the arrival stage. -/
def arriving (a : Accepted) (s : State) : State :=
  s.setPort { s.port with
    arrival := some a, responses := [{ id := a.id, ep := a.req.ep, response := none }] }

/-- The state with one request that awaits memory. -/
def awaits (kind : ReqKind) (len : Nat) (src : DsSource) (s : State) : State :=
  s.setPort { s.port with
    awaiting := [{ req := { kind := kind, addr := 0, len := len, tag := 0, data := [] }, src := src }] }

/-- The downstream request that the state awaits keeps. -/
def awaited (kind : ReqKind) (len : Nat) : DsRequest :=
  { kind := kind, addr := 0, len := len, tag := 0, data := [] }

/-- The state with an order's fetch outstanding; its sequence number is 5. -/
def fetching (s : State) : State :=
  (s.setEngine { s.engine with
    orderProducer := 6#16, orderConsumed := 5#16
    inExec := some { seq := 5#16, phase := .fetching } }).setPort { s.port with
    awaiting := [{ req := { kind := .read, addr := 0, len := 8, tag := 1023, data := [] }
                   src := .self .orderFetch }] }

/-- The state with the completion ring full: 64 completions not consumed. -/
def full (s : State) : State :=
  s.setEngine { s.engine with completionProducer := 130#16, completionConsumer := 66#16 }

/-- A ring as in the manual's worked frame (chapter 3): frames 0 and 1 full, frame 2 just opened. -/
def ring0 (e : EpNo) : Ring :=
  { state := .owned 3 e, count := 0,
    slots := #v[some { frame := 0#32, tag := 0#16, fill := 0xFF#8 },
      some { frame := 1#32, tag := 0#16, fill := 0xFF#8 },
      some { frame := 2#32, tag := 0#16, fill := 0#8 }, none] }

/-- Call 3 of that example: members 100 (ring 5) and 130 (ring 6), frame 2, epoch 0, lane 0. -/
def call0 : Call :=
  { Call.free with
    state := .opened, members := [{ ep := 100, ring := 5 }, { ep := 130, ring := 6 }]
    frame := 2#32, key := some key0, countdown := 16, comfort := 3, lane := some 0 }

/-- The part with that call OPEN and its lane READY. -/
def talk : State :=
  { up with
    calls := up.calls.set 3 call0
    rings := (up.rings.set 5 (ring0 100)).set 6 (ring0 130)
    endpoints := (up.endpoints.set 100 { up.endpoints[(100 : EpNo)] with call := some 3 }).set 130
      { up.endpoints[(130 : EpNo)] with call := some 3 }
    lanes := up.lanes.set 0 { Lane.reset with
      state := .ready, subject := some (.call 3), keys := call0.laneKeys } }

/-- The state with another record for call 3. -/
def withCall (c : Call) (s : State) : State := s.setCall 3 c

/-- A data word with every enable set. -/
def word (w : Word) : WriteWord := { data := w, en := 0xF#4 }

/-- Endpoint 100's write of 16 words at VOICE base + 7,040; sample 3 is the bytes 03 E8. -/
def voiceWrite : Accepted :=
  accept .write 100 263904 16 (word 0#32 :: word 0xE8030000#32 :: List.replicate 14 (word 0#32)) talk

/-! ## The manual's worked examples, one event each -/

/-- The first record of the example fails ALIGNMENT, the second passes (chapter 1). -/
theorem test_first_plan_refused :
    (planFields (record0 0x00150C20#32)).check 0x03000000 = some .alignment
    ∧ (planFields (record0 0x00150C40#32)).check 0x03000000 = none
    ∧ (planFields (record0 0x00150C40#32)).plan = plan0 := by decide

/-- The areas of the example end where the manual says: 0x14FFFF, 0x1507FF, 0x150C3F, 0x15107F. -/
theorem test_regions_of_the_plan :
    [0x0FFFFC, 0x100000, 0x14FFFC, 0x150000, 0x1507FC, 0x150800, 0x150C3C, 0x150C40, 0x15107C,
      0x151080, 0x03000000, 0x0300003C, 0x03000040].map (fun b => up.regionAt (b / 4))
      = [.openMem, .voice, .voice, .mailbox, .mailbox, .order, .order, .completion, .completion,
        .openMem, .anchor, .anchor, .openMem] := by decide

/-- Endpoint 12's read at 0x150C40 is refused FOREIGN, at 0x151080 it passes; endpoint 41's write of the
plan status word is refused FOREIGN (chapter 1). -/
theorem test_rights_after_the_taking :
    up.arrivalRefusal (accept .read 12 0x54310 1 [] up) = some .foreign
    ∧ up.arrivalRefusal (accept .read 12 0x54420 1 [] up) = none
    ∧ up.arrivalRefusal (accept .write 40 0xC00000 1 [word 0#32] up) = some .foreign := by
  decide +kernel

/-- The pieces of the worked frame: at VOICE base + 7,080 and 7,160, 10 words each, in that order. -/
theorem test_pieces_of_the_worked_write :
    ((after (.transformEntry 9) (arriving voiceWrite talk)).port.xforms.map fun x =>
      x.pieces.map fun p => (4 * p.addr, p.len)) = [[(0x100000 + 7080, 10), (0x100000 + 7160, 10)]] := by
  decide +kernel

/-- Sample 3 is stored as 0x5BB5, in the upper half of word 1 of the first piece; the second piece is
widened, so its last word carries both samples. -/
theorem test_data_of_the_worked_write :
    ((after (.transformEntry 9) (arriving voiceWrite talk)).port.xforms.flatMap fun x =>
      x.pieces.map fun p => (p.data[1]?.map fun w => wordHalf w 1, p.data[9]?.map WriteWord.en))
      = [(some 0x5BB5#16, some 0xF#4), (some (scramble key0 2#32 5 23 0#16), some 0xF#4)] := by
  decide +kernel

/-- With every place of the run count's table: at 3 the self-traffic entry is granted (chapter 2). -/
theorem test_run_count_at_3 :
    let s := (arriving (accept .read 12 0x54420 1 [] up) up).setPort
      { (arriving (accept .read 12 0x54420 1 [] up) up).port with
        selfQ := [selfRead 0 8 .orderFetch], runCount := 3 }
    (after (.downstreamGrant 9) s).port.runCount = 0
    ∧ (after (.downstreamGrant 9) s).port.awaiting.map (fun w => w.req.tag) = [1023] := by
  decide +kernel

theorem test_run_count_below_3 :
    let s := (arriving (accept .read 12 0x54420 1 [] up) up).setPort
      { (arriving (accept .read 12 0x54420 1 [] up) up).port with
        selfQ := [selfRead 0 8 .orderFetch], runCount := 2 }
    (after (.downstreamGrant 9) s).port.runCount = 3
    ∧ (after (.downstreamGrant 9) s).port.awaiting.map (fun w => w.req.tag) = [12] := by
  decide +kernel

/-- OPEN-CALL of call 12 gives the lowest FREE rings, here 0 and 1, with slot 0 opened (chapter 6). -/
theorem test_open_call :
    let u := after (.openCall 9 12#16 2#8 3#8 100#16 130#16 0#16 0#16 key0) (fetching up)
    u.calls[(12 : CallNo)].members = [{ ep := 100, ring := 0 }, { ep := 130, ring := 1 }]
    ∧ u.calls[(12 : CallNo)].countdown = 1024 ∧ u.engine.completionProducer = 1#16
    ∧ u.freeRings.length = 254 := by decide +kernel

/-- The visit to frame 3 opens slot 3 of the call's rings; that to frame 4 counts the short frame of
frame 2 (chapter 3). -/
theorem test_visit_counts_short_frame :
    let s := (talk.setCall 3 { call0 with frame := 3#32 }).setTimer
      { talk.timer with pass := some { number := 2001#32, pos := .calls none } }
    (after (.visit 9) s).endpoints[(100 : EpNo)].shortFrames = 1
    ∧ (after (.visit 9) s).calls[(3 : CallNo)].frame = 4#32
    ∧ (after (.visit 9) s).rings[(5 : RingNo)].slots[0]
      = some { frame := 4#32, tag := 0#16, fill := 0#8 } := by decide +kernel

/-- Guard 30,000 µs after an edge; an edge 4,000 µs after the last tick regains without a tick, one
15,000 µs after it ticks (chapter 7). -/
theorem test_regaining_edge :
    let s := up.setTimer { up.timer with
      state := .externalLost, lastTick := 110000000, counter := 106#32, nextExpiry := some 130000000 }
    (after (.fsyncEdge 114000000) s).timer.counter = 106#32
    ∧ (after (.fsyncEdge 114000000) s).timer.nextExpiry = some 144000000
    ∧ (after (.fsyncEdge 125000000) s).timer.counter = 107#32
    ∧ (after (.fsyncEdge 125000000) s).timer.nextExpiry = some 155000000 := by decide +kernel

/-- Call 22's VOICE request precedes entry 902's older ADMIT request when the start at 0 leaves the
window, and takes the lowest EMPTY lane, 1 (chapter 5). -/
theorem test_window_leave_grants_voice_first :
    let a := { accept .read 100 263904 1 [] talk with id := 3 }
    let s := { (talk.setPort { talk.port with hold := [a] }).setCall 3 { call0 with lane := none } with
      now := 12000, starts := [0, 2000, 4000, 6000]
      lanes := (Vector.replicate 8 Lane.reset).set 0 { Lane.reset with state := .ready, count := 1 }
      waiting := [
        { subject := .entry 902, cls := .admit_, age := 9000, derive_ := false, slots := [9],
          askTick := 2000#32 },
        { subject := .call 3, cls := .voice, age := 12000, derive_ := false, slots := [],
          askTick := 0#32 }] }
    let u := after .activationWindowLeave s
    u.now = 20000 ∧ u.starts = [2000, 4000, 6000, 20000]
    ∧ u.lanes[(1 : LaneNo)].subject = some (.call 3)
    ∧ u.waiting.map ActRequest.subject = [.entry 902] := by decide +kernel

/-- The worked admission: slot 5, challenge 100, answer 0x94E5, 0x9C7D, entry 900 (chapter 8). -/
def admission : State :=
  { up with
    directory := up.directory.set 900
      { DirEntry.reset with enabled := true, number := 4417200, secret := secret0 }
    mailboxes := up.mailboxes.set 5
      { Mbox.free with
        state := .answered, owner := some 144, goCode := some .admit_, entry := some 900,
        number := some 4417200, bigEndian := some true, challenge := some 100#16,
        answer := some (0x94E5#16, 0x9C7D#16) }
    endpoints := up.endpoints.set 144 { up.endpoints[(144 : EpNo)] with slot := some 5 }
    lanes := up.lanes.set 2
      { Lane.reset with
        state := .expanding, subject := some (.entry 900)
        expansion := some { start := 0, finish := 1500, derives := false, slots := [5] } } }

theorem test_worked_admission :
    let u := after (.entryActivationCompletion 2) admission
    u.endpoints[(144 : EpNo)].admitted = some 900 ∧ u.endpoints[(144 : EpNo)].bigEndian = true
    ∧ u.directory[(900 : EntryNo)].admittedEp = some 144
    ∧ u.mailboxes[(5 : MboxNo)].verdict = some { code := .admitted, detail := 900#32 }
    ∧ u.mailboxes[(5 : MboxNo)].deadline = some 2050#32
    ∧ u.engine.completionProducer = 1#16 ∧ u.alert = true := by decide +kernel

/-- A wrong answer counts one failure; the third locks the entry for 3,000 ticks (chapter 8). -/
theorem test_wrong_answers :
    let wrong := fun (n : Nat) => (admission.setMbox 5 { admission.mailboxes[(5 : MboxNo)] with
      answer := some (0x94E5#16, 0#16) }).setEntry 900 { admission.directory[(900 : EntryNo)] with
        fails := n }
    (after (.entryActivationCompletion 2) (wrong 0)).mailboxes[(5 : MboxNo)].verdict
      = some { code := .wrong, detail := 1#32 }
    ∧ (after (.entryActivationCompletion 2) (wrong 2)).mailboxes[(5 : MboxNo)].verdict
      = some { code := .locked, detail := 3000#32 }
    ∧ (after (.entryActivationCompletion 2) (wrong 2)).directory[(900 : EntryNo)].lock
      = some 5000#32 := by decide +kernel

/-- Making room in the full ring delivers SLIP and DEADMITTED and then the held completion, and the
next fetch starts (chapter 9). -/
theorem test_full_ring_drained :
    let s := (awaits .write 1 (.forwarded { (accept .write 40 0 1 [word 70#32] up) with
      watch := some (.completionCount 70#16) }) (full up)).setEngine
      { (full up).engine with
        orderProducer := 23#16, orderConsumed := 21#16
        held := some (orderCompletion 20#16 .done (.call 5#16) [])
        backlog := [{ kind := .slip, subject := .none, data := [], repeats := 2 },
          { kind := .deadmitted, subject := .endpoint 144#16, data := [1#8], repeats := 1 }] }
    let u := after (.completionConsumerCountWrite 9 0) s
    u.engine.completionProducer = 133#16 ∧ u.engine.completionConsumer = 70#16
    ∧ u.engine.backlog = [] ∧ u.engine.held = none
    ∧ u.engine.inExec = some { seq := 21#16, phase := .fetching } ∧ u.alert = true
    ∧ (full up).countOutOfRange { (accept .write 40 0 1 [word 140#32] up) with
        watch := some (.completionCount 140#16) } = true := by decide +kernel

/-! ## Witnesses: the queue, reset and regions -/

theorem witness_FrontCommandRuns : up.pending = [] := rfl

/-- The part with RESET_N low. -/
def low : State := { up with resetLow := true }

theorem witness_ResetEmptiesTheTables :
    low.resetLow = true
    ∧ Offers (.read 9 40 0 1) 9 { kind := .read, ep := 40, addr := 0, len := 1, data := [] } :=
  ⟨rfl, .read 9 40 0 1⟩

theorem witness_StrapsHeldBetweenResets :
    (∃ u, exec (.admitAging 9) up = .next u) ∧ (∀ a b, Instr.admitAging 9 ≠ .resetNRise a b)
    ∧ Instr.admitAging 9 ≠ .hardReset :=
  ⟨⟨_, rfl⟩, by simp, by simp⟩

theorem witness_SettleKeeps :
    talk.calls[(3 : CallNo)].state = .opened ∧ talk.calls[(2 : CallNo)].state = .free := by
  decide +kernel

theorem witness_RegionsByAddress :
    up.plan = some plan0 ∧ anyMeet (planAreas plan0 up.anchorByte) = false := by decide +kernel

/-- Roles CONTROL (40), STATION without and with a slot (144), TRUNK (130) and UNUSED (12); offsets at
both sides of each limit, and the last word of MAILBOX. -/
theorem witness_RightsOfRoles :
    up.endpoints[(40 : EpNo)].role = .control ∧ up.endpoints[(144 : EpNo)].role = .station
    ∧ up.endpoints[(130 : EpNo)].role = .trunk ∧ up.endpoints[(12 : EpNo)].role = .unused
    ∧ up.mayAccess 130 false .order 0 = false ∧ up.mayAccess 12 false .anchor 0 = false
    ∧ up.mayAccess 40 true .order 256 = true ∧ up.mayAccess 40 true .order 257 = false
    ∧ up.mayAccess 40 true .completion 257 = true ∧ up.mayAccess 40 true .completion 258 = false
    ∧ up.mayAccess 40 true .anchor 0 = false ∧ up.mayAccess 40 true .anchor 1 = true
    ∧ up.mayAccess 144 true .mailbox 496 = true ∧ up.mayAccess 144 true .mailbox 511 = false
    ∧ admission.mayAccess 144 true .mailbox 95 = true
    ∧ admission.mayAccess 144 true .mailbox 97 = false := by decide +kernel

/-! ## Witnesses: arrival -/

theorem witness_ArrivalChecksInOrder_shape :
    State.reset.hasPlan = false ∧ up.hasPlan = true
    -- the last word is 2^30, one past the top
    ∧ 1073741824 ≤ (1073741823#30).toNat + 2 - 1
    -- the last word of VOICE and the first after it
    ∧ up.regionAt (0x14FFFC / 4) ≠ up.regionAt (0x14FFFC / 4 + 1) := by decide +kernel

/-- A READ-RESERVE of two claim words; a station's burst whose last word is ORDER's; each VOICE check,
from words 319 and 320 of a ring on; and one that passes. -/
theorem witness_ArrivalChecksInOrder_kinds :
    (accept .readReserve 144 0x54000 2 [] up).region = .mailbox
    ∧ (accept .read 144 0x54200 1 [] up).region.isControl = true
    ∧ up.mayAccess 144 false .order 0 = false
    ∧ (accept .read 144 (262144 + 319) 2 [] up).region = .voice
    ∧ (accept .read 144 (262144 + 319) 2 [] up).off / 320
      ≠ ((accept .read 144 (262144 + 319) 2 [] up).off + 2 - 1) / 320
    ∧ up.arrivalRefusal (accept .read 144 (262144 + 319) 2 [] up) = some .shape
    ∧ up.arrivalRefusal (accept .readReserve 144 262144 1 [] up) = some .shape
    ∧ up.arrivalRefusal (accept .write 40 262144 1 [word 0#32] up) = some .foreign
    ∧ up.arrivalRefusal (accept .write 144 262144 1 [{ data := 0#32, en := 0b0111#4 }] up)
      = some .partialSample
    ∧ up.arrivalRefusal (accept .write 144 262144 1 [{ data := 0#32, en := 0b0011#4 }] up)
      = none := by decide +kernel

/-- Producer counts 32 and 33 ahead, and consumer counts 64 and 65 ahead of a full ring. -/
theorem witness_ArrivalChecksInOrder_counts :
    (accept .write 40 (0x54200 + 256) 1 [word 32#32] up).watch = some (.orderCount 32#16)
    ∧ up.arrivalRefusal (accept .write 40 (0x54200 + 256) 1 [word 32#32] up) = none
    ∧ up.arrivalRefusal (accept .write 40 (0x54200 + 256) 1 [word 33#32] up) = some .window
    ∧ (accept .write 40 (0x54310 + 257) 1 [word 130#32] (full up)).watch
      = some (.completionCount 130#16)
    ∧ (full up).arrivalRefusal (accept .write 40 (0x54310 + 257) 1 [word 130#32] (full up)) = none
    ∧ (full up).arrivalRefusal (accept .write 40 (0x54310 + 257) 1 [word 131#32] (full up))
      = some .window
    ∧ (accept .read 12 0x54420 1 [] up).region = .openMem := by decide +kernel

/-- Requests to each control region that no check refuses: a claim word, a plan status word, the counts read,
and a consumer count written without all four enables. -/
theorem witness_ArrivalChecksInOrder_allowed :
    let half : WriteWord := { data := 1#32, en := 0b0111#4 }
    let as := [accept .read 144 0x54000 1 [] up, accept .read 40 0xC00000 16 [] up,
      accept .read 40 (0x54200 + 256) 2 [] up, accept .write 40 (0x54310 + 257) 1 [half] up]
    as.map Accepted.region = [.mailbox, .anchor, .order, .completion]
    ∧ as.map Accepted.watch = [none, none, none, none]
    ∧ (as.map fun a => up.arrivalRefusal a) = [none, none, none, none]
    ∧ up.mayAccess 144 false .mailbox 0 = true ∧ (∀ k < 16, up.mayAccess 40 false .anchor k = true)
    ∧ up.mayAccess 40 false .order 257 = true ∧ up.mayAccess 40 true .completion 257 = true := by
  decide +kernel

/-- The signature written last, one word before it, and in UNPLANNED by BOOT_EP past the anchor and by
another endpoint. -/
theorem witness_ArrivalChecksInOrder_watch :
    let bare : State := { State.reset with anchorSel := 3#8, bootEp := 40 }
    let sig := word 0x7A526120#32
    (accept .write 40 0xC0000E 2 [word 0#32, sig] up).watch = some .signature
    ∧ (accept .write 40 0xC0000E 1 [sig] up).watch = none
    ∧ (accept .write 40 0xC0000F 2 [sig, word 0#32] bare).watch = some .signature
    ∧ (accept .write 41 0xC0000F 1 [sig] bare).watch = none := by decide +kernel

theorem witness_RequestAcceptedRefusedOrKeptBack :
    Offers (.write 9 12 0x54420 [word 0#32]) 9
      { kind := .write, ep := 12, addr := 0x54420, len := 1, data := [word 0#32] }
    ∧ (up.resetLow = false ∧ up.port.arrival = none ∧ up.port.hold.length < 16
      ∧ up.port.responses.length < 32
      ∧ up.arrivalRefusal (up.accepted up.port.nextId
          { kind := .write, ep := 12, addr := 0x54420, len := 1, data := [word 0#32] }) = none)
    ∧ (arriving (accept .read 12 0x54420 1 [] up) up).port.arrival ≠ none :=
  ⟨.write 9 12 0x54420 [word 0#32], by decide +kernel, by decide +kernel⟩

theorem witness_RequestAcceptedRefusedOrKeptBack_refused :
    Offers (.readReserve 9 144 262144 16) 9
      { kind := .readReserve, ep := 144, addr := 262144, len := 16, data := [] }
    ∧ up.accepts = true
    ∧ up.arrivalRefusal (up.accepted up.port.nextId
        { kind := .readReserve, ep := 144, addr := 262144, len := 16, data := [] }) = some .shape :=
  ⟨.readReserve 9 144 262144 16, by decide +kernel, by decide +kernel⟩

/-- Endpoint 130's read of 10 words of ring 5, stored segment 0 (chapter 3). -/
def voiceRead : Accepted := accept .read 130 263904 10 [] talk

/-- Call 3 without its lane. -/
def unlaned : State :=
  (talk.setCall 3 { call0 with lane := none }).setLane 0 Lane.reset

/-- A request stands in the arrival stage after settle, one may enter, and none may: every place is
taken, or the lane is not READY. -/
theorem witness_HeldAndEnteredInOrder :
    (arriving voiceRead talk).settle.port.arrival = some voiceRead
    ∧ talk.memberCall voiceRead = some 3
    ∧ (arriving voiceRead talk).nextEntry = some voiceRead
    ∧ (arriving voiceRead unlaned).nextEntry = none
    ∧ (arriving voiceRead unlaned).settle.port.hold = [voiceRead]
    ∧ (talk.eligible voiceRead = true ∧ unlaned.eligible voiceRead = false)
    ∧ 1 ≤ voiceRead.req.len ∧ voiceRead.req.len ≤ 16
    ∧ voiceRead.arrivalCall = some 3 ∧ (accept .read 75 263904 1 [] talk).arrivalCall = none
    -- words 79 and 80 of a slot
    ∧ (accept .read 130 (263744 + 79) 1 [] talk).touched = [263744]
    ∧ (accept .read 130 (263744 + 79) 2 [] talk).touched = [263744, 263824] := by decide +kernel

/-! ## Witnesses: the transform unit -/

/-- Endpoint 75, which is in no call, reads and writes ring 5. -/
theorem witness_NonMemberEntry :
    let r := accept .read 75 263914 4 [] talk
    let w := accept .write 75 263914 1 [word 0#32] talk
    let c := { r with closedUnder := true }
    ((arriving r talk).nextEntry = some r ∧ r.closedUnder = false
      ∧ (arriving r talk).memberCall r = none ∧ r.req.kind = .read)
    ∧ ((arriving w talk).nextEntry = some w ∧ w.closedUnder = false
      ∧ (arriving w talk).memberCall w = none ∧ w.req.kind = .write)
    ∧ ((arriving c talk).nextEntry = some c ∧ c.closedUnder = true) := by decide +kernel

/-- The hypotheses that every clause of MemberWriteEntry has. -/
def writesAsMember (a : Accepted) : Bool :=
  decide ((arriving a talk).nextEntry = some a) && !a.closedUnder
    && decide ((arriving a talk).memberCall a = some 3)
    && decide ((arriving a talk).readyLane 3 = some 0) && decide (a.req.kind = .write)

/-- The partner's ring; words 79 and 80 of a slot; slot 3, EMPTY; slot 0, of frame W − 2; the late slot
and the current one. -/
theorem witness_MemberWriteEntry :
    let foreign := accept .write 130 263904 1 [word 0#32] talk
    let cross := accept .write 100 (263744 + 79) 2 [word 0#32, word 0#32] talk
    let empty := accept .write 100 (263744 + 240) 1 [word 0#32] talk
    let old := accept .write 100 263744 1 [word 0#32] talk
    let late := accept .write 100 (263744 + 159) 1 [word 0#32] talk
    [foreign, cross, empty, old, late, voiceWrite].map writesAsMember
      = [true, true, true, true, true, true]
    ∧ talk.rings[foreign.ring].state ≠ .owned 3 130
    ∧ talk.rings[cross.ring].state = .owned 3 100
    ∧ slotOfWord (cross.ringWord + cross.req.len - 1) ≠ slotOfWord cross.ringWord
    ∧ talk.rings[empty.ring].slots[slotOfWord empty.ringWord] = none
    ∧ talk.rings[old.ring].slots[slotOfWord old.ringWord]
      = some { frame := 0#32, tag := 0#16, fill := 0xFF#8 }
    ∧ talk.rings[late.ring].slots[slotOfWord late.ringWord]
      = some { frame := 1#32, tag := 0#16, fill := 0xFF#8 }
    ∧ slotOfWord (late.ringWord + late.req.len - 1) = slotOfWord late.ringWord
    ∧ talk.rings[voiceWrite.ring].slots[slotOfWord voiceWrite.ringWord]
      = some { frame := 2#32, tag := 0#16, fill := 0#8 }
    ∧ slotOfWord (voiceWrite.ringWord + 16 - 1) = slotOfWord voiceWrite.ringWord
    ∧ talk.calls[(3 : CallNo)].frame = 2#32
    ∧ talk.lanes[(0 : LaneNo)].keys.forTag 0#16 = some key0
    ∧ talk.lanes[(0 : LaneNo)].keys.forTag 1#16 = none
    ∧ (LaneKeys.mk (some key0) (some secret0) (some 0#16) none none).forTag 65535#16 = some key0 := by
  decide +kernel

/-- What the worked write takes at its entry. -/
def taken0 : WriteTaken := { bigEndian := true, frame := 2#32, key := key0, ring := 5, level := 3 }

/-- The worked write, and the words that it writes: word 15, its last, lies in segment 1. -/
theorem witness_WritePiecesCarryTheSamples :
    1 ≤ voiceWrite.req.len ∧ voiceWrite.req.data.length = voiceWrite.req.len
    ∧ taken0.ring = voiceWrite.ring
    ∧ slotOfWord (voiceWrite.ringWord + voiceWrite.req.len - 1) = slotOfWord voiceWrite.ringWord
    ∧ voiceWrite.ringWord + voiceWrite.req.len ≤ 320
    -- the worked write's offset, and the first word of its ring 5
    ∧ voiceWrite.off < 81920 ∧ voiceWrite.off ≤ voiceWrite.req.addr.toNat
    ∧ voiceWrite.off = 320 * 5 + 160 ∧ voiceWrite.ringWord = 160
    ∧ (slotOfWord 79).val = 0 ∧ (slotOfWord 80).val = 1 ∧ (slotOfWord 319).val = 3
    ∧ voiceWrite.req.data[15]? = some (word 0#32)
    ∧ (word 0#32).en.getLsbD 2 = true ∧ (word 0#32).en.getLsbD 3 = true := by decide +kernel

/-- A read of ring 5's written slot 1 (one piece), of its unwritten slot 2 (none), and of its EMPTY
slot 3. -/
theorem witness_MemberReadEntry :
    let r := accept .read 130 (263744 + 80) 10 [] talk
    (arriving r talk).nextEntry = some r ∧ r.closedUnder = false
    ∧ (arriving r talk).memberCall r = some 3 ∧ (arriving r talk).readyLane 3 = some 0
    ∧ r.req.kind = .read
    ∧ ((arriving r talk).readRuns r 0 3 0 (runsOf r.ringWord r.req.len)).2.length = 1
    ∧ (arriving voiceRead talk).nextEntry = some voiceRead ∧ voiceRead.closedUnder = false
    ∧ voiceRead.req.kind = .read
    ∧ ((arriving voiceRead talk).readRuns voiceRead 0 3 0 (runsOf voiceRead.ringWord 10)).2 = [] := by
  decide +kernel

theorem witness_ReadSamplesComeFromTheirPlaces :
    let r := accept .read 130 (263744 + 304) 16 [] talk
    1 ≤ r.req.len ∧ r.ringWord + r.req.len = 320
    ∧ talk.takenSlot 0 r.ring 3 = none
    ∧ talk.takenSlot 0 r.ring 1 = some ({ frame := 1#32, tag := 0#16, fill := 0xFF#8 }, key0)
    ∧ talk.takenSlot 0 r.ring 2 = some ({ frame := 2#32, tag := 0#16, fill := 0#8 }, key0)
    ∧ talk.timer.blanking = false
    ∧ (talk.setTimer { talk.timer with change := .blanking 5#16 }).timer.blanking = true := by
  decide +kernel

/-- A piece of 10 words that has been issued. -/
def issuedPiece (no : Nat) (seg : Fin 8) (done : Option Bool) : Piece :=
  { no := no, seg := seg, addr := 40 * no, len := 10, data := [], issued := true, done := done }

/-- The state with one request in transform, its piece 1 awaiting memory. -/
def inXform (kind : ReqKind) (a : Accepted) (course : Course) (ps : List Piece) (s : State) : State :=
  (awaits kind 10 (.piece 7 1) s).setPort
    { (awaits kind 10 (.piece 7 1) s).port with
      responses := [{ id := 7, ep := a.req.ep, response := none }]
      xforms := [Xform.mk a course ps] }

/-- The worked write in transform, its first piece answered OK or FAULT, its second awaiting. -/
def lastPiece (first : Bool) : State :=
  inXform .write voiceWrite (.memberWrite (Ticket.mk 3 5 0) 2 2#32)
    [issuedPiece 0 0 (some first), issuedPiece 1 1 none] talk

/-- The same, with the ring DRAINING and n member requests in transform. -/
def draining (n : Nat) : State :=
  (lastPiece false).setRing 5 { ring0 100 with state := .draining 3, count := n }

theorem witness_LastWritePieceAnswered :
    let x := (lastPiece false).port.xforms.find? fun x => x.acc.id = 7
    (lastPiece false).port.awaiting[0]?
      = some { req := { kind := .write, addr := 0, len := 10, tag := 0, data := [] },
               src := .piece 7 1 }
    ∧ x.isSome = true
    ∧ (x.bind fun x => x.pieces.find? fun p => p.no = 1).isSome = true
    ∧ x.map Xform.course = some (.memberWrite (Ticket.mk 3 5 0) 2 2#32)
    ∧ (∀ y ∈ (lastPiece false).port.xforms, ∀ q ∈ y.pieces, q.no ≠ 1 → q.done.isSome = true)
    ∧ (∀ c, (lastPiece false).rings[(5 : RingNo)].state ≠ .draining c)
    ∧ (draining 1).rings[(5 : RingNo)].state = .draining 3 ∧ (draining 1).rings[(5 : RingNo)].count ≤ 1
    ∧ ¬ (draining 2).rings[(5 : RingNo)].count ≤ 1
    ∧ (lastPiece false).rings[(5 : RingNo)].state = .owned 3 100
    ∧ (lastPiece false).rings[(5 : RingNo)].slots[(2 : FrameSlotNo)]
      = some { frame := 2#32, tag := 0#16, fill := 0#8 } := by decide +kernel

/-- A FAULT before gives FAULT, an OK before gives OK. -/
theorem test_last_piece_responses :
    ([true, false].map fun b =>
      (after (.memoryAnswer 9 0 (.ok [])) (lastPiece b)).port.responses.map RespEntry.response)
      = [[some (.ok [])], [some .fault]]
    ∧ (after (.memoryAnswer 9 0 (.ok [])) (lastPiece true)).rings[(5 : RingNo)].slots[(2 : FrameSlotNo)]
      = some { frame := 2#32, tag := 0#16, fill := 2#8 } := by decide +kernel

/-- A ring that drains goes FREE at the leaving of its last member request, and not before (R43). -/
theorem test_draining_ring_freed :
    [1, 2].map (fun n => (after (.memoryAnswer 9 0 (.ok [])) (draining n)).rings[(5 : RingNo)].state)
      = [.free, .draining 3] := by decide +kernel

/-- A member read in transform that waits for a sample of piece 1, the other piece answered or not. -/
def readPiece (course : Course) (first : Option Bool) : State :=
  inXform .read voiceRead course [issuedPiece 0 0 first, issuedPiece 1 1 none] talk

/-- The course of a member read of byte order be. -/
def readCourse (be : Bool) : Course :=
  .memberRead (Ticket.mk 3 5 0) be [.value 0#16, .stored 1 1 0x57CD#16]

/-- A piece before the last, and the last, of a raw read, a member read and a member write. -/
theorem witness_PiecesAnswered :
    ([Course.raw, readCourse true].map fun c => decide
      (((readPiece c none).port.xforms.find? fun x => x.acc.id = 7).map Xform.course = some c
        ∧ (readPiece c none).port.awaiting[0]?.map Awaiting.src = some (.piece 7 1)))
      = [true, true]
    ∧ (∃ q ∈ [issuedPiece 0 0 none, issuedPiece 1 1 none], q.no ≠ 1 ∧ q.done = none)
    ∧ (∀ q ∈ [issuedPiece 0 0 (some true), issuedPiece 1 1 none], q.no ≠ 1 → q.done.isSome = true)
    ∧ (∃ q ∈ [issuedPiece 0 0 (some true), issuedPiece 1 1 none], q.no = 1)
    ∧ (inXform .write voiceWrite (.memberWrite (Ticket.mk 3 5 0) 2 2#32)
        [issuedPiece 0 0 none, issuedPiece 1 1 none] talk).port.awaiting[0]?.map (fun w => w.req.kind)
      = some .write
    ∧ (awaited .read 10).kind = .read ∧ (List.replicate 10 0#32).length = 10
    ∧ ([3#16, 4#16] : List Half).length % 2 = 0 := by decide +kernel

/-- The stored sample of the manual's worked read, 0x5BB5 under output word 0x57CD, returns as 1,000 in
the reader's byte order (chapter 4). -/
theorem test_stored_sample_returned :
    [true, false].map (fun be =>
      (after (.memoryAnswer 9 0 (.ok (0x5BB50000#32 :: List.replicate 9 0#32)))
        (readPiece (readCourse be) (some true))).port.responses.map RespEntry.response)
      = [[some (.ok [0xE8030000#32])], [some (.ok [0x03E80000#32])]] := by decide +kernel

/-! ## Witnesses: the memory port -/

theorem selfAt_awaits (kind : ReqKind) (len : Nat) (src : SelfSource) (s : State) :
    (awaits kind len (.self src) s).SelfAt 0 (awaited kind len) src := by
  simp [State.SelfAt, awaits, awaited, State.setPort, State.awaitingIdx, Awaiting.isSelf]

theorem writeAt_awaits (a : Accepted) (w : Watch) (s : State) :
    (awaits .write 1 (.forwarded { a with watch := some w }) s).WriteAt 0 (awaited .write 1)
      { a with watch := some w } w := by
  simp [State.WriteAt, awaits, awaited, State.setPort, ReqKind.isWrite]

theorem fetchAt_fetching (s : State) : (fetching s).FetchAt 0 5#16 := by
  simp [State.FetchAt, fetching, State.setEngine, State.setPort, State.awaitingIdx, Awaiting.isSelf,
    Engine.fetching]

/-- Endpoint 12's read of OPEN memory. -/
def openRead : Accepted := accept .read 12 0x54420 1 [] up

/-- The state with a self-traffic queue and a run count. -/
def queued (n run : Nat) (s : State) : State :=
  s.setPort { s.port with selfQ := List.replicate n (selfRead 0 8 .orderFetch), runCount := run }

theorem witness_GrantsByRunCount :
    up.resetLow = false ∧ openRead.region ≠ .mailbox
    ∧ (queued 1 2 (arriving openRead up)).nextForwarded = some (.request openRead)
    ∧ (queued 1 2 (arriving openRead up)).port.runCount < 3
    ∧ (lastPiece true).nextForwarded = none ∧ (queued 1 0 (lastPiece true)).port.selfQ ≠ []
    ∧ (inXform .write voiceWrite .raw [{ issuedPiece 0 0 none with issued := false }] talk).nextForwarded
      = some (.piece voiceWrite { issuedPiece 0 0 none with issued := false })
    ∧ (queued 1 3 (arriving openRead up)).port.selfQ = [selfRead 0 8 .orderFetch]
    ∧ 3 ≤ (queued 1 3 (arriving openRead up)).port.runCount
    ∧ (queued 0 3 (arriving openRead up)).port.selfQ = []
    ∧ up.nextForwarded = none ∧ up.port.selfQ = []
    -- a MAILBOX READ
    ∧ (let a := accept .read 144 344144 1 [] up
      (queued 1 2 (arriving a up)).nextForwarded = some (.request a) ∧ a.region = .mailbox
        ∧ a.req.kind = .read ∧ a ∈ (arriving a up).port.hold ++ (arriving a up).port.arrival.toList) := by
  decide +kernel

/-- The state with reservations of the endpoints given, on the claim word of slot 5. -/
def reserved (es : List EpNo) (s : State) : State :=
  { s with monitor := es.map fun e => { ep := e, word := 344144 } }

/-- The first word written clears, the second, with no enable, does not. -/
theorem witness_ReservationsSetAndCleared_clear :
    let w : DsRequest := { kind := .write, addr := 344144, len := 2, tag := 0,
                           data := [{ data := 0#32, en := 1#4 }, { data := 0#32, en := 0#4 }] }
    w.kind = .write ∧ ReqKind.writeIfReserved ≠ .write
    ∧ (reserved [144] up).monitor = [{ ep := 144, word := 344144 }]
    ∧ (w.data[0]?.map fun x => decide (x.en ≠ 0#4 ∧ 344144 = w.addr + 0)) = some true
    ∧ (w.data[1]?.map WriteWord.en) = some 0#4 := by decide +kernel

/-- Endpoint 144's READ-RESERVE of the claim word of slot 5. -/
def reserveReq : Accepted := accept .readReserve 144 344144 1 [] up

/-- With 15 reservations of others, with 16, and with 16 of which one is its own. -/
theorem witness_ReservationsSetAndCleared_set :
    let s := fun (es : List EpNo) => arriving reserveReq (reserved es up)
    let others := fun (n : Nat) => (List.range n).map fun i => (Fin.ofNat 512 (200 + i) : EpNo)
    [others 15, others 16, 144 :: others 15].map (fun es =>
      decide ((s es).resetLow = false ∧ (s es).hasPlan = true
        ∧ (s es).nextForwarded = some (.request reserveReq) ∧ reserveReq.region = .mailbox
        ∧ reserveReq.req.kind = .readReserve ∧ (s es).port.selfQ = []))
      = [true, true, true]
    ∧ ((queued 1 2 (s [])).nextForwarded = some (.request reserveReq)
      ∧ (queued 1 2 (s [])).port.runCount < 3)
    ∧ ((others 16).filter fun e => e ≠ 144).length = 16
    -- accepted in QUIESCING, granted in UNPLANNED
    ∧ (let v := { s [] with part := .unplanned, plan := none }
      v.part = .unplanned ∧ v.nextForwarded = some (.request reserveReq) ∧ v.resetLow = false) := by
  decide +kernel

/-- Granted in UNPLANNED the READ-RESERVE leaves its place, goes down as a READ and reserves nothing. -/
theorem test_read_reserve_in_unplanned :
    let s := arriving reserveReq (reserved [] up)
    let u := after (.downstreamGrant 9) { s with part := .unplanned, plan := none }
    u.monitor = [] ∧ u.port.arrival = none ∧ u.port.awaiting.map (fun w => w.req.kind) = [.read] := by
  decide +kernel

/-- Endpoint 144's claim of slot 5 with a word. -/
def claimReq (w : Word) : Accepted := accept .writeIfReserved 144 344144 1 [word w] up

/-- The state after a WRITE-IF-RESERVED has left its place and lost its reservations. -/
def outOf (a : Accepted) (s : State) : State :=
  ((s.atInstant 9).takeOut a).removeReservations fun r => r.ep = a.req.ep

theorem witness_ClaimJudgedAtGrant :
    let s := fun (w : Word) (es : List EpNo) => arriving (claimReq w) (reserved es up)
    ([145#32, 146#32].map fun w => decide ((s w [144]).nextForwarded = some (.request (claimReq w))
      ∧ (s w [145]).nextForwarded = some (.request (claimReq w))
      ∧ (claimReq w).region = .mailbox ∧ (claimReq w).req.kind = .writeIfReserved
      ∧ (claimReq w).req.data = [word w] ∧ (s w [144]).port.selfQ = []
      ∧ mboxAt (claimReq w).off = (5, 0))) = [true, true]
    -- self traffic waits, and the run count is 2
    ∧ ((queued 1 2 (s 145#32 [145])).nextForwarded = some (.request (claimReq 145#32))
      ∧ (queued 1 2 (s 145#32 [145])).port.runCount < 3
      ∧ (let p := (queued 1 2 (s 145#32 [145])).port
        p.hold.length + p.arrival.toList.length ≤ 16 ∧ p.responses.length ≤ 32 ∧ p.xforms.length ≤ 4))
    -- no reservation, of its own, on the word
    ∧ (∀ r ∈ (s 145#32 [145]).monitor, ¬ (r.ep = 144 ∧ r.word = 344144))
    ∧ ((outOf (claimReq 145#32) (s 145#32 [145])).respond 7 .notReserved).nextForwarded = none
    -- the claim fits, with the reservation held
    ∧ (∃ r ∈ (s 145#32 [144]).monitor, r.ep = 144 ∧ r.word = 344144)
    ∧ (word 145#32).en = 0xF#4 ∧ 145#32 = BitVec.ofNat 32 (144 + 1)
    ∧ up.endpoints[(144 : EpNo)].role = .station ∧ up.mailboxes[(5 : MboxNo)].state = .free
    ∧ up.endpoints[(144 : EpNo)].slot = none ∧ (∀ m : MboxNo, up.mailboxes[m].inFlight = none)
    ∧ up.part ≠ .quiescing
    -- a claim with another value does not fit
    ∧ (146#32 : Word) ≠ BitVec.ofNat 32 (144 + 1)
    ∧ ((outOf (claimReq 146#32) (s 146#32 [144])).refuse (claimReq 146#32) .mailbox).nextForwarded
      = none := by decide +kernel

/-- A slot of endpoint 144. -/
def slotOf (st : SlotState) : Mbox :=
  { Mbox.free with state := st, owner := some 144, deadline := some 2050#32 }

theorem witness_MailboxWordsJudged :
    judgeWord (slotOf .claimed) 145 0 (word 0#32) = some .foreign
    ∧ judgeWord (slotOf .claimed) 144 4 (word 0#32) = some .mailbox
    ∧ judgeWord (slotOf .claimed) 144 15 (word 0#32) = none := by decide +kernel

/-- The part with slot 5 in a state. -/
def seated (x : Mbox) : State :=
  (up.setMbox 5 x).setEp 144 { up.endpoints[(144 : EpNo)] with slot := some 5 }

/-- A WRITE of endpoint 144 to words of slot 5's area, from word k of it on. -/
def mboxWrite (k : Nat) (data : List WriteWord) : Accepted :=
  accept .write 144 (BitVec.ofNat 30 (344144 + k)) data.length data up

/-- A burst from word 15 over the next slot's claim word; one of words 3 and 4, the second refused; a
release; the worked request's burst of words 1 to 3 with the go code ADMIT; and words 2 and 3 alone. -/
theorem witness_MailboxWriteGranted :
    let x := slotOf .claimed
    let s := fun (a : Accepted) => arriving a (seated x)
    let mixed := mboxWrite 15 [word 0#32, word 0#32]
    let bad := mboxWrite 3 [word 0#32, word 0#32]
    let rel := mboxWrite 0 [word 0#32]
    let go := mboxWrite 1 [word 1#32, word 900#32, word 4417200#32]
    let words := mboxWrite 2 [word 900#32, word 4417200#32]
    (∀ a ∈ [words, mixed, bad, rel, go], (s a).resetLow = false
      ∧ (s a).nextForwarded = some (.request a) ∧ a.region = .mailbox ∧ a.req.kind = .write
      ∧ (s a).port.selfQ = [])
    ∧ 1 < mixed.req.len ∧ (mixed.off + 1) % 16 = 0
    ∧ (((s mixed).takeOut mixed).refuse mixed .mailbox).nextForwarded = none
    ∧ (∀ i < 2, (bad.off + i) % 16 ≠ 0)
    ∧ judgeWord x 144 ((bad.off + 0) % 16) (word 0#32) = none
    ∧ judgeWord x 144 ((bad.off + 1) % 16) (word 0#32) = some .mailbox
    ∧ (((s bad).takeOut bad).refuse bad .mailbox).nextForwarded = none
    ∧ mboxAt rel.off = (5, 0) ∧ judgeWord x 144 0 (word 0#32) = none
    ∧ (∀ i < 3, (go.off + i) % 16 ≠ 0) ∧ mboxAt (go.off + 0) = (5, 1)
    ∧ goMark 1#32 = some .goAdmit ∧ judgeWord x 144 1 (word 1#32) = none
    ∧ judgeWord x 144 2 (word 900#32) = none ∧ judgeWord x 144 3 (word 4417200#32) = none
    ∧ (∀ i < 2, (words.off + i) % 16 ≠ 0 ∧ (words.off + i) % 16 ≠ 1)
    ∧ (queued 1 2 (s words)).nextForwarded = some (.request words) ∧ (queued 1 2 (s words)).port.runCount < 3 := by
  decide +kernel

theorem witness_ForwardedAnswered :
    (awaits .read 1 (.forwarded openRead) up).port.awaiting[0]?
      = some { req := awaited .read 1, src := .forwarded openRead }
    ∧ openRead.watch = none ∧ [0#32].length = (if (awaited .read 1).kind.isWrite then 0 else 1)
    ∧ ({ openRead with watch := some (.mailbox 31) } : Accepted).watch = some (.mailbox 31)
    ∧ (∀ m, (some Watch.signature) ≠ some (.mailbox m))
    ∧ (awaited .writeIfReserved 1).kind = .writeIfReserved := by decide +kernel

/-- The endpoint's second response is not its next. -/
theorem witness_ResponseReturnedInOrder :
    let r : RespEntry := { id := 4, ep := 12, response := some .fault }
    let pre : List RespEntry := [{ id := 3, ep := 13, response := none }]
    let post : List RespEntry := [{ id := 5, ep := 12, response := none }]
    (∀ x ∈ pre, x.ep ≠ 12) ∧ r.ep = 12 ∧ ((pre ++ r :: post).map RespEntry.id).Nodup
    ∧ r.response = some .fault ∧ ({ r with response := none } : RespEntry).response = none := by
  decide

/-- The state with a block that waits with n entries, and m entries in the queue. -/
def waitsFor (m : Nat) (ns : List Nat) : State :=
  (queued m 0 up).setPort { (queued m 0 up).port with
    waiters := ns.map fun n =>
      .entries .admission false (List.replicate n (selfRead 0 1 .planStatus)) }

/-- 6 and 2 entries fit, 7 and 2 do not; the first of two blocks fits and the second does not. -/
theorem witness_SelfTrafficPlaced :
    (queued 6 0 up).port.waiters = [] ∧ (queued 6 0 up).port.selfQ.length + 2 = 8
    ∧ 8 < (queued 7 0 up).port.selfQ.length + 2
    ∧ (waitsFor 7 [2]).port.waiters
      = [.entries .admission false (List.replicate 2 (selfRead 0 1 .planStatus))]
    ∧ (waitsFor 6 [2]).port.selfQ.length + 2 ≤ 8
    ∧ (waitsFor 6 [2, 1]).port.waiters.length = 2 ∧ 8 < (waitsFor 6 [2, 1]).port.selfQ.length + 2 + 1 := by
  decide +kernel

/-! ## Witnesses: the plan validator, watched counts and mailbox events -/

/-- The state with a validation in flight or not, and its pending flag. -/
def validating (inFlight pending : Bool) (s : State) : State :=
  { s with validator := { inFlight := inFlight, pending := pending, count := 1#16 } }

/-- Answers FAULT, a record that fails ALIGNMENT, and a valid one while a call is OPEN. -/
theorem witness_ValidationsRun :
    (awaits .write 1 (.forwarded { openRead with watch := some .signature })
      (validating false false up)).WriteAt 0 (awaited .write 1)
        { openRead with watch := some .signature } .signature
    ∧ (validating false false up).validator.inFlight = false
    ∧ (validating true false up).validator.inFlight = true
    ∧ (awaits .read 16 (.self .anchorRead) (validating true true talk)).SelfAt 0 (awaited .read 16)
        .anchorRead
    ∧ (awaited .read 16).kind = .read ∧ (awaited .read 16).len = 16
    ∧ (record0 0x00150C20#32).length = 16
    ∧ (planFields (record0 0x00150C20#32)).check talk.anchorByte = some .alignment
    ∧ (planFields (record0 0x00150C40#32)).check talk.anchorByte = none
    ∧ (awaits .read 16 (.self .anchorRead) talk).mayTake = false
    ∧ (validating true true talk).validator.pending = true
    ∧ (validating true false talk).validator.pending = false :=
  ⟨writeAt_awaits openRead .signature _, by decide +kernel, by decide +kernel, selfAt_awaits _ _ _ _,
    by decide +kernel⟩

/-- The part with SLIP in the backlog, the ring full, and endpoint 41 ADMITTED at entry 7. -/
def planned1 (s : State) : State :=
  ((full s).setEngine { (full s).engine with
    backlog := [{ kind := .slip, subject := .none, data := [], repeats := 1 }] }).setEntry 7
      { DirEntry.reset with admittedEp := some 41 } |>.setEp 41
      { EndpointRec.reset with role := .station, admitted := some 7 }

theorem witness_PlanTaken :
    (awaits .read 16 (.self .anchorRead) (validating true false up)).SelfAt 0 (awaited .read 16)
        .anchorRead
    ∧ (record0 0x00150C40#32).length = 16
    ∧ (planFields (record0 0x00150C40#32)).check up.anchorByte = none
    ∧ (awaits .read 16 (.self .anchorRead) (validating true false up)).mayTake = true
    ∧ (planFields (record0 0x00150C40#32)).plan = plan0
    ∧ (validating true false up).validator.pending = false
    ∧ up.engine.backlog = [] ∧ (∀ e ∈ plan0.control, up.endpoints[e].admitted = none)
    -- a signature event waits, a notice waits, and a control endpoint to be is ADMITTED
    ∧ (let s := awaits .read 16 (.self .anchorRead) (validating true true (planned1 up))
      s.SelfAt 0 (awaited .read 16) .anchorRead ∧ s.mayTake = true ∧ s.validator.pending = true
        ∧ s.engine.backlog ≠ [] ∧ s.endpoints[(41 : EpNo)].admitted = some 7)
    ∧ State.reset.mayTake = true ∧ (fetching up).mayTake = false
    ∧ (up.setTimer { up.timer with change := .blanking 4#16 }).mayTake = false :=
  ⟨selfAt_awaits _ _ _ _, by decide +kernel, by decide +kernel, by decide +kernel, by decide +kernel,
    by decide +kernel, by decide +kernel, by decide +kernel,
    ⟨selfAt_awaits _ _ _ _, by decide +kernel⟩, by decide +kernel⟩

/-- The notice SLIP that waited is in the new ring first, then DEADMITTED, and the validator reads on. -/
theorem test_plan_taken_with_notice :
    let s := awaits .read 16 (.self .anchorRead) (validating true true (planned1 up))
    let u := after (.anchorSelfReadReturn 9 (.ok (record0 0x00150C40#32))) s
    u.engine.completionProducer = 2#16 ∧ u.engine.backlog = [] ∧ u.endpoints[(41 : EpNo)].admitted = none
    ∧ u.validator = { inFlight := true, pending := false, count := 2#16 }
    ∧ u.port.selfQ.map SelfEntry.src = [.completionEntry .slip false, .completionCount,
      .completionEntry .deadmitted false, .completionCount, .planStatus, .anchorRead] := by decide +kernel

theorem witness_ForwardedAnswered_counts :
    (awaits .write 1 (.forwarded { openRead with watch := some (.orderCount 32#16) }) up).WriteAt 0
        (awaited .write 1) { openRead with watch := some (.orderCount 32#16) } (.orderCount 32#16)
    ∧ (awaits .write 1 (.forwarded { openRead with watch := some (.completionCount 130#16) })
        (full up)).WriteAt 0 (awaited .write 1)
        { openRead with watch := some (.completionCount 130#16) } (.completionCount 130#16) :=
  ⟨writeAt_awaits openRead _ _, writeAt_awaits openRead _ _⟩

/-- The part with a watched write in flight on slot 5. -/
def inFlight (kind : MarkKind) (voided : Bool) (x : Mbox) : State :=
  awaits .write 1 (.forwarded { openRead with watch := some (.mailbox 5) })
    (seated { x with inFlight := some { kind := kind, ep := 144, judged := x.state, voided := voided } })

theorem witness_MailboxEvents_at (kind : MarkKind) (voided : Bool) (x : Mbox) :
    (inFlight kind voided x).WriteAt 0 (awaited .write 1)
        { openRead with watch := some (.mailbox 5) } (.mailbox 5)
      ∧ (inFlight kind voided x).mailboxes[(5 : MboxNo)].inFlight
        = some { kind := kind, ep := 144, judged := x.state, voided := voided } :=
  ⟨writeAt_awaits openRead _ _, by
    simp [inFlight, awaits, seated, State.setMbox, State.setEp, State.setPort]⟩

/-- The events stand in the state of each kind, with the entry of a CHALLENGED slot given or none; one
that RESTART voided, or whose slot has changed hands, does not. -/
theorem witness_MailboxEvents :
    Mbox.free.state = .free ∧ (slotOf .claimed).owner = some 144
    ∧ (slotOf .challenged).state = .challenged ∧ (slotOf .challenged).entry = none
    ∧ ({ slotOf .challenged with entry := some 1023 } : Mbox).entry = some 1023
    ∧ (slotOf .decided).state ≠ .challenged
    ∧ ({ slotOf .claimed with owner := some 145 } : Mbox).owner ≠ some 144 := by decide

/-- The part with a self-read of slot 5 outstanding. -/
def selfReading (src : SelfSource) (len : Nat) (x : Mbox) (s : State) : State :=
  awaits .read len (.self src) (s.setMbox 5 { x with selfRead := true })

/-- Slot 5 REQUESTED with a go code. -/
def requested (g : GoCode) : Mbox := { slotOf .requested with goCode := some g, deadline := none }

/-- The directory with entry 900 as in the worked admission, and a lock or none. -/
def listed (lock : Option Word) : State :=
  admission.setEntry 900 { admission.directory[(900 : EntryNo)] with lock := lock }

theorem witness_SlotSelfReadsReturn_at (x : Mbox) (s : State) :
    (selfReading (.requestRead 5) 2 x s).SelfAt 0 (awaited .read 2) (.requestRead 5)
    ∧ (selfReading (.answerRead 5) 1 x s).SelfAt 0 (awaited .read 1) (.answerRead 5)
    ∧ (selfReading (.requestRead 5) 2 x s).mailboxes[(5 : MboxNo)] = { x with selfRead := true }
    ∧ (selfReading (.answerRead 5) 1 x s).mailboxes[(5 : MboxNo)] = { x with selfRead := true } :=
  ⟨selfAt_awaits _ _ _ _, selfAt_awaits _ _ _ _, by
    simp [selfReading, awaits, State.setMbox, State.setPort], by
    simp [selfReading, awaits, State.setMbox, State.setPort]⟩

/-- RESIGN in a call and out of one; an index past the directory; entry 900, its number right and
wrong, its lock in force by one tick, and just ended; the owner OUT, and ADMITTED. -/
theorem witness_SlotSelfReadsReturn :
    (slotOf .free).state ≠ .requested ∧ (requested .resign).goCode = some .resign
    ∧ talk.endpoints[(100 : EpNo)].call = some 3 ∧ up.endpoints[(144 : EpNo)].call = none
    ∧ (loHalf 0x00010400#32).toNat = 1024 ∧ (loHalf 0x00010384#32).toNat = (900 : EntryNo).val
    ∧ (listed none).directory[(900 : EntryNo)].enabled = true
    ∧ (listed none).directory[(900 : EntryNo)].number = (4417200#32).toNat
    ∧ (listed none).directory[(900 : EntryNo)].number ≠ (4417201#32).toNat
    ∧ (listed (some 2001#32)).directory[(900 : EntryNo)].lock = some 2001#32
    ∧ 2147483648 ≤ ((listed none).timer.counter - 2001#32).toNat
    ∧ ((listed none).timer.counter - 2000#32).toNat < 2147483648
    ∧ up.endpoints[(144 : EpNo)].admitted = none ∧ up.endpoints[(100 : EpNo)].admitted = some 1
    ∧ (slotOf .answered).state = .answered
    ∧ admission.slotListed 5 = true ∧ up.slotListed 5 = false := by decide +kernel

/-- The worked admission with other failures, another lock, another answer or another admitted
endpoint. -/
theorem witness_AnswersCompared :
    admission.lanes[(2 : LaneNo)].state = .expanding
    ∧ admission.lanes[(2 : LaneNo)].subject = some (.entry 900)
    ∧ (admission.lanes[(2 : LaneNo)].expansion.map Expansion.slots) = some [5]
    ∧ (let b := admission.mailboxes[(5 : MboxNo)]
      b.state = .answered ∧ b.selfRead = false ∧ b.owner = some 144 ∧ b.challenge = some 100#16
      ∧ b.answer = some (0x94E5#16, 0x9C7D#16) ∧ b.bigEndian = some true
      ∧ b.number = some admission.directory[(900 : EntryNo)].number)
    ∧ ({ admission.mailboxes[(5 : MboxNo)] with selfRead := true } : Mbox).selfRead = true
    ∧ admission.directory[(900 : EntryNo)].enabled = true
    ∧ admission.directory[(900 : EntryNo)].lock = none
    ∧ (listed (some 2001#32)).directory[(900 : EntryNo)].lock = some 2001#32
    ∧ 2147483648 ≤ ((listed none).timer.counter - 2001#32).toNat
    ∧ expectedAnswer secret0 100#16 = (0x94E5#16, 0x9C7D#16)
    ∧ expectedAnswer secret0 100#16 ≠ (0x94E5#16, 0x9C7C#16)
    ∧ (1 < 2 ∧ admission.directory[(900 : EntryNo)].fails < 2)
    ∧ (admission.setEntry 900 { admission.directory[(900 : EntryNo)] with
        fails := 2 }).directory[(900 : EntryNo)].fails = 2
    ∧ admission.directory[(900 : EntryNo)].admittedEp = none
    -- entry 1 names endpoint 100: in a call in talk, in none in up
    ∧ (talk.setEntry 1 { DirEntry.reset with admittedEp := some 100 }).directory[(1 : EntryNo)].admittedEp
      = some 100
    ∧ (100 : EpNo) ≠ 144 ∧ talk.endpoints[(100 : EpNo)].call.isSome = true
    ∧ up.endpoints[(100 : EpNo)].call = none ∧ up.endpoints[(100 : EpNo)].admitted = some 1 := by
  decide +kernel

/-! ## Witnesses: orders and completions -/

theorem witness_OrdersFetched_start :
    let s := up.setEngine { up.engine with orderProducer := 1#16 }
    s.part = .planned ∧ s.engine.inExec = none ∧ s.engine.held = none
    ∧ s.engine.orderProducer ≠ s.engine.orderConsumed
    ∧ up.engine.orderProducer = up.engine.orderConsumed := by decide +kernel

/-- A kind code between the orders' codes, and each field one past its range. -/
theorem witness_OrdersFetched_malformed :
    (fetching up).FetchAt 0 5#16
    ∧ (ReturnsOrder (.badOrderKind 9 0x06#8) 9 (.unknown 0x06#8) ∧ Malformed (.unknown 0x06#8))
    ∧ (ReturnsOrder (.openCall 9 127#16 3#8 7#8 1#16 2#16 512#16 0#16 key0) 9
        (.openCall 127#16 3#8 7#8 1#16 2#16 512#16 0#16 key0)
      ∧ Malformed (.openCall 127#16 3#8 7#8 1#16 2#16 512#16 0#16 key0))
    ∧ (ReturnsOrder (.rekeyNow 9 127#16 8#8) 9 (.rekeyNow 127#16 8#8)
      ∧ Malformed (.rekeyNow 127#16 8#8))
    ∧ (ReturnsOrder (.setEndpoint 9 1#16 2#8 2#8) 9 (.setEndpoint 1#16 2#8 2#8)
      ∧ Malformed (.setEndpoint 1#16 2#8 2#8)) :=
  ⟨fetchAt_fetching up, ⟨.unknown 9 0x06#8 (by decide), trivial⟩,
    ⟨.openCall .., by unfold Malformed; decide⟩, ⟨.rekeyNow .., by unfold Malformed; decide⟩,
    ⟨.setEndpoint .., by unfold Malformed; decide⟩⟩

/-- A RESTART entry whose other bytes are not 0. -/
theorem witness_OrderEntriesDecode :
    let ws := [0xABCDEF3F#32, 1#32, 2#32, 3#32, 4#32, 5#32, 6#32, 7#32]
    (fetching up).SelfAt 0 { kind := .read, addr := 0, len := 8, tag := 1023, data := [] } .orderFetch
    ∧ (fetching up).FetchAt 0 5#16 ∧ ws.length = 8 ∧ ReturnsOrder (.restart 9) 9 .restart
    ∧ decodeOrder ws = .restart ∧ orderKindCodes.contains 0x24#8 = false :=
  ⟨by simp [State.SelfAt, fetching, State.setEngine, State.setPort, State.awaitingIdx,
      Awaiting.isSelf], fetchAt_fetching up, rfl, .restart 9, by decide, by decide⟩

/-- 63 and 64 completions not consumed. -/
theorem witness_CompletionWrittenOrHeld :
    let s := (full up).setEngine { (full up).engine with completionProducer := 129#16 }
    (s.engine.completionProducer - s.engine.completionConsumer).toNat = 63 ∧ s.engine.backlog = []
    ∧ 64 ≤ ((full up).engine.completionProducer - (full up).engine.completionConsumer).toNat
    ∧ [1#8].length ≤ 4 ∧ [1#8] ++ List.replicate (4 - [1#8].length) 0#8 = [1#8, 0#8, 0#8, 0#8] := by
  decide +kernel

/-- The completion of order 20, the SLIP notice and the DEADMITTED notice of the manual (chapter 10). -/
theorem test_worked_completions :
    completionWords (orderCompletion 20#16 .done (.call 5#16) [])
      = [0x00140000#32, 0x00050101#32, 0#32, 0#32]
    ∧ completionWords (Completion.mk .slip .done 0#16 .none 2 []) = [0x00000006#32, 0xFFFF0200#32, 0#32, 0#32]
    ∧ completionWords (Completion.mk .deadmitted .done 0#16 (.endpoint 144#16) 1 [1#8])
      = [0x00000003#32, 0x00900102#32, 1#32, 1#32] := by decide

/-! ## Witnesses: calls -/

/-- The part with n FREE rings, the lowest ones. -/
def ringsLeft (n : Nat) (s : State) : State :=
  { s with rings := Vector.ofFn fun r => if r.val < n then Ring.free else ring0 100 }

/-- Call 12 opened for 100 and 130, or 100 twice; 144 is no eligible member; in talk both are in a
call, and call 3 is taken; one ring left, and two. -/
theorem witness_OpenCallOrders :
    (fetching up).FetchAt 0 5#16
    ∧ openCallFields 12#16 2#8 7#8 [100#16, 130#16, 0#16, 0#16] = some (12, [100, 130], 7)
    ∧ openCallFields 3#16 2#8 7#8 [100#16, 130#16, 0#16, 0#16] = some (3, [100, 130], 7)
    ∧ openCallFields 12#16 2#8 7#8 [100#16, 100#16, 0#16, 0#16] = some (12, [100, 100], 7)
    ∧ openCallFields 12#16 2#8 7#8 [100#16, 144#16, 0#16, 0#16] = some (12, [100, 144], 7)
    -- four endpoints, call 127 and level 0; the third is not read at count 2
    ∧ openCallFields 127#16 4#8 0#8 [0#16, 511#16, 1#16, 2#16] = some (127, [0, 511, 1, 2], 0)
    ∧ openCallFields 12#16 2#8 7#8 [100#16, 130#16, 512#16, 0#16] = some (12, [100, 130], 7)
    ∧ (fetching talk).calls[(3 : CallNo)].state ≠ .free
    ∧ (fetching up).calls[(12 : CallNo)].state = .free
    ∧ ([100, 130] : List EpNo).Nodup ∧ ¬ ([100, 100] : List EpNo).Nodup
    ∧ (∀ e ∈ ([100, 130] : List EpNo), (fetching up).endpoints[e].call = none)
    ∧ (fetching (ringsLeft 1 up)).freeRings.length = 1
    ∧ (fetching (ringsLeft 2 up)).freeRings.length = 2 := by
  refine ⟨fetchAt_fetching up, ?_, ?_, ?_, ?_, ?_, ?_, ?_, ?_, ?_, ?_, ?_, ?_, ?_⟩ <;> decide +kernel

theorem witness_OpenCallOrders_members :
    up.endpoints[(144 : EpNo)].role = .station ∧ up.endpoints[(144 : EpNo)].admitted = none
    ∧ talk.endpoints[(130 : EpNo)].call ≠ none
    ∧ up.endpoints[(100 : EpNo)].role = .station ∧ up.endpoints[(100 : EpNo)].admitted ≠ none
    ∧ up.endpoints[(130 : EpNo)].role = .trunk := by decide +kernel

/-- An ADD switch of endpoint 200. -/
def addSwitch (e : EpNo) : Switch := { isAdd := true, ep := e, seq := 4#16 }

/-- Call 3 with n pending switches. -/
def switching (n : Nat) : Call := { call0 with switches := List.replicate n (addSwitch 144) }

/-- Call 3 with four members. -/
def crowded : Call :=
  { call0 with members := call0.members ++ [{ ep := 200, ring := 7 }, { ep := 201, ring := 8 }] }

theorem witness_SwitchesStoredAndApplied :
    (fetching talk).FetchAt 0 5#16 ∧ (3#16).toNat = (3 : CallNo).val ∧ (144#16).toNat = (144 : EpNo).val
    ∧ (fetching up).calls[(3 : CallNo)].state ≠ .opened
    ∧ (fetching talk).calls[(3 : CallNo)].state = .opened
    ∧ (switching 1).switches.length < 2 ∧ 2 ≤ (switching 2).switches.length
    ∧ 64 ≤ ((full talk).engine.completionProducer - (full talk).engine.completionConsumer).toNat
    ∧ (talk.engine.completionProducer - talk.engine.completionConsumer).toNat < 64
    -- ADD of 100, in the call already; of a TRUNK in no call, in each case
    ∧ talk.endpoints[(100 : EpNo)].call ≠ none
    ∧ up.endpoints[(130 : EpNo)].role = .trunk ∧ up.endpoints[(130 : EpNo)].call = none
    ∧ 4 ≤ crowded.members.length ∧ call0.members.length < 4
    ∧ (ringsLeft 0 up).freeRings = [] ∧ (ringsLeft 1 up).freeRings = [0]
    -- DROP of 144, no member; of 130
    ∧ (talk.calls[(3 : CallNo)].members.map Member.ep).Nodup
    ∧ (∀ y ∈ talk.calls[(3 : CallNo)].members, y.ep ≠ 144)
    ∧ (∃ y ∈ talk.calls[(3 : CallNo)].members, y.ep = 130) :=
  ⟨fetchAt_fetching talk, by decide +kernel⟩

/-- Call 3 CLOSING, its CLOSE-CALL's completion waiting. -/
def closing : State := withCall { call0 with state := .closing, closeSeq := some 4#16 } talk

/-- Room for one completion and for none; the lane READY, EXPANDING, and none; a ring DRAINING with
count 0 and 1. -/
theorem witness_CallsClose :
    (fetching talk).FetchAt 0 5#16
    ∧ (fetching up).calls[(3 : CallNo)].state ≠ .opened
    ∧ (fetching talk).calls[(3 : CallNo)].state = .opened
    ∧ closing.calls[(3 : CallNo)].state = .closing ∧ closing.port.xforms = []
    ∧ (closing.engine.completionProducer - closing.engine.completionConsumer).toNat + (0 + 1) ≤ 64
    ∧ ¬ ((full closing).engine.completionProducer - (full closing).engine.completionConsumer).toNat
        + (0 + 1) ≤ 64
    ∧ closing.calls[(3 : CallNo)].lane = some 0 ∧ closing.lanes[(0 : LaneNo)].state = .ready
    ∧ (closing.setLane 0 { closing.lanes[(0 : LaneNo)] with state := .expanding }).lanes[(0 : LaneNo)].state
      = .expanding
    ∧ (talk.setRing 5 { ring0 100 with state := .draining 3 }).rings[(5 : RingNo)].count = 0
    ∧ (talk.setRing 5 { ring0 100 with state := .draining 3, count := 1 }).rings[(5 : RingNo)].count ≠ 0
    ∧ (∀ c, up.rings[(5 : RingNo)].state ≠ .draining c) :=
  ⟨fetchAt_fetching talk, by decide +kernel⟩

/-- The two switches left are completed NO-CALL, and then the CLOSE-CALL DONE (R111). -/
theorem test_close_completions :
    let s := withCall { switching 2 with state := .closing, closeSeq := some 9#16 } talk
    ((after (.callCloseEnd 9 3) s).port.selfQ.map SelfEntry.data).take 5
      = [[0x00040200#32, 0x00030101#32, 0#32, 0#32], [1#32], [0x00040200#32, 0x00030101#32, 0#32, 0#32],
         [2#32], [0x00090000#32, 0x00030101#32, 0#32, 0#32]] := by decide +kernel

theorem witness_RekeyNowOrders :
    (fetching talk).FetchAt 0 5#16 ∧ (3#16).toNat = (3 : CallNo).val
    ∧ (fetching up).calls[(3 : CallNo)].state ≠ .opened
    ∧ (fetching talk).calls[(3 : CallNo)].state = .opened
    ∧ (7#8).toNat < 8 ∧ (7#8).toNat = (7 : Fin 8).val :=
  ⟨fetchAt_fetching talk, by decide +kernel⟩

/-! ## Witnesses: frame timing and the scan pass -/

/-- The part with a pass in flight, in its call phase. -/
def passing (pending : Option Word) (s : State) : State :=
  s.setTimer { s.timer with
    pass := some { number := 2000#32, pos := .calls none }, pendingTick := pending }

/-- The part with another timing state, and a change. -/
def timed (st : TimingState) (c : TimingChange) : State :=
  up.setTimer { up.timer with state := st, change := c }

theorem witness_TicksTakenOrSlipped :
    (passing (some 2001#32) up).timer.pendingTick = some 2001#32
    ∧ (passing (some 2001#32) up).timer.pass.isSome = true
    ∧ up.timer.pass = none ∧ up.timer.change = .none
    ∧ (passing none up).timer.pendingTick = none ∧ (passing none up).timer.change = .none
    ∧ (timed .internal .none).TickAt .internalExpiry 30000000
    ∧ (timed .externalLost .none).TickAt .internalExpiry 30000000
    ∧ up.TickAt .guardExpiry 30000000
    ∧ (up.timer.running = true ∧ up.timer.state = .externalLocked)
    ∧ ((timed .externalLost .none).timer.state = .externalLost
      -- at half a period after the last tick, and 1 ns less
      ∧ (timed .externalLost .none).timer.lastTick + 20000 * 1000 / 2 ≤ max up.now 10000000
      ∧ max up.now 9999999 < (timed .externalLost .none).timer.lastTick + 20000 * 1000 / 2)
    ∧ State.reset.timer.running = false ∧ (timed .internal .none).timer.state = .internal
    -- the change ARMED and BLANKING, the pass idle and in flight with no pending tick
    ∧ (timed .externalLocked (.armed 4#16 .internal 40000)).timer.pass = none
    ∧ (passing none (timed .externalLocked (.armed 4#16 .internal 40000))).timer.pendingTick = none
    ∧ (passing none (timed .externalLocked (.armed 4#16 .internal 40000))).timer.change
      = .armed 4#16 .internal 40000
    ∧ (passing none (timed .internal (.blanking 4#16))).timer.change = .blanking 4#16 := by
  refine ⟨?_, ?_, ?_, ?_, ?_, ?_, ⟨?_, ?_⟩, ⟨?_, ?_⟩, ⟨?_, ?_⟩, ?_⟩ <;> decide +kernel

/-- The guard's expiry puts a change to EXTERNAL in force, and an edge at its instant ticks again (log
43); without a change it does not (R126). -/
theorem test_edge_at_the_expiry_of_a_change :
    let both := fun (s : State) =>
      (after (.fsyncEdge 30000000) (after .guardExpiry s)).timer.counter
    both (timed .externalLocked (.armed 4#16 .external 20000)) = 2002#32
    ∧ both (timed .externalLocked .none) = 2001#32 := by decide +kernel

/-- The tick that finds the change ARMED, a pass in flight: the pass goes on, the tick is pending. -/
theorem test_armed_tick_in_a_pass :
    let s := passing none (timed .externalLocked (.armed 4#16 .internal 40000))
    let u := after (.timingChangeTakeEffect (.fsyncEdge 9)) s
    u.timer.pass = some { number := 2000#32, pos := .calls none }
    ∧ u.timer.pendingTick = some 2001#32 ∧ u.timer.nextExpiry = some 40000009
    ∧ (after .internalExpiry (timed .internal (.blanking 4#16))).timer.pass
      = some { number := 2001#32, pos := .calls none } := by decide +kernel

/-- Periods 4,999, 5,000, 40,000 and 40,001; the change ARMED, BLANKING and WAITING, with room and
without. -/
theorem witness_TimingChanges :
    (fetching up).FetchAt 0 5#16
    ∧ ((4999#32).toNat < 5000 ∧ ¬ (5000#32).toNat < 5000 ∧ ¬ 40000 < (40000#32).toNat
      ∧ 40000 < (40001#32).toNat ∧ (3#8 : Byte) ≠ 1#8 ∧ (3#8 : Byte) ≠ 2#8)
    ∧ (fetching up).timer.change = .none
    ∧ (timed .externalLocked (.armed 4#16 .internal 40000)).timer.change ≠ .none
    ∧ (timed .externalLocked (.armed 4#16 .internal 40000)).TickAt (.fsyncEdge 9) 9
    ∧ (timed .internal (.blanking 4#16)).TickAt .internalExpiry 30000000
    ∧ (timed .internal (.blanking 4#16)).timer.pass = none
    ∧ (passing none (timed .internal (.blanking 4#16))).timer.pendingTick = none
    ∧ (timed .externalLocked .none).TickAt .guardExpiry 30000000
    ∧ 8 ≤ (up.timer.counter + 1#32 - 1993#32).toNat ∧ ¬ 8 ≤ (up.timer.counter + 1#32 - 1994#32).toNat
    ∧ (timed .internal (.waiting 4#16)).timer.change = .waiting 4#16
    ∧ 64 ≤ ((full up).engine.completionProducer - (full up).engine.completionConsumer).toNat := by
  refine ⟨fetchAt_fetching up, ?_, ?_, ?_, ⟨?_, ?_⟩, ⟨?_, ?_⟩, ?_, ?_, ⟨?_, ?_⟩, ?_⟩ <;> decide +kernel

/-- Call 3 with a next key, and with a previous one that is retired at the visit to frame 3, or not. -/
def rekeyed (advance : Option Word) : Call :=
  { call0 with
    next := some secret0, prev := advance.map fun f => { key := key0, advance := f } }

/-- A call's waiting request. -/
def waits0 (cls : ActClass) : ActRequest :=
  { subject := .call 3, cls := cls, age := 0, derive_ := false, slots := [], askTick := 0#32 }

/-- Call 3 with one member and a DROP switch of it, a rekey due at the next visit. -/
def lastDrop : Call :=
  { call0 with
    members := [{ ep := 100, ring := 5 }], countdown := 1
    switches := [{ isAdd := false, ep := 100, seq := 4#16 }] }

/-- REKEY_COUNTDOWN_EXPIRY makes the visit that closes the call, and no rekey is asked for (log 42). -/
theorem test_rekey_expiry_at_a_closing_visit :
    let u := after (.rekeyCountdownExpiry 9) (passing none (withCall lastDrop talk))
    u.calls[(3 : CallNo)].state = .free ∧ u.waiting = []
    ∧ u.timer.pass.map Pass.pos = some (.calls (some 3)) := by decide +kernel

theorem witness_CallVisited :
    (passing none talk).dueVisit = some ({ number := 2000#32, pos := .calls none }, 3)
    ∧ (talk.calls[(3 : CallNo)].members.map Member.ep).Nodup
    ∧ (talk.calls[(3 : CallNo)].members.map Member.ring).Nodup
    -- no next key; a next key alone; a previous key retired at frame 3; one retired later
    ∧ call0.next.isSome = false ∧ (rekeyed none).next.isSome = true ∧ (rekeyed none).prev = none
    ∧ ((rekeyed (some 0#32)).prev.filter fun k => 3#32 ≠ k.advance + 3#32).isNone = true
    ∧ ((rekeyed (some 1#32)).prev.filter fun k => 3#32 ≠ k.advance + 3#32).isNone = false
    ∧ ({ call0 with countdown := 1 } : Call).countdown ≤ 1 ∧ 1 < ({ call0 with countdown := 2 } : Call).countdown
    ∧ talk.calls[(3 : CallNo)].lane = some 0 ∧ talk.lanes[(0 : LaneNo)].state = .ready
    ∧ unlaned.calls[(3 : CallNo)].lane = none
    -- a rekey due, with no request and with one; not due; debt 7 and 6
    ∧ ({ call0 with countdown := 1 } : Call).countdown - 1 = 0 ∧ call0.next = none
    ∧ call0.countdown - 1 ≠ 0 ∧ call0.rekeyNow = false
    ∧ (∀ q ∈ talk.waiting, q.subject ≠ .call 3)
    ∧ (∃ q ∈ (talk.setWaiting [waits0 .voice]).waiting, q.subject = .call 3)
    ∧ (∀ l : LaneNo, talk.lanes[l].state ≠ .expanding)
    ∧ (let l := (talk.setLane 0 { Lane.reset with
        state := .expanding, subject := some (.call 3)
        expansion := some { start := 0, finish := 1500, derives := true, slots := [] } }).lanes[(0 : LaneNo)]
      l.state = .expanding ∧ l.subject = some (.call 3)
        ∧ l.expansion.map Expansion.derives = some true) := by decide +kernel

/-- The part whose pass has come to slot 5. -/
def checking (x : Mbox) : State :=
  (seated x).setTimer { up.timer with pass := some { number := 2050#32, pos := .slots 5 } }

/-- The part whose pass stands in its slot phase, or waits for a place. -/
def passAt (pos : PassPos) (pending : Option Word) (waits : Bool) (s : State) : State :=
  (s.setTimer { s.timer with pass := some { number := 2000#32, pos := pos }, pendingTick := pending }).setPort
    { s.port with waiters := if waits then [.entries .callLogic true []] else [] }

/-- A call above the one last visited and none above it; slots 31 and 32; a wait; a tick that is pending,
and none. -/
theorem witness_SlotsChecked_order :
    (passAt (.calls (some 2)) none false talk).dueVisit
      = some ({ number := 2000#32, pos := .calls (some 2) }, 3)
    ∧ (passAt (.calls (some 3)) none false talk).dueVisit = none
    ∧ (passAt (.calls (some 3)) none false talk).dueCheck
      = some ({ number := 2000#32, pos := .calls (some 3) }, 0)
    ∧ (passAt (.slots 31) none false talk).dueCheck = some ({ number := 2000#32, pos := .slots 31 }, 31)
    ∧ (passAt (.slots 31) none false talk).dueVisit = none
    ∧ (passAt (.slots 31) none true talk).dueCheck = none
    ∧ (passAt (.slots 32) none false talk).endPass.timer.pass = none
    ∧ (passAt (.slots 32) (some 2001#32) false talk).endPass.timer.pass
      = some { number := 2001#32, pos := .calls none }
    ∧ (passAt (.slots 32) none true talk).endPass.timer.pass.isSome = true := by decide +kernel

/-- A deadline that the pass number has just reached, one tick later, and none; each state that has one,
with an entry and without. -/
theorem witness_SlotsChecked :
    (checking (slotOf .claimed)).dueCheck = some ({ number := 2050#32, pos := .slots 5 }, 5)
    ∧ (slotOf .claimed).deadline = some 2050#32 ∧ (2050#32 - 2050#32).toNat < 2147483648
    ∧ ¬ ((2050#32 - 2051#32).toNat < 2147483648)
    ∧ (slotOf .requested).state ≠ .claimed ∧ (slotOf .claimed).owner = some 144
    ∧ (slotOf .challenged).entry = none
    ∧ ({ slotOf .challenged with entry := some 900 } : Mbox).entry = some 900
    ∧ ({ slotOf .decided with owner := none } : Mbox).owner = none := by decide +kernel

/-! ## Witnesses: admission orders, reports and RESTART -/

/-- Numbers 511, 512, 1,023 and 1,024; roles and orders; a member, an owner of a slot, an endpoint
with a claim in flight, and one with none of these; entries whose endpoint is in a call, and is not. -/
theorem witness_AdmissionOrders :
    (fetching up).FetchAt 0 5#16 ∧ roleOf 2#8 = some .trunk ∧ orderOf .trunk 1#8 = some true
    ∧ roleOf 3#8 = some .control ∧ orderOf .station 7#8 = some false
    ∧ 512 ≤ (512#16).toNat ∧ (511 : EpNo).val = (511#16).toNat
    ∧ up.endpoints[(40 : EpNo)].role = .control ∧ up.endpoints[(511 : EpNo)].role = .unused
    ∧ talk.endpoints[(100 : EpNo)].call ≠ none ∧ up.endpoints[(100 : EpNo)].call = none
    ∧ (seated (slotOf .claimed)).endpoints[(144 : EpNo)].slot ≠ none
    ∧ ((inFlight .claim false Mbox.free).mailboxes[(5 : MboxNo)].inFlight.map Mark.ep) = some 144
    ∧ up.endpoints[(130 : EpNo)].slot = none ∧ (∀ m : MboxNo, up.mailboxes[m].inFlight = none)
    ∧ up.endpoints[(130 : EpNo)].bigEndian ≠ true
    ∧ up.endpoints[(100 : EpNo)].admitted = some 1
    ∧ (1023 : EntryNo).val = (1023#16).toNat ∧ 1024 ≤ (1024#16).toNat
    ∧ (99999999#32).toNat ≤ 99999999 ∧ 99999999 < (100000000#32).toNat
    ∧ up.directory[(1023 : EntryNo)].admittedEp = none
    ∧ (talk.setEntry 1 { DirEntry.reset with admittedEp := some 100 }).directory[(1 : EntryNo)].admittedEp
      = some 100 :=
  ⟨fetchAt_fetching up, by decide +kernel⟩

theorem witness_RevokeOrders :
    (fetching talk).FetchAt 0 5#16
    ∧ (withCall { call0 with members := [] } talk).calls[(3 : CallNo)].members = []
    ∧ (withCall { call0 with members := [] } talk).calls[(3 : CallNo)].state = .opened
    ∧ talk.calls[(3 : CallNo)].members ≠ [] ∧ 512 ≤ (512#16).toNat ∧ (511 : EpNo).val = (511#16).toNat
    ∧ up.endpoints[(511 : EpNo)].call = none
    ∧ (fetching talk).endpoints[(100 : EpNo)].call = some 3
    ∧ ((fetching talk).calls[(3 : CallNo)].members.map Member.ep).Nodup
    ∧ { ep := 100, ring := 5 } ∈ (fetching talk).calls[(3 : CallNo)].members :=
  ⟨fetchAt_fetching talk, by decide +kernel⟩

/-- A check's waiting request for entry 900, asked at a tick. -/
def check0 (cls : ActClass) (ask : Word) : ActRequest :=
  { subject := .entry 900, cls := cls, age := 0, derive_ := false, slots := [6], askTick := ask }

/-- Asked 7 and 8 ticks ago; a lock at the present tick; fail counts 1 and 2. -/
theorem witness_ChecksAskedAgedAndLocked :
    admission.mailboxes[(5 : MboxNo)].entry = some 900
    ∧ (∀ q ∈ admission.waiting, q.subject ≠ .entry 900)
    ∧ (check0 .admit_ 1992#32).subject = .entry 900 ∧ 5 ∉ (check0 .admit_ 1992#32).slots
    ∧ (check0 .admit_ 1992#32).cls ≠ .admitAged ∧ (check0 .admitAged 1992#32).cls = .admitAged
    ∧ 8 ≤ (up.timer.counter - 1992#32).toNat ∧ ¬ 8 ≤ (up.timer.counter - 1993#32).toNat
    ∧ (listed (some 2000#32)).directory[(900 : EntryNo)].lock = some (listed none).timer.counter
    ∧ (2000#32 - 2000#32).toNat < 2147483648 ∧ 2147483648 ≤ (2000#32 - 2001#32).toNat
    ∧ ({ DirEntry.reset with fails := 1 } : DirEntry).fails < 2
    ∧ ({ DirEntry.reset with fails := 2 } : DirEntry).fails = 2 := by decide +kernel

theorem test_aging_at_8_ticks :
    let s := fun (ask : Word) => (up.setWaiting [check0 .admit_ ask]).setLane 0 Lane.reset
    let busy := fun (ask : Word) => { s ask with starts := [0, 0, 0, 0] }
    ((after (.admitAging 9) (busy 1992#32)).waiting.map ActRequest.cls) = [.admitAged]
    ∧ ((after (.admitAging 9) (busy 1993#32)).waiting.map ActRequest.cls) = [.admit_]
    ∧ (after (.admitAging 9) (busy 1992#32)).mailboxes[(6 : MboxNo)].aged = true
    ∧ (after (.admitAging 9) (busy 1992#32)).port.selfQ
      = [selfWrite (0x150000 / 4 + 16 * 6 + 5) [0x00000100#32] (.mirror 6)] := by decide +kernel

/-- 64 records from endpoint 448, and 65 or one further on; a buffer that ends where VOICE begins, and
one 16 bytes later; one that ends at the top of the byte space; one that is not on a multiple of 16. -/
theorem witness_ReportOrders :
    (fetching up).FetchAt 0 5#16
    ∧ ((64#16).toNat ≤ 64 ∧ (448#16).toNat + (64#16).toNat = 512
      ∧ ¬ (449#16).toNat + (64#16).toNat ≤ 512 ∧ ¬ (65#16).toNat ≤ 64)
    ∧ ((0x0FFC00#32).toNat % 16 = 0 ∧ (0x0FFC00#32).toNat + 16 * 64 = 0x100000)
    ∧ (∀ area ∈ planAreas plan0 up.anchorByte,
        (0x0FFC00#32).toNat + 16 * 64 ≤ area.1 ∨ area.1 + area.2 ≤ (0x0FFC00#32).toNat)
    ∧ ¬ (∀ area ∈ planAreas plan0 up.anchorByte,
        (0x0FFC10#32).toNat + 16 * 64 ≤ area.1 ∨ area.1 + area.2 ≤ (0x0FFC10#32).toNat)
    ∧ (0xFFFFFFC0#32).toNat + 16 * 4 = 4294967296 ∧ 4294967296 < (0xFFFFFFD0#32).toNat + 16 * 4
    ∧ (0x200008#32).toNat % 16 ≠ 0 ∧ (127 : CallNo).val = (127#16).toNat ∧ 128 ≤ (128#16).toNat :=
  ⟨fetchAt_fetching up, by decide +kernel⟩

/-- The part with a REPORT of 9 records in execution, and m entries in the self-traffic queue. -/
def reporting (placed outstanding m : Nat) : State :=
  (queued m 0 up).setEngine { up.engine with
    inExec := some { seq := 5#16
                     phase := .report (ReportJob.mk (.endpoints 0 9) 0x200000 placed outstanding false) } }

/-- Two writes of three fit, all three, and none; the last answer, and one before it. -/
theorem witness_ReportProgress :
    (reporting 0 0 0).engine.inExec.map OrderExec.phase
      = some (.report (ReportJob.mk (.endpoints 0 9) 0x200000 0 0 false))
    ∧ (ReportKind.endpoints 0 9).writes = 3
    ∧ min (3 - 0) (8 - (reporting 0 0 6).port.selfQ.length) = 2
    ∧ min (3 - 0) (8 - (reporting 0 0 5).port.selfQ.length) = 3
    ∧ min (3 - 0) (8 - (reporting 0 0 8).port.selfQ.length) = 0
    ∧ (reporting 0 0 6).port.waiters = [] ∧ (waitsFor 6 [2]).port.waiters ≠ []
    ∧ (awaits .write 1 (.self .report) (reporting 3 1 0)).port.awaiting[0]?
      = some { req := awaited .write 1, src := .self .report }
    ∧ (1 < 2 ∧ 2 < (ReportKind.endpoints 0 9).writes ∧ (ReportKind.endpoints 0 9).writes ≤ 3)
    ∧ up.engine.inExec = none
    -- the last write of 9 records from endpoint 503, and the codes and words of the records
    ∧ 503 + 9 ≤ 512 ∧ 4 * 2 < 9 ∧ (511 : EpNo).val = 503 + 4 * 2 + 0
    ∧ up.endpoints[(511 : EpNo)].role = .unused ∧ up.endpoints[(511 : EpNo)].lastViolation = none
    ∧ talk.calls[(3 : CallNo)].state = .opened ∧ wordOfBytes 2#8 0#8 0#8 0#8 = talk.calls[(3 : CallNo)].frame
    ∧ wordOfBytes 0xFF#8 0xFF#8 0xFF#8 0xFF#8
      = talk.calls[(3 : CallNo)].prev.elim 0xFFFFFFFF#32 PrevKey.advance
    ∧ talk.timer.state = .externalLocked ∧ wordOfBytes 0xD0#8 7#8 0#8 0#8 = talk.timer.counter
    ∧ talk.lanes[(0 : LaneNo)].state = .ready ∧ talk.lanes[(0 : LaneNo)].subject = some (.call 3)
    ∧ up.lanes[(0 : LaneNo)].subject = none := by decide +kernel

/-- A REPORT whose first write is placed and whose second waits, with m entries in the queue. -/
def recordWaits (m : Nat) : State :=
  (reporting 1 1 m).setPort { (reporting 1 1 m).port with waiters := [.reportWrite] }

/-- One place is free, and none; a record write waits with no REPORT in execution. -/
theorem witness_SelfTrafficPlaced_record :
    (recordWaits 7).port.waiters = [.reportWrite] ∧ (recordWaits 7).port.selfQ.length < 8
    ∧ 8 ≤ (recordWaits 8).port.selfQ.length
    ∧ (recordWaits 7).engine.inExec.map OrderExec.phase
      = some (.report (ReportJob.mk (.endpoints 0 9) 0x200000 1 1 false))
    ∧ 1 < (ReportKind.endpoints 0 9).writes
    ∧ ((recordWaits 7).setEngine up.engine).engine.inExec = none
    ∧ (queued 6 0 up).port.waiters = [] := by decide +kernel

/-- With one place free the second write takes it, at buffer + 64, and the third waits; with three free
the second and the third, of one record, are placed. -/
theorem test_waiting_record_placed :
    let sent := fun (m : Nat) =>
      ((after (.selfTrafficPlacement 9) (recordWaits m)).port.selfQ.drop m).map fun e => (4 * e.addr, e.len)
    sent 7 = [(0x200040, 16)] ∧ sent 5 = [(0x200040, 16), (0x200080, 4)]
    ∧ (after (.selfTrafficPlacement 9) (recordWaits 7)).port.waiters = [.reportWrite]
    ∧ (after (.selfTrafficPlacement 9) (recordWaits 5)).port.waiters = [] := by decide +kernel

/-- Endpoint 100's record and the head of call 3's, byte by byte from the tables of 10.7. -/
theorem test_records_by_offset :
    talk.reportBytes (.endpoints 100 1) 0
      = [1#8, 1#8, 1#8, 0#8, 0#8, 0#8, 1#8, 3#8, 0xFF#8, 0xFF#8, 0#8, 0#8, 0#8, 0#8, 0#8, 0#8]
    ∧ (talk.reportBytes (.call 3) 0).take 32
      = [3#8, 1#8, 2#8, 3#8, 2#8, 0#8, 0#8, 0#8, 0#8, 0#8, 0#8, 0#8, 0xFF#8, 0xFF#8, 0xFF#8, 0xFF#8,
         16#8, 0#8, 0#8, 0#8, 0#8, 0#8, 0xFF#8, 0xFF#8, 100#8, 0#8, 5#8, 0#8, 130#8, 0#8, 6#8, 0#8] := by
  decide +kernel

theorem witness_RestartQuiesces :
    (fetching talk).FetchAt 0 5#16 ∧ (fetching talk).calls[(3 : CallNo)].state = .opened
    ∧ closing.calls[(3 : CallNo)].state = .closing ∧ talk.calls[(4 : CallNo)].state = .free
    ∧ (seated (slotOf .challenged)).mailboxes[(5 : MboxNo)].state ≠ .free
    ∧ up.mailboxes[(5 : MboxNo)].state = .free
    ∧ admission.lanes[(2 : LaneNo)].subject = some (.entry 900)
    ∧ talk.lanes[(0 : LaneNo)].subject = some (.call 3) :=
  ⟨fetchAt_fetching talk, by decide +kernel⟩

/-- The part QUIESCING, its RESTART draining. -/
def restarting (s : State) : State :=
  { s with
    part := .quiescing
    engine := { s.engine with inExec := some { seq := 5#16, phase := .restart false } } }

theorem witness_DrainingEnds :
    (restarting up).engine.inExec = some { seq := 5#16, phase := .restart false }
    ∧ (restarting up).part = .quiescing ∧ (∀ c : CallNo, (restarting up).calls[c].state = .free)
    ∧ (∀ l : LaneNo, (restarting up).lanes[l].state ≠ .expanding)
    ∧ (∀ m : MboxNo, (restarting up).mailboxes[m].selfRead = false
        ∧ (restarting up).mailboxes[m].inFlight = none)
    ∧ (restarting up).engine.backlog = []
    ∧ ((restarting up).engine.completionProducer - (restarting up).engine.completionConsumer).toNat < 64
    ∧ (restarting closing).calls[(3 : CallNo)].state ≠ .free
    ∧ (let s := awaits .write 4 (.self (.completionEntry .order true)) (restarting up)
      s.awaitingIdx Awaiting.isRestartEntry = some 0
      ∧ s.port.awaiting[0]?
        = some { req := awaited .write 4, src := .self (.completionEntry .order true) })
    ∧ (restarting up).awaitingIdx Awaiting.isRestartEntry = none := by decide +kernel

/-- Entered UNPLANNED, a held count write is no event any more, and a held signature write is one. -/
theorem test_watches_at_unplanned :
    let watched := fun (w : Watch) => { openRead with watch := some w }
    let s := awaits .write 4 (.self (.completionEntry .order true)) (restarting up)
    let u := after (.unplannedEntry 9 (.ok [])) (s.setPort { s.port with
      hold := [watched (.orderCount 1#16), watched (.completionCount 1#16), watched .signature] })
    u.part = .unplanned ∧ u.port.hold.map Accepted.watch = [none, none, some .signature]
    ∧ u.port.awaiting = [] := by decide +kernel

/-- A SLIP notice. -/
def slip0 (n : Nat) : Notice := { kind := .slip, subject := .none, data := [], repeats := n }

/-- The part with notices in the backlog and a completion held. -/
def noted (ns : List Notice) (held : Option Completion) (s : State) : State :=
  s.setEngine { s.engine with backlog := ns, held := held }

theorem witness_NoticesDelivered :
    (∀ x ∈ [({ kind := .admitted, subject := .none, data := [], repeats := 1 } : Notice)],
      x.kind ≠ (slip0 1).kind)
    ∧ (slip0 255).kind = (slip0 1).kind ∧ State.reset.part = .unplanned ∧ up.part ≠ .unplanned
    ∧ (noted [slip0 1, slip0 2] none up).engine.backlog = slip0 1 :: [slip0 2]
    ∧ (up.engine.completionProducer - up.engine.completionConsumer).toNat < 64
    ∧ 64 ≤ ((full up).engine.completionProducer - (full up).engine.completionConsumer).toNat
    ∧ (noted [] (some (orderCompletion 5#16 .done .none [])) up).engine.held
      = some (orderCompletion 5#16 .done .none [])
    ∧ (awaits .write 1 (.self (.mirror 31)) up).port.awaiting[0]?
      = some { req := awaited .write 1, src := .self (.mirror 31) }
    ∧ (SelfSource.mirror 31).faultData = some [4#8, 31#8]
    ∧ (SelfSource.completionEntry .memoryFault false).faultData = some [2#8]
    ∧ SelfSource.mirror 31 ≠ .completionEntry .memoryFault false := by decide +kernel

theorem test_repeat_count_saturates :
    addNotice (slip0 1) [slip0 254] = [slip0 255] ∧ addNotice (slip0 1) [slip0 255] = [slip0 255] := by
  decide

/-! ## Witnesses: key lanes and the generator -/

/-- Lane 0 EXPANDING for call 3, with derivation or not. -/
def expanding (derives : Bool) (u : Option Subject) (s : State) : State :=
  s.setLane 0 { Lane.reset with
    state := .expanding, subject := u
    expansion := some { start := 0, finish := 1500, derives := derives, slots := [] } }

/-- The part with starts listed; at 20,000 the start at 0 has left. -/
def started (now : Instant) : State := { up with now := now, starts := [0, 2000] }

theorem witness_LaneEvents :
    up.hasPlan = true ∧ up.plan = some plan0
    ∧ (started 19999).starts = [] ++ 0 :: [2000] ∧ (started 19999).now < 0 + plan0.tAw * 1000
    ∧ (started 20000).starts = [0] ++ 2000 :: []
    ∧ (∀ y ∈ [0], y + plan0.tAw * 1000 ≤ (started 20000).now)
    ∧ (started 20000).now < 2000 + plan0.tAw * 1000
    ∧ (∀ y ∈ (started 22000).starts, y + (started 22000).thePlan.tAw * 1000 ≤ (started 22000).now)
    ∧ State.reset.hasPlan = false
    ∧ (expanding true (some (.call 3)) talk).lanes[(0 : LaneNo)].state = .expanding
    ∧ (expanding true (some (.call 3)) talk).lanes[(0 : LaneNo)].expansion.isSome = true
    ∧ talk.calls[(3 : CallNo)].state = .opened ∧ talk.calls[(3 : CallNo)].next = none
    ∧ talk.calls[(3 : CallNo)].key = some key0
    ∧ (rekeyed none).next ≠ none ∧ closing.calls[(3 : CallNo)].state ≠ .opened
    ∧ (expanding false none talk).lanes[(0 : LaneNo)].subject = none
    ∧ up.lanes[(0 : LaneNo)].state ≠ .expanding := by decide +kernel

/-- The key derived at the completion is the manual's key of epoch 1 (chapter 4). -/
theorem test_derived_key_recorded :
    let u := after (.callActivationCompletion 0) (expanding true (some (.call 3)) talk)
    u.calls[(3 : CallNo)].next
      = some { k0 := 0x7A2C#16, k1 := 0xB6E3#16, k2 := 0xEE66#16, k3 := 0xA29C#16 }
    ∧ u.now = 1500 ∧ u.lanes[(0 : LaneNo)].state = .ready := by decide +kernel

theorem witness_ActivationsAskedAndGranted :
    let held := unlaned.setPort { unlaned.port with hold := [voiceRead] }
    let inPlace : ActRequest := { waits0 .rekey with derive_ := true }
    let busy := { up with lanes := Vector.replicate 8 { Lane.reset with state := .ready, count := 1 } }
    (held.memberCall voiceRead = some 3 ∧ held.readyLane 3 = none
      ∧ held.calls[(3 : CallNo)].lane = none)
    ∧ held.voiceUpkeep.waiting.map ActRequest.subject = [.call 3]
    ∧ (unlaned.setWaiting [waits0 .voice]).nextGrant = some (waits0 .voice)
    ∧ (busy.setWaiting [waits0 .voice]).nextGrant = none
    ∧ talk.startLane inPlace = some (0, true) ∧ unlaned.startLane (waits0 .voice) = some (0, false)
    ∧ up.plan = some plan0 ∧ 0 < plan0.tAw ∧ up.starts.length ≤ 4
    -- a REKEY request takes class VOICE, and a VOICE request leaves it or is withdrawn
    ∧ ((held.setWaiting [inPlace]).voiceUpkeep.waiting.map ActRequest.cls) = [.voice]
    ∧ ((unlaned.setWaiting [{ inPlace with cls := .voice }]).voiceUpkeep.waiting.map ActRequest.cls)
      = [.rekey]
    ∧ (unlaned.setWaiting [waits0 .voice]).voiceUpkeep.waiting = []
    -- evictable, and not: a request of its call waits, or one of its members is held
    ∧ talk.evictable 0 = true ∧ (talk.setWaiting [waits0 .rekey]).evictable 0 = false
    ∧ (talk.setPort { talk.port with hold := [voiceRead] }).evictable 0 = false
    ∧ ([0, 1, 2] : List Instant).length < 4 ∧ addStart [0, 1, 2] 3 = [0, 1, 2, 3]
    ∧ addStart [0, 1, 2, 3] 4 = [1, 2, 3, 4] := by decide +kernel

/-- Four starts in the window, the oldest leaving at 20,000; UNPLANNED; every lane EXPANDING but one
that is evictable. -/
theorem witness_ActivationsAskedAndGranted_window :
    let s := fun (now : Instant) =>
      { unlaned.setWaiting [waits0 .voice] with now := now, starts := [0, 2000, 4000, 6000] }
    let window := fun (now : Instant) => ((s now).starts.filter fun x => (s now).now < x + 20 * 1000).length
    let one := { unlaned with
      lanes := (Vector.replicate 8 { Lane.reset with state := .expanding }).set 7
        { Lane.reset with state := .ready } }
    window 19999 = 4 ∧ window 20000 = 3 ∧ (s 20000).plan = some plan0 ∧ plan0.tAw = 20
    ∧ (s 20000).part ≠ .unplanned ∧ (s 20000).nextGrant = some (waits0 .voice)
    ∧ (s 20000).startLane (waits0 .voice) = some (0, false) ∧ State.reset.part = .unplanned
    ∧ (∀ l : LaneNo, ¬ (one.lanes[l].state = .expanding ∧ one.lanes[l].subject = some (.call 3)))
    ∧ one.calls[(3 : CallNo)].lane = none ∧ one.evictable 7 = true
    ∧ one.startLane (waits0 .voice) = some (7, false) := by decide +kernel

/-- At 19,999 no fifth start is made, at 20,000 it is, and in UNPLANNED none is. -/
theorem test_no_fifth_start_in_the_window :
    let s := fun (now : Instant) =>
      { unlaned.setWaiting [waits0 .rekeyForced] with now := now, starts := [0, 2000, 4000, 6000] }
    (s 19999).grantAll.starts = [0, 2000, 4000, 6000]
    ∧ (s 20000).grantAll.starts = [2000, 4000, 6000, 20000]
    ∧ ({ s 20000 with part := .unplanned } : State).grantAll.starts = [0, 2000, 4000, 6000] := by
  decide +kernel

theorem witness_UsesOfTheGenerator :
    (7 < 8 ∧ segPlace key0 2#32 5 7 < segPlace key0 2#32 5 1)
    ∧ (0 : Fin 8).val = 0 ∧ (7 : Fin 8).val ≠ 0 := by decide +kernel

/-! ## Witnesses: the invariants -/

theorem witness_AlertKept :
    State.reset.AlertRight ∧ ∃ u, step State.reset = .next u :=
  ⟨by unfold State.AlertRight; decide +kernel, _, rfl⟩

theorem witness_ReservationsKept :
    State.reset.ReservationsAgree ∧ State.reset.MonitorBounded ∧ ∃ u, step State.reset = .next u :=
  ⟨⟨by decide +kernel, fun e w => by simp [State.reset, EndpointRec.reset]⟩,
    by unfold State.MonitorBounded; decide +kernel, _, rfl⟩

/-- The bounds hold, at their limits, in states that a command has in front. -/
theorem witness_BoundsKept :
    (∃ u, step { up with pending := [.admitAging 9] } = .next u)
    ∧ up.PortBounded ∧ (queued 8 3 up).SelfQueueBounded
    ∧ ({ up with starts := [0, 1, 2, 3] } : State).StartsBounded
    ∧ (noted [slip0 1] none up).BacklogDistinct ∧ (full up).CompletionsBounded
    ∧ ((arriving voiceRead talk).setPort
        { (arriving voiceRead talk).port with nextId := 8 }).ResponsesDistinct := by
  refine ⟨⟨_, rfl⟩, ?_, ?_, ?_, ?_, ?_, ?_⟩
  · unfold State.PortBounded; decide +kernel
  · unfold State.SelfQueueBounded; decide +kernel
  · unfold State.StartsBounded; decide +kernel
  · unfold State.BacklogDistinct; decide +kernel
  · unfold State.CompletionsBounded; decide +kernel
  · unfold State.ResponsesDistinct; decide +kernel

theorem witness_BoundsKept_tables : talk.CallsBounded ∧ admission.FailsBounded := by
  constructor
  · intro c
    simp only [talk, up, State.reset, Fin.getElem_fin, Vector.getElem_set, Vector.getElem_replicate]
    split <;> decide
  · intro d
    simp only [admission, up, State.reset, Fin.getElem_fin, Vector.getElem_set,
      Vector.getElem_replicate]
    split <;> decide

theorem witness_SlotsKept :
    (seated (slotOf .challenged)).SlotsWellFormed
    ∧ ∃ u, step { seated (slotOf .challenged) with pending := [.slotCheck 9] } = .next u :=
  ⟨by unfold State.SlotsWellFormed; decide +kernel, _, rfl⟩

/-- The part right after reset. -/
theorem witness_PairsKept :
    State.reset.CallsPaired ∧ State.reset.SlotsPaired ∧ State.reset.AdmissionPaired
    ∧ State.reset.RestartQuiet ∧ State.reset.SlotsWellFormed
    ∧ ∃ u, step { State.reset with pending := [.downstreamGrant 9] } = .next u := by
  refine ⟨⟨?_, ?_, ?_⟩, ⟨?_, ?_⟩, ⟨?_, ?_⟩, ⟨?_, ?_, ?_⟩, ?_, ⟨_, rfl⟩⟩
  · intro c; simp [State.reset, Call.free]
  · intro e c; simp [State.reset, EndpointRec.reset, Call.free]
  · intro r c e; simp [State.reset, Ring.free, Call.free]
  · intro m e; simp [State.reset, EndpointRec.reset, Mbox.free]
  · intro m k; simp [State.reset, Mbox.free]
  · intro e d; simp [State.reset, EndpointRec.reset, DirEntry.reset]
  · intro m e; simp [State.reset, Mbox.free]
  · simp [State.reset, Port.reset, Port.restarts]
  · simp [State.reset, Port.reset, Port.restarts]
  · intro q w; simp [State.reset, Engine.reset]
  · unfold State.SlotsWellFormed; decide +kernel

/-- The part with lane 0 READY for call 3. -/
theorem witness_LanesKept :
    talk.LanesPaired ∧ ∃ u, step { talk with pending := [.downstreamGrant 9] } = .next u := by
  refine ⟨⟨?_, ?_, ?_, ?_, ?_⟩, _, rfl⟩
  · decide +kernel
  · intro d l l'
    have h : ∀ l : LaneNo, talk.lanes[l].subject = some (.call 3) ∨ talk.lanes[l].subject = none := by
      decide +kernel
    intro h1
    rcases h l with h | h <;> exact absurd (h.symm.trans h1) (by simp)
  · intro l
    have h : ∀ l : LaneNo, (talk.lanes[l].subject = some (.call 3) ∧ talk.lanes[l].state = .ready)
        ∨ (talk.lanes[l].subject = none ∧ talk.lanes[l].state = .empty) := by
      decide +kernel
    rcases h l with ⟨h, g⟩ | ⟨h, g⟩
    · exact ⟨fun x => absurd (g.symm.trans x) (by decide), fun _ => ⟨3, h⟩,
        fun d x => absurd (h.symm.trans x) (by simp)⟩
    · exact ⟨fun _ => h, fun x => absurd (g.symm.trans x) (by decide),
        fun d x => absurd (h.symm.trans x) (by simp)⟩
  · decide +kernel
  · decide +kernel

end Sys2Proof.Tests
end

namespace Sys2Proof.Reset

open Sys2Proof Sys2Proof.Machine Sys2Proof.Laws

/-! ## The tables after a reset (R11) -/

/-- A state whose every record but the pins, the queue and the instant is that of reset has every table
as hard reset leaves it. -/
theorem fresh_of_reset (now : Instant) (low : Bool) (sel : BitVec 8) (boot : EpNo)
    (q : List Instr) :
    State.Fresh { State.reset with
      now := now, resetLow := low, anchorSel := sel, bootEp := boot, pending := q } := by
  refine ⟨rfl, rfl, rfl, fun e => ?_, fun d => ?_, fun m => ?_, rfl, rfl, fun r => ?_, fun c => ?_,
    fun l => ?_, rfl, rfl, ?_, rfl, ?_, rfl⟩
  · exact Vector.getElem_replicate ..
  · exact Vector.getElem_replicate ..
  · exact Vector.getElem_replicate ..
  · exact Vector.getElem_replicate ..
  · exact Vector.getElem_replicate ..
  · exact Vector.getElem_replicate ..
  · exact ⟨rfl, rfl, rfl, rfl, rfl, rfl, rfl, rfl, rfl⟩
  · exact ⟨rfl, rfl, rfl, rfl, rfl, rfl, rfl, rfl⟩

theorem reset_fresh : State.reset.Fresh := fresh_of_reset 0 false 0#8 0 []

theorem hardReset_fresh (s : State) : s.hardReset.Fresh := fresh_of_reset ..

theorem riseReset_fresh (s : State) (a : BitVec 8) (b : EpNo) : (s.riseReset a b).Fresh :=
  fresh_of_reset ..

/-- While RESET_N is low an offered request changes nothing (R11). -/
theorem offer_of_resetLow (s : State) (r : Request) (h : s.resetLow = true) : s.offer r = s := by
  simp [State.offer, State.accepts, h]

/-- While RESET_N is low the memory port issues nothing (R11). -/
theorem grantDown_of_resetLow (s : State) (h : s.resetLow = true) : s.grantDown = s := by
  simp [State.grantDown, h]

/-- A command that offers a request brings it to the port at its instant (R16, R18). -/
theorem exec_of_offers {c : Instr} {t : Instant} {r : Request} (h : Offers c t r) (s : State) :
    exec c s = .next ((s.atInstant t).offer r).settle := by
  cases h <;> rfl

/-- Settles O2: both edges of RESET_N leave fresh tables, and while it is low an offer and a grant
do nothing. -/
theorem resetEmptiesTheTables : Obligations.ResetEmptiesTheTables := by
  refine ⟨fun s => ⟨s.hardReset, rfl, rfl, rfl, rfl, rfl, rfl, rfl, rfl, rfl⟩, ?_, ?_, ?_⟩
  · intro s c t r hlow hc
    rw [exec_of_offers hc, offer_of_resetLow (s.atInstant t) r hlow]
  · intro s t hlow
    show Host.Outcome.next (s.atInstant t).grantDown.settle = _
    rw [grantDown_of_resetLow (s.atInstant t) hlow]
  · exact fun a b s _ => ⟨s.riseReset a b, rfl, riseReset_fresh s a b, rfl, rfl, rfl⟩

/-! ## Invariants of a state whose tables are as reset leaves them -/

section Fresh

variable {u : State}

theorem alertRight_of_fresh (h : u.Fresh) : u.AlertRight := by
  obtain ⟨hpart, -, -, -, -, -, -, -, -, -, -, -, -, -, -, -, halert⟩ := h
  simp [State.AlertRight, hpart, halert]

theorem completionsBounded_of_fresh (h : u.Fresh) : u.CompletionsBounded := by
  obtain ⟨-, -, -, -, -, -, -, -, -, -, -, -, -, -, hengine, -, -⟩ := h
  simp [State.CompletionsBounded, hengine]

theorem backlogDistinct_of_fresh (h : u.Fresh) : u.BacklogDistinct := by
  obtain ⟨-, -, -, -, -, -, -, -, -, -, -, -, -, -, hengine, -, -⟩ := h
  simp [State.BacklogDistinct, hengine]

theorem reservationsAgree_of_fresh (h : u.Fresh) : u.ReservationsAgree := by
  obtain ⟨-, -, -, hep, -, -, hmon, -⟩ := h
  refine ⟨by simp [hmon], fun e w => ?_⟩
  rw [hep e, hmon]
  simp

theorem monitorBounded_of_fresh (h : u.Fresh) : u.MonitorBounded := by
  obtain ⟨-, -, -, -, -, -, hmon, -⟩ := h
  simp [State.MonitorBounded, hmon]

theorem portBounded_of_fresh (h : u.Fresh) : u.PortBounded := by
  obtain ⟨-, -, -, -, -, -, -, -, -, -, -, -, -, -, -, hport, -⟩ := h
  obtain ⟨harr, hhold, hx, hresp, -, -, -, hrun⟩ := hport
  simp [State.PortBounded, harr, hhold, hx, hresp, hrun]

theorem selfQueueBounded_of_fresh (h : u.Fresh) : u.SelfQueueBounded := by
  obtain ⟨-, -, -, -, -, -, -, -, -, -, -, -, -, -, -, hport, -⟩ := h
  obtain ⟨-, -, -, -, -, hself, -, -⟩ := hport
  simp [State.SelfQueueBounded, hself]

theorem startsBounded_of_fresh (h : u.Fresh) : u.StartsBounded := by
  obtain ⟨-, -, -, -, -, -, -, -, -, -, -, -, hstarts, -⟩ := h
  simp [State.StartsBounded, hstarts]

theorem failsBounded_of_fresh (h : u.Fresh) : u.FailsBounded := by
  obtain ⟨-, -, -, -, hdir, -⟩ := h
  intro d
  simp only [hdir d, Nat.zero_le]

theorem callsBounded_of_fresh (h : u.Fresh) : u.CallsBounded := by
  obtain ⟨-, -, -, -, -, -, -, -, -, hcall, -⟩ := h
  intro c
  simp only [hcall c, List.length_nil, Nat.zero_le, and_self]

theorem slotsWellFormed_of_fresh (h : u.Fresh) : u.SlotsWellFormed := by
  obtain ⟨-, -, -, -, -, hmbox, -⟩ := h
  intro m
  simp [hmbox m]

theorem callsPaired_of_fresh (h : u.Fresh) : u.CallsPaired := by
  obtain ⟨-, -, -, hep, -, -, -, -, hring, hcall, -⟩ := h
  refine ⟨fun c => ?_, fun e c => ?_, fun r c e => ?_⟩
  · simp [hcall c]
  · simp [hcall c, hep e]
  · simp [hcall c, hring r]

theorem slotsPaired_of_fresh (h : u.Fresh) : u.SlotsPaired := by
  obtain ⟨-, -, -, hep, -, hmbox, -⟩ := h
  refine ⟨fun m e => ?_, fun m k hk => ?_⟩
  · simp [hmbox m, hep e]
  · simp [hmbox m] at hk

theorem admissionPaired_of_fresh (h : u.Fresh) : u.AdmissionPaired := by
  obtain ⟨-, -, -, hep, hdir, hmbox, -⟩ := h
  refine ⟨fun e d => ?_, fun m e => ?_⟩
  · simp [hep e, hdir d]
  · simp [hmbox m]

theorem restartQuiet_of_fresh (h : u.Fresh) : u.RestartQuiet := by
  obtain ⟨-, -, -, -, -, -, -, -, -, -, -, -, -, -, hengine, hport, -⟩ := h
  obtain ⟨-, -, -, -, hawait, hself, hwait, -⟩ := hport
  have hnone : u.port.restarts = 0 := by simp [Port.restarts, hself, hwait, hawait]
  refine ⟨by omega, by omega, fun q w hq => ?_⟩
  simp [hengine] at hq

theorem responsesDistinct_of_fresh (h : u.Fresh) : u.ResponsesDistinct := by
  obtain ⟨-, -, -, -, -, -, -, -, -, -, -, -, -, -, -, hport, -⟩ := h
  obtain ⟨-, -, -, hresp, -⟩ := hport
  simp [State.ResponsesDistinct, hresp]

theorem lanesPaired_of_fresh (h : u.Fresh) : u.LanesPaired := by
  obtain ⟨-, -, -, -, -, -, -, -, -, hcall, hlane, hwaiting, -⟩ := h
  refine ⟨fun c l => ?_, fun d l l' => ?_, fun l => ?_, fun c _ => ?_, ?_⟩
  · simp [hcall c, hlane l]
  · simp [hlane l]
  · simp [hlane l]
  · simp [hcall c]
  · simp [hwaiting]

end Fresh

/-- Settles O3: fresh tables meet each invariant, and both edges of RESET_N leave them. -/
theorem resetMeetsInvariants : Obligations.ResetMeetsInvariants := by
  have h := reset_fresh
  exact ⟨⟨h, alertRight_of_fresh h, completionsBounded_of_fresh h, reservationsAgree_of_fresh h,
      monitorBounded_of_fresh h, portBounded_of_fresh h, selfQueueBounded_of_fresh h,
      startsBounded_of_fresh h, failsBounded_of_fresh h, callsBounded_of_fresh h,
      backlogDistinct_of_fresh h, slotsWellFormed_of_fresh h, responsesDistinct_of_fresh h,
      callsPaired_of_fresh h, slotsPaired_of_fresh h, admissionPaired_of_fresh h,
      restartQuiet_of_fresh h, lanesPaired_of_fresh h, rfl, rfl⟩,
    fun s => ⟨s.hardReset, rfl, hardReset_fresh s, rfl, rfl, rfl, rfl⟩,
    fun a b s => ⟨s.riseReset a b, rfl, riseReset_fresh s a b, rfl, rfl, rfl, rfl, rfl⟩⟩

end Sys2Proof.Reset

namespace Sys2Proof.Regions

open Sys2Proof Sys2Proof.Machine Sys2Proof.Laws

/-! ## Regions (R12) -/

theorem thePlan_of_plan {s : State} {p : Plan} (h : s.plan = some p) : s.thePlan = p := by
  simp [State.thePlan, h]

theorem inArea_iff (base len byte : Nat) :
    inArea base len byte = true ↔ base ≤ byte ∧ byte < base + len := by
  simp [inArea]

theorem rangesMeet_iff (a b : Nat × Nat) :
    rangesMeet a b = true ↔ a.1 < b.1 + b.2 ∧ b.1 < a.1 + a.2 := by
  simp [rangesMeet]

/-- No two areas of a list share a byte (R3, check 5). -/
theorem anyMeet_false_iff (l : List (Nat × Nat)) :
    anyMeet l = false ↔ l.Pairwise fun x y => x.1 + x.2 ≤ y.1 ∨ y.1 + y.2 ≤ x.1 := by
  induction l with
  | nil => simp [anyMeet]
  | cons x xs ih =>
    have apart : ∀ y, rangesMeet x y = false ↔ x.1 + x.2 ≤ y.1 ∨ y.1 + y.2 ≤ x.1 := fun y => by
      rw [← Bool.not_eq_true, rangesMeet_iff]
      omega
    simp [anyMeet, ih, apart]

/-- The decoder takes the first area of the plan that the word's byte address lies in. -/
theorem regionAt_of_plan {s : State} {p : Plan} (h : s.plan = some p) (w : Nat) :
    s.regionAt w =
      if p.voiceBase ≤ 4 * w ∧ 4 * w < p.voiceBase + 327680 then .voice
      else if p.mailboxBase ≤ 4 * w ∧ 4 * w < p.mailboxBase + 2048 then .mailbox
      else if p.orderBase ≤ 4 * w ∧ 4 * w < p.orderBase + 1088 then .order
      else if p.completionBase ≤ 4 * w ∧ 4 * w < p.completionBase + 1088 then .completion
      else if s.anchorByte ≤ 4 * w ∧ 4 * w < s.anchorByte + 64 then .anchor
      else .openMem := by
  simp only [State.regionAt, thePlan_of_plan h, inArea_iff, Config.voiceBytes, Config.mailboxBytes,
    Config.ringAreaBytes, Config.anchorBytes]

/-- Settles O6: of areas that share no byte at most one holds a word, so their order plays no part.
-/
theorem regionsByAddress : Obligations.RegionsByAddress := by
  intro s p w hp hmeet
  rw [anyMeet_false_iff] at hmeet
  simp only [planAreas, Config.voiceBytes, Config.mailboxBytes, Config.ringAreaBytes,
    Config.anchorBytes, List.pairwise_cons, List.mem_cons, List.not_mem_nil, or_false,
    forall_eq_or_imp, forall_eq, List.Pairwise.nil, and_true, false_imp_iff, implies_true] at hmeet
  obtain ⟨⟨hvm, hvo, hvc, hva⟩, ⟨hmo, hmc, hma⟩, ⟨hoc, hoa⟩, hca⟩ := hmeet
  rw [regionAt_of_plan hp, show s.anchorSel.toNat * 16777216 = s.anchorByte from rfl]
  split
  · simp; omega
  split
  · simp; omega
  split
  · simp; omega
  split
  · simp; omega
  split
  · simp; omega
  · simp; omega

/-! ## Rights (R15) -/

/-- The slot of a word's offset in MAILBOX (10.6). -/
theorem mboxAt_slot_eq_iff {k : Nat} (hk : k < 512) (m : MboxNo) :
    (mboxAt k).1 = m ↔ m.val = k / 16 := by
  have : k / 16 % 32 = k / 16 := Nat.mod_eq_of_lt (by omega)
  rw [Fin.ext_iff]
  show k / 16 % 32 = m.val ↔ _
  omega

theorem mayAccess_control {s : State} {e : EpNo} (h : s.endpoints[e].role = .control)
    (w : Bool) (g : Region) (k : Nat) :
    s.mayAccess e w g k = (!w || controlWrites g k) := by
  simp only [State.mayAccess, h]

theorem mayAccess_station_mailbox {s : State} {e : EpNo} (h : s.endpoints[e].role = .station)
    (w : Bool) (k : Nat) :
    s.mayAccess e w .mailbox k =
      (decide (k % 16 = 0) || decide (s.endpoints[e].slot = some (mboxAt k).1)) := by
  simp only [State.mayAccess, h]

theorem mayAccess_roleless {s : State} {e : EpNo}
    (h : s.endpoints[e].role = .trunk ∨ s.endpoints[e].role = .unused) (w : Bool) (g : Region)
    (k : Nat) : s.mayAccess e w g k = false := by
  rcases h with h | h <;> simp only [State.mayAccess, h]

/-- Settles O7, region by region and role by role. -/
theorem rightsOfRoles : Obligations.RightsOfRoles := by
  intro s e k control
  refine ⟨fun h => ?_, fun h w => ?_, fun h w g _ => mayAccess_roleless h w g k⟩
  · simp [mayAccess_control h, controlWrites]
  · refine ⟨by simp only [State.mayAccess, h], by simp only [State.mayAccess, h],
      by simp only [State.mayAccess, h], fun hk => ?_⟩
    simp only [mayAccess_station_mailbox h, Bool.or_eq_true, decide_eq_true_eq,
      ← mboxAt_slot_eq_iff hk]
    refine or_congr_right ⟨fun hs => ⟨_, hs, rfl⟩, ?_⟩
    rintro ⟨m, hs, rfl⟩
    exact hs

end Sys2Proof.Regions

namespace Sys2Proof.Records

open Sys2Proof Sys2Proof.Machine Sys2Proof.Laws Sys2Proof.Regions

/-! ## Bytes and halves of words -/

theorem loHalf_wordOfHalves (lo hi : Half) : loHalf (wordOfHalves lo hi) = lo := by
  ext i hi'
  simp [loHalf, wordOfHalves]

theorem hiHalf_wordOfHalves (lo hi : Half) : hiHalf (wordOfHalves lo hi) = hi := by
  ext i hi'
  have h32 : 16 + i < 32 := by omega
  have hi32 : i < 32 := by omega
  simp [hiHalf, wordOfHalves, h32, hi32, BitVec.getLsbD_eq_getElem hi']

theorem byteOf_zero_wordOfBytes (b0 b1 b2 b3 : Byte) : byteOf (wordOfBytes b0 b1 b2 b3) 0 = b0 := by
  ext i hi'
  simp [byteOf, wordOfBytes]

theorem byteOf_one_wordOfBytes (b0 b1 b2 b3 : Byte) : byteOf (wordOfBytes b0 b1 b2 b3) 1 = b1 := by
  ext i hi'
  have h16 : 8 + i < 16 := by omega
  have h24 : 8 + i < 24 := by omega
  have h32 : 8 + i < 32 := by omega
  have hi32 : i < 32 := by omega
  simp [byteOf, wordOfBytes, h16, h24, h32, hi32, BitVec.getLsbD_eq_getElem hi']

/-- A half whose bytes are the upper two of a word is the word's upper half. -/
theorem hiHalf_wordOfBytes (b0 b1 : Byte) (h : Half) :
    hiHalf (wordOfBytes b0 b1 (loByte h) (hiByte h)) = h := by
  ext i hi'
  have h32 : 16 + i < 32 := by omega
  have h0 : b0.getLsbD (16 + i) = false := BitVec.getLsbD_of_ge _ _ (by omega)
  have h1 : b1.getLsbD (16 + i - 8) = false := BitVec.getLsbD_of_ge _ _ (by omega)
  have hi32 : i < 32 := by omega
  by_cases hlo : i < 8
  · have h24 : 16 + i < 24 := by omega
    simp [hiHalf, wordOfBytes, loByte, hiByte, h0, h1, h24, h32, hi32, hlo,
      BitVec.getLsbD_eq_getElem hi']
  · have h24 : ¬ 16 + i < 24 := by omega
    have hsub : 16 + i - 24 = i - 8 := by omega
    have hadd : 8 + (i - 8) = i := by omega
    have hi8 : i - 8 < 8 := by omega
    simp [hiHalf, wordOfBytes, loByte, hiByte, h0, h1, h24, h32, hi32, hlo, hsub, hadd, hi8,
      BitVec.getLsbD_eq_getElem hi']

theorem byteOf_zero_toNat (w : Word) : (byteOf w 0).toNat = w.toNat % 256 := by
  simp [byteOf]

/-! ## The fields of a record and the plan it gives (R177, 10.2) -/

theorem presentControl_cons (c : Half) (cs : List Half) :
    presentControl (c :: cs) = (if c = 0xFFFF#16 then [] else [c.toNat]) ++ presentControl cs := by
  unfold presentControl
  by_cases h : c = 0xFFFF#16 <;> simp [h]

/-- The fields are read from their places, whatever the words that are not read hold. -/
theorem planFields_read (w0 voice mailbox order completion period x10 w11 w12 w13 w14 signature : Word)
    (c0 c1 c2 c3 start lockout interval : Half) (source tAw : Byte) :
    planFields [w0, voice, mailbox, order, completion, wordOfHalves c0 c1, wordOfHalves c2 c3,
      wordOfBytes source tAw (loByte start) (hiByte start), period, wordOfHalves lockout interval, x10,
      w11, w12, w13, w14, signature]
    = { voiceBase := voice.toNat, mailboxBase := mailbox.toNat, orderBase := order.toNat,
        completionBase := completion.toNat, control := presentControl [c0, c1, c2, c3]
        source := source.toNat, tAw := tAw.toNat, challengeStart := start
        period := period.toNat, lockout := lockout.toNat, rekeyInterval := interval.toNat
        challengeLimit := x10.toNat % 256, signature := signature } := by
  simp [planFields, wordAt, loHalf_wordOfHalves, hiHalf_wordOfHalves, byteOf_zero_wordOfBytes,
    byteOf_one_wordOfBytes, hiHalf_wordOfBytes, byteOf_zero_toNat]

/-- Endpoint fields that are all in range are the numbers of the endpoints they give. -/
theorem map_val_endpoints (l : List Nat) (h : ∀ n ∈ l, n < 512) :
    (l.filterMap fun n => if h : n < 512 then some (⟨n, h⟩ : EpNo) else none).map Fin.val = l := by
  induction l with
  | nil => rfl
  | cons n ns ih =>
    have hn : n < 512 := h n (by simp)
    have hns := ih fun m hm => h m (by simp [hm])
    simp [hn, hns]

/-! ## The checks of a record (R3) -/

theorem aligned_iff (f : PlanFields) : f.aligned = true ↔
    f.voiceBase % 4096 = 0 ∧ f.mailboxBase % 64 = 0 ∧ f.orderBase % 64 = 0
      ∧ f.completionBase % 64 = 0 := by
  simp [PlanFields.aligned, and_assoc]

theorem inRange_iff (f : PlanFields) : f.inRange = true ↔
    f.voiceBase + 327680 ≤ 2 ^ 32 ∧ f.mailboxBase + 2048 ≤ 2 ^ 32
      ∧ f.orderBase + 1088 ≤ 2 ^ 32 ∧ f.completionBase + 1088 ≤ 2 ^ 32
      ∧ (f.source = 1 ∨ f.source = 2) ∧ 5000 ≤ f.period ∧ f.period ≤ 40000
      ∧ 2 ≤ f.tAw ∧ f.tAw ≤ 255 ∧ 1 ≤ f.challengeLimit ∧ f.challengeLimit ≤ 250
      ∧ 1 ≤ f.lockout ∧ f.lockout ≤ 65535 ∧ 16 ≤ f.rekeyInterval ∧ f.rekeyInterval ≤ 4096 := by
  simp [PlanFields.inRange, Config.voiceBytes, Config.mailboxBytes, Config.ringAreaBytes, and_assoc]

theorem controlOk_iff (f : PlanFields) : f.controlOk = true ↔
    f.control ≠ [] ∧ (∀ n ∈ f.control, n < 512) ∧ f.control.Nodup := by
  simp [PlanFields.controlOk, and_assoc]

/-- The areas of the plan that a record gives share no byte (R3, check 5). -/
theorem areasApart_iff (f : PlanFields) (anchor : Nat) :
    anyMeet (planAreas f.plan anchor) = true ↔
      ¬ ([(f.voiceBase, 327680), (f.mailboxBase, 2048), (f.orderBase, 1088),
          (f.completionBase, 1088), (anchor, 64)] : List (Nat × Nat)).Pairwise
            (fun x y => x.1 + x.2 ≤ y.1 ∨ y.1 + y.2 ≤ x.1) := by
  rw [← anyMeet_false_iff, Bool.not_eq_false]
  rfl

theorem controlOk_of_check {f : PlanFields} {anchor : Nat} (h : f.check anchor = none) :
    f.controlOk = true := by
  unfold PlanFields.check at h
  split_ifs at h with _ _ _ hc
  simpa using hc

/-- Settles O26: each check by what its passing says, each field by the bytes it is read from. -/
theorem recordChecksInOrder : Obligations.RecordChecksInOrder := by
  refine ⟨fun f anchor => ?_, ?_, fun f anchor h => ⟨rfl, ?_⟩⟩
  · simp only [PlanFields.check, Bool.not_eq_true', ← Bool.not_eq_true, aligned_iff, inRange_iff,
      controlOk_iff, areasApart_iff, ite_not, Config.signature]
  · intros
    have hnil : presentControl [] = [] := rfl
    simp only [planFields_read, presentControl_cons, hnil, List.append_nil, List.append_assoc]
  · exact map_val_endpoints f.control ((controlOk_iff f).1 (controlOk_of_check h)).2.1

end Sys2Proof.Records

namespace Sys2Proof.Steps

open Sys2Proof Sys2Proof.Machine Sys2Proof.Laws

/-! ## What an operation can leave as it was -/

/-- The pins and the queue are as they were, and time has not run back (log 1, log 3). -/
structure Held (s u : State) : Prop where
  pending : u.pending = s.pending
  now : s.now ≤ u.now
  resetLow : u.resetLow = s.resetLow
  anchorSel : u.anchorSel = s.anchorSel
  bootEp : u.bootEp = s.bootEp

/-- The RESTART in execution, and whether its completion has been written (R8, R10). -/
def restartOf (g : Engine) : Option (Half × Bool) :=
  match g.inExec with
  | some { seq := q, phase := .restart w } => some (q, w)
  | _ => none

/-- Calls with their members, rings' owners and the call fields of endpoints are as they were. -/
structure SameCalls (s u : State) : Prop where
  call : ∀ c : CallNo, u.calls[c].state = s.calls[c].state
  members : ∀ c : CallNo, u.calls[c].members = s.calls[c].members
  owned : ∀ (r : RingNo) (c : CallNo) (e : EpNo),
    u.rings[r].state = .owned c e ↔ s.rings[r].state = .owned c e
  epCall : ∀ e : EpNo, u.endpoints[e].call = s.endpoints[e].call

/-- The states, owners, deadlines and writes in flight of the mailbox slots, and the slot fields of
endpoints, are as they were. -/
structure SameSlots (s u : State) : Prop where
  slot : ∀ m : MboxNo, u.mailboxes[m].state = s.mailboxes[m].state
  owner : ∀ m : MboxNo, u.mailboxes[m].owner = s.mailboxes[m].owner
  inFlight : ∀ m : MboxNo, u.mailboxes[m].inFlight = s.mailboxes[m].inFlight
  deadline : ∀ m : MboxNo, u.mailboxes[m].deadline = s.mailboxes[m].deadline
  epSlot : ∀ e : EpNo, u.endpoints[e].slot = s.endpoints[e].slot

/-- ADMITTED endpoints and the endpoints that directory entries name are as they were. -/
structure SameAdmission (s u : State) : Prop where
  epAdmitted : ∀ e : EpNo, u.endpoints[e].admitted = s.endpoints[e].admitted
  entry : ∀ d : EntryNo, u.directory[d].admittedEp = s.directory[d].admittedEp

/-- The part state and the RESTART in execution are as they were, and there are no more entry writes of
its completion. -/
structure SameRestart (s u : State) : Prop where
  part : u.part = s.part
  restart : restartOf u.engine = restartOf s.engine
  restarts : u.port.restarts ≤ s.port.restarts

/-- An operation that no pair of the tables feels. -/
structure Frame (s u : State) : Prop
    extends Held s u, SameCalls s u, SameSlots s u, SameAdmission s u, SameRestart s u

theorem Held.refl (s : State) : Held s s := ⟨rfl, le_rfl, rfl, rfl, rfl⟩

theorem Held.trans {s u v : State} (h : Held s u) (k : Held u v) : Held s v :=
  ⟨k.pending.trans h.pending, h.now.trans k.now, k.resetLow.trans h.resetLow,
    k.anchorSel.trans h.anchorSel, k.bootEp.trans h.bootEp⟩

theorem Frame.refl (s : State) : Frame s s where
  toHeld := Held.refl s
  part := rfl
  call _ := rfl
  members _ := rfl
  owned _ _ _ := Iff.rfl
  epCall _ := rfl
  epSlot _ := rfl
  epAdmitted _ := rfl
  entry _ := rfl
  slot _ := rfl
  owner _ := rfl
  inFlight _ := rfl
  deadline _ := rfl
  restart := rfl
  restarts := le_rfl

theorem Frame.trans {s u v : State} (h : Frame s u) (k : Frame u v) : Frame s v where
  toHeld := h.toHeld.trans k.toHeld
  part := k.part.trans h.part
  call c := (k.call c).trans (h.call c)
  members c := (k.members c).trans (h.members c)
  owned r c e := (k.owned r c e).trans (h.owned r c e)
  epCall e := (k.epCall e).trans (h.epCall e)
  epSlot e := (k.epSlot e).trans (h.epSlot e)
  epAdmitted e := (k.epAdmitted e).trans (h.epAdmitted e)
  entry d := (k.entry d).trans (h.entry d)
  slot m := (k.slot m).trans (h.slot m)
  owner m := (k.owner m).trans (h.owner m)
  inFlight m := (k.inFlight m).trans (h.inFlight m)
  deadline m := (k.deadline m).trans (h.deadline m)
  restart := k.restart.trans h.restart
  restarts := k.restarts.trans h.restarts

/-! ## Updates of one record -/

theorem atInstant_frame (s : State) (t : Instant) : Frame s (s.atInstant t) :=
  { Frame.refl s with now := le_max_left .. }

theorem setTimer_frame (s : State) (x : Timer) : Frame s (s.setTimer x) := { Frame.refl s with }

theorem setWaiting_frame (s : State) (w : List ActRequest) : Frame s (s.setWaiting w) :=
  { Frame.refl s with }

theorem setLane_frame (s : State) (l : LaneNo) (x : Lane) : Frame s (s.setLane l x) :=
  { Frame.refl s with }

theorem setAlert_frame (s : State) (b : Bool) : Frame s { s with alert := b } :=
  { Frame.refl s with }

theorem setValidator_frame (s : State) (v : Validator) : Frame s { s with validator := v } :=
  { Frame.refl s with }

theorem setMonitor_frame (s : State) (l : List Reservation) : Frame s { s with monitor := l } :=
  { Frame.refl s with }

theorem setChallengeCtr_frame (s : State) (h : Half) : Frame s { s with challengeCtr := h } :=
  { Frame.refl s with }

theorem setEngine_frame (s : State) (g : Engine) (h : restartOf g = restartOf s.engine := by rfl) :
    Frame s (s.setEngine g) :=
  { Frame.refl s with restart := h }

theorem setPort_frame (s : State) (p : Port)
    (h : p.restarts ≤ s.port.restarts := by exact le_rfl) :
    Frame s (s.setPort p) :=
  { Frame.refl s with restarts := h }

/-- A field of a table's entry is as it was where the entry written has it so. -/
theorem field_set {α β : Type} {n : Nat} (f : α → β) (v : Vector α n) (i : Fin n) (x : α)
    (h : f x = f v[i]) (j : Fin n) : f (v.set i x)[j] = f v[j] := by
  by_cases hij : i = j
  · subst hij; simpa using h
  · have : i.val ≠ j.val := fun e => hij (Fin.ext e)
    simp [Vector.getElem_set_ne, this]

theorem setCall_frame (s : State) (c : CallNo) (x : Call) (hs : x.state = s.calls[c].state := by rfl)
    (hm : x.members = s.calls[c].members := by rfl) : Frame s (s.setCall c x) :=
  { Frame.refl s with
    call := field_set Call.state s.calls c x hs
    members := field_set Call.members s.calls c x hm }

/-- A ring whose owner is as it was. -/
theorem setRing_frame (s : State) (r : RingNo) (x : Ring)
    (h : ∀ c e, x.state = .owned c e ↔ s.rings[r].state = .owned c e := by
      exact fun _ _ => Iff.rfl) : Frame s (s.setRing r x) :=
  { Frame.refl s with
    owned := fun r' c e => by
      have := field_set (fun y : Ring => y.state = .owned c e) s.rings r x (propext (h c e)) r'
      exact Iff.of_eq this }

theorem setEp_frame (s : State) (e : EpNo) (x : EndpointRec)
    (hc : x.call = s.endpoints[e].call := by rfl) (hs : x.slot = s.endpoints[e].slot := by rfl)
    (ha : x.admitted = s.endpoints[e].admitted := by rfl) :
    Frame s (s.setEp e x) :=
  { Frame.refl s with
    epCall := field_set EndpointRec.call s.endpoints e x hc
    epSlot := field_set EndpointRec.slot s.endpoints e x hs
    epAdmitted := field_set EndpointRec.admitted s.endpoints e x ha }

theorem setEntry_frame (s : State) (d : EntryNo) (x : DirEntry)
    (h : x.admittedEp = s.directory[d].admittedEp := by rfl) : Frame s (s.setEntry d x) :=
  { Frame.refl s with entry := field_set DirEntry.admittedEp s.directory d x h }

theorem setMbox_frame (s : State) (m : MboxNo) (x : Mbox)
    (hs : x.state = s.mailboxes[m].state := by rfl)
    (ho : x.owner = s.mailboxes[m].owner := by rfl)
    (hf : x.inFlight = s.mailboxes[m].inFlight := by rfl)
    (hd : x.deadline = s.mailboxes[m].deadline := by rfl) : Frame s (s.setMbox m x) :=
  { Frame.refl s with
    slot := field_set Mbox.state s.mailboxes m x hs
    owner := field_set Mbox.owner s.mailboxes m x ho
    inFlight := field_set Mbox.inFlight s.mailboxes m x hf
    deadline := field_set Mbox.deadline s.mailboxes m x hd }

theorem mapDirectory_frame (s : State) (f : DirEntry → DirEntry)
    (h : ∀ d, (f d).admittedEp = d.admittedEp) :
    Frame s { s with directory := mapTab f s.directory } :=
  { Frame.refl s with
    entry := fun d => (congrArg DirEntry.admittedEp (mapTab_get f s.directory d)).trans (h _) }

theorem lanesOnly_frame {s u : State} (h : LanesOnly s u) : Frame s u := by
  obtain ⟨hu, hc⟩ := h
  rw [hu]
  exact { Frame.refl s with
    call := fun c => (congrArg Call.state (hc c) :)
    members := fun c => (congrArg Call.members (hc c) :) }

/-! ## Entry writes of the RESTART completion -/

theorem restarts_place (p : Port) (b : Block) (y : Bool) (es : List SelfEntry) :
    (p.place b y es).restarts = p.restarts + es.countP SelfEntry.isRestart := by
  unfold Port.place
  split
  · simp only [Port.restarts, List.countP_append]; omega
  · simp only [Port.restarts, List.map_append, List.map_cons, List.map_nil, List.sum_append,
      List.sum_singleton, Waiter.restarts]
    omega

theorem countP_completionWrites (base : Nat) (n : Half) (c : Completion) (r : Bool) :
    (completionWrites base n c r).countP SelfEntry.isRestart = if r then 1 else 0 := by
  cases r <;> rfl

/-- Entries of which none is a RESTART completion's. -/
theorem place_frame (s : State) (b : Block) (y : Bool) (es : List SelfEntry)
    (h : es.countP SelfEntry.isRestart = 0 := by rfl) : Frame s (s.place b y es) :=
  setPort_frame s _ (by rw [restarts_place, h, Nat.add_zero])

theorem dropAt_sublist {α : Type} (i : Nat) (l : List α) : (dropAt i l).Sublist l := by
  induction l generalizing i with
  | nil => cases i <;> exact List.Sublist.refl _
  | cons x xs ih =>
    cases i with
    | zero => exact List.sublist_cons_self x xs
    | succ i => exact (ih i).cons_cons x

/-- An element at place i is counted no more once it is dropped. -/
theorem countP_dropAt {α : Type} (p : α → Bool) {i : Nat} {l : List α} {x : α}
    (h : l[i]? = some x) (hp : p x = true) : (dropAt i l).countP p + 1 = l.countP p := by
  induction l generalizing i with
  | nil => simp at h
  | cons y ys ih =>
    cases i with
    | zero =>
      obtain rfl : y = x := by simpa using h
      simp [dropAt, hp]
    | succ i =>
      have hys : ys[i]? = some x := by simpa using h
      have hlt := ih hys
      simp only [dropAt, List.countP_cons]
      omega

theorem restarts_dropAt_le (p : Port) (i : Nat) :
    ({ p with awaiting := dropAt i p.awaiting } : Port).restarts ≤ p.restarts :=
  Nat.add_le_add_left ((dropAt_sublist i p.awaiting).countP_le) _

theorem voidCount_isRestartEntry (w : Awaiting) :
    w.voidCount.isRestartEntry = w.isRestartEntry := by
  unfold Awaiting.voidCount
  split <;> simp_all [Awaiting.isRestartEntry]

theorem restarts_voidCounts (p : Port) : p.voidCounts.restarts = p.restarts := by
  simp only [Port.restarts, Port.voidCounts, List.countP_map, Function.comp_def,
    voidCount_isRestartEntry]

/-! ## Completions, notices and the engine's upkeep (R168 to R172, R166, R175) -/

/-- A completion written, but for that of RESTART. -/
theorem writeCompletion_frame (s : State) (b : Block) (y : Bool) (c : Completion) :
    Frame s (s.writeCompletion b y c) :=
  (setEngine_frame s _).trans (place_frame _ b y _ (countP_completionWrites _ _ _ _))

theorem deliverN_frame (n : Nat) (s : State) : Frame s (State.deliverN n s) := by
  induction n generalizing s with
  | zero => exact Frame.refl s
  | succ n ih =>
    unfold State.deliverN
    split
    · exact Frame.refl s
    · split
      · exact ((setEngine_frame s _).trans (writeCompletion_frame _ _ _ _)).trans (ih _)
      · exact Frame.refl s

theorem deliver_frame (s : State) : Frame s s.deliver := deliverN_frame _ s

theorem raise_frame (s : State) (k : CompKind) (x : CompSubject) (d : List Byte) :
    Frame s (s.raise k x d) := by
  unfold State.raise
  split
  · exact (setEngine_frame s _).trans (deliver_frame _)
  · exact Frame.refl s

theorem endExecution_frame (s : State) (h : restartOf s.engine = none) :
    Frame s s.endExecution := setEngine_frame s _ h.symm

/-- An order other than RESTART ends with its completion written or held (R170). -/
theorem finish_frame (s : State) (c : Completion) (h : restartOf s.engine = none) :
    Frame s (s.finish c) := by
  rw [finish_eq]
  split
  · exact (endExecution_frame s h).trans (writeCompletion_frame _ _ _ _)
  · exact setEngine_frame s _ h.symm

theorem writeHeld_frame (s : State) : Frame s s.writeHeld := by
  unfold State.writeHeld
  split
  · exact Frame.refl s
  · split
    · exact (setEngine_frame s _).trans (writeCompletion_frame _ _ _ _)
    · exact Frame.refl s

theorem writeAll_frame (s : State) (cs : List Completion) : Frame s (s.writeAll cs) := by
  induction cs generalizing s with
  | nil => exact Frame.refl s
  | cons c cs ih => exact (writeCompletion_frame s _ _ _).trans (ih _)

theorem mayFetch_idle {s : State} (h : s.mayFetch = true) : restartOf s.engine = none := by
  simp only [State.mayFetch, Bool.and_eq_true, Option.isNone_iff_eq_none] at h
  obtain ⟨⟨⟨-, hexec⟩, -⟩, -⟩ := h
  simp [restartOf, hexec]

theorem startFetch_frame (s : State) : Frame s s.startFetch := by
  unfold State.startFetch
  split
  · rename_i h
    exact (setEngine_frame s _ (by exact (mayFetch_idle h).symm)).trans (place_frame _ _ _ _)
  · exact Frame.refl s

theorem countConsumed_frame (s : State) : Frame s s.countConsumed :=
  (setEngine_frame s _).trans (place_frame _ _ _ _)

theorem restartOf_report {g : Engine} {q : Half} {job : ReportJob}
    (h : g.inExec = some { seq := q, phase := .report job }) : restartOf g = none := by
  simp [restartOf, h]

theorem restarts_append_report (p : Port) (e : SelfEntry) (h : e.isRestart = false) :
    ({ p with selfQ := p.selfQ ++ [e] } : Port).restarts = p.restarts := by
  simp [Port.restarts, h]

theorem placeReportN_frame (n : Nat) (s : State) : Frame s (State.placeReportN n s) := by
  induction n generalizing s with
  | zero => exact Frame.refl s
  | succ n ih =>
    unfold State.placeReportN
    split
    · rename_i q job hexec
      split
      · split
        · have hplace := setPort_frame s _
            (restarts_append_report s.port (s.reportEntry job job.placed) rfl).le
          exact (hplace.trans (setEngine_frame _ _ (by exact (restartOf_report hexec).symm))).trans (ih _)
        · exact setPort_frame s _ (by simp [Port.restarts, Waiter.restarts])
      · exact Frame.refl s
    all_goals exact Frame.refl s

theorem placeReport_frame (s : State) : Frame s s.placeReport := placeReportN_frame _ s

/-- Waiting entries move from their block's place to the queue (R38). -/
theorem placeWaitingN_frame (n : Nat) (s : State) : Frame s (State.placeWaitingN n s) := by
  induction n generalizing s with
  | zero => exact Frame.refl s
  | succ n ih =>
    unfold State.placeWaitingN
    split
    · exact Frame.refl s
    · rename_i b y es rest hw
      split
      · refine (setPort_frame s _ ?_).trans (ih _)
        simp only [Port.restarts, hw, List.countP_append, List.map_cons, List.sum_cons,
          Waiter.restarts]
        omega
      · exact Frame.refl s
    · rename_i rest hw
      have hdrop : ({ s.port with waiters := rest } : Port).restarts = s.port.restarts := by
        simp [Port.restarts, hw, Waiter.restarts]
      split
      · split
        · rename_i q job hexec
          have hport := (restarts_append_report { s.port with waiters := rest }
            (s.reportEntry job job.placed) rfl).trans hdrop
          exact (((setPort_frame s _ hport.le).trans
            (setEngine_frame _ _ (by exact (restartOf_report hexec).symm))).trans (placeReport_frame _)).trans
              (ih _)
        all_goals exact (setPort_frame s _ hdrop.le).trans (ih _)
      · exact Frame.refl s

theorem placeWaiting_frame (s : State) : Frame s s.placeWaiting := placeWaitingN_frame _ s

theorem finishReport_frame (s : State) : Frame s s.finishReport := by
  unfold State.finishReport
  split
  · rename_i hexec
    split
    · exact finish_frame s _ (restartOf_report hexec)
    · exact Frame.refl s
  all_goals exact Frame.refl s

theorem reportAnswer_frame (s : State) (f : Bool) : Frame s (s.reportAnswer f) := by
  unfold State.reportAnswer
  split
  · rename_i hexec
    exact (setEngine_frame s _ (by exact (restartOf_report hexec).symm)).trans (finishReport_frame _)
  all_goals exact Frame.refl s

theorem doReport_frame (s : State) (seq : Half) (code : Byte) (first count buffer : Nat)
    (h : restartOf s.engine = none) : Frame s (s.doReport seq code first count buffer) := by
  unfold State.doReport
  split
  · exact finish_frame s _ h
  · split
    · exact (setEngine_frame s _ (by exact h.symm)).trans (placeReport_frame _)
    · exact finish_frame s _ h

theorem writeTimingDone_frame (s : State) : Frame s s.writeTimingDone := by
  unfold State.writeTimingDone
  split
  · split
    · exact (setTimer_frame s _).trans (writeCompletion_frame _ _ _ _)
    · exact Frame.refl s
  all_goals exact Frame.refl s

theorem doSetTiming_frame (s : State) (seq : Half) (code : Byte) (period : Nat)
    (h : restartOf s.engine = none) : Frame s (s.doSetTiming seq code period) := by
  unfold State.doSetTiming
  split
  · exact finish_frame s _ h
  · split
    · exact finish_frame s _ h
    · split
      · exact (setTimer_frame s _).trans (endExecution_frame _ h)
      all_goals exact finish_frame s _ h

/-! ## Reservations (R143, R144) -/

theorem clearReservationField_frame (s : State) (e : EpNo) :
    Frame s (s.clearReservationField e) := setEp_frame s e _

theorem clearFields_frame (l : List Reservation) (s : State) : Frame s (s.clearFields l) := by
  induction l generalizing s with
  | nil => exact Frame.refl s
  | cons r rs ih => exact (clearReservationField_frame s r.ep).trans (ih _)

theorem removeReservations_frame (s : State) (p : Reservation → Bool) :
    Frame s (s.removeReservations p) :=
  (setMonitor_frame s _).trans (clearFields_frame _ _)

theorem removeReservations_port (s : State) (p : Reservation → Bool) :
    (s.removeReservations p).port = s.port := by
  rw [(removeReservations_spec s p).2.2]

theorem reserve_frame (s : State) (e : EpNo) (w : Nat) : Frame s (s.reserve e w) := by
  have hset : ∀ u : State, Frame u (State.setEp { u with
      monitor := u.monitor ++ [{ ep := e, word := w }] } e
        { u.endpoints[e] with reservation := some w }) := fun u =>
    (setMonitor_frame u _).trans (setEp_frame _ e _)
  have hown := removeReservations_frame s fun r => decide (r.ep = e)
  unfold State.reserve
  dsimp only
  split
  · exact hown.trans (hset _)
  · split
    · exact hown.trans (hset _)
    · exact ((hown.trans (setMonitor_frame _ _)).trans (clearReservationField_frame _ _)).trans
        (hset _)

/-! ## The ports (chapter 2) -/

theorem respond_frame (s : State) (id : Nat) (r : Response) : Frame s (s.respond id r) :=
  setPort_frame s _

theorem refused_pairs (e : EndpointRec) (v : Violation) :
    (e.refused v).call = e.call ∧ (e.refused v).slot = e.slot
      ∧ (e.refused v).admitted = e.admitted := by
  cases v <;> exact ⟨rfl, rfl, rfl⟩

theorem refuse_frame (s : State) (a : Accepted) (v : Violation) : Frame s (s.refuse a v) := by
  obtain ⟨hc, hs, ha⟩ := refused_pairs s.endpoints[a.req.ep] v
  exact (setEp_frame s _ _ hc hs ha).trans (respond_frame _ _ _)

theorem offer_frame (s : State) (r : Request) : Frame s (s.offer r) := by
  have henrol : Frame s (s.enrol r.ep) := setPort_frame s _
  unfold State.offer State.arrive
  split
  · split
    · exact henrol.trans (refuse_frame _ _ _)
    · exact henrol.trans (setPort_frame _ _)
  · exact Frame.refl s

theorem returnResponse_frame (s : State) (e : EpNo) : Frame s (s.returnResponse e) := by
  unfold State.returnResponse
  split
  · exact Frame.refl s
  · split
    · exact Frame.refl s
    · exact setPort_frame s _

theorem takeOut_frame (s : State) (a : Accepted) : Frame s (s.takeOut a) :=
  setPort_frame s _

theorem retestArrival_frame (s : State) : Frame s s.retestArrival := by
  unfold State.retestArrival
  split
  · exact Frame.refl s
  · split
    · exact setPort_frame s _
    · exact Frame.refl s

theorem monitorAt_frame (s : State) (a : Accepted) : Frame s (s.monitorAt a) := by
  unfold State.monitorAt
  split
  · split
    · exact reserve_frame s _ _
    · exact Frame.refl s
  · exact removeReservations_frame s _
  all_goals exact Frame.refl s

theorem Frame.setPort {s u : State} (h : Frame s u) (p : Port)
    (hp : p.restarts ≤ s.port.restarts) : Frame s (u.setPort p) :=
  { h with restarts := hp }

/-- A request goes downstream: it awaits memory, and a write removes reservations. -/
theorem Frame.send {s u : State} (h : Frame s u) (r : DsRequest) (src : DsSource)
    (hr : u.port.restarts + (if Awaiting.isRestartEntry { req := r, src := src } then 1 else 0)
      ≤ s.port.restarts) : Frame s (u.send r src) := by
  have hawait : ∀ v : State, Frame s v → v.port = u.port → Frame s (v.setPort { v.port with
      awaiting := v.port.awaiting ++ [{ req := r, src := src }] }) := fun v hv hport => by
    refine hv.setPort _ ?_
    rw [hport]
    simp only [Port.restarts, List.countP_append, List.countP_cons, List.countP_nil] at hr ⊢
    omega
  unfold State.send
  split
  · exact hawait _ (h.trans (removeReservations_frame u _))
      (removeReservations_port u _)
  · exact hawait u h rfl

theorem send_frame (s : State) (r : DsRequest) (src : DsSource)
    (h : Awaiting.isRestartEntry { req := r, src := src } = false) : Frame s (s.send r src) :=
  (Frame.refl s).send r src (by simp [h])

theorem setRun_frame (s : State) (n : Nat) : Frame s (s.setRun n) := setPort_frame s _

theorem isRestartEntry_self (r : DsRequest) (e : SelfEntry) :
    Awaiting.isRestartEntry { req := r, src := .self e.src } = e.isRestart := by
  unfold Awaiting.isRestartEntry SelfEntry.isRestart
  cases e.src <;> rfl

/-- A self-traffic entry leaves the queue and awaits memory (R34). -/
theorem grantSelf_frame (s : State) : Frame s s.grantSelf := by
  unfold State.grantSelf
  split
  · exact Frame.refl s
  · rename_i e rest hq
    have hcount : ({ s.port with selfQ := rest } : Port).restarts
        + (if e.isRestart then 1 else 0) = s.port.restarts := by
      simp only [Port.restarts, hq, List.countP_cons]
      omega
    have hpop : Frame s (s.setPort { s.port with selfQ := rest }) :=
      setPort_frame s _ (by omega)
    refine (hpop.send e.downstream (.self e.src) ?_).trans (setRun_frame _ 0)
    rw [isRestartEntry_self]
    exact hcount.le

end Sys2Proof.Steps

namespace Sys2Proof.Steps

open Sys2Proof Sys2Proof.Machine Sys2Proof.Laws

/-! ## The transform unit (chapter 3) -/

theorem addXform_frame (s : State) (a : Accepted) (c : Course) (ps : List Piece) :
    Frame s (s.addXform a c ps) := setPort_frame s _

theorem raiseCounts_frame (s : State) (tk : Ticket) : Frame s (s.raiseCounts tk) :=
  (setRing_frame s tk.ring _).trans (setLane_frame _ _ _)

theorem stampLane_frame (s : State) (l : LaneNo) : Frame s (s.stampLane l) := setLane_frame s _ _

theorem enterNonMember_frame (s : State) (a : Accepted) : Frame s (s.enterNonMember a) := by
  unfold State.enterNonMember
  split
  · exact addXform_frame s _ _ _
  all_goals exact refuse_frame s _ _

theorem enterWrite_frame (s : State) (a : Accepted) (c : CallNo) (l : LaneNo) :
    Frame s (s.enterWrite a c l) := by
  unfold State.enterWrite
  split
  · exact (refuse_frame s _ _).trans (stampLane_frame _ _)
  · exact (addXform_frame s _ _ _).trans (raiseCounts_frame _ _)

theorem enterRead_frame (s : State) (a : Accepted) (c : CallNo) (l : LaneNo) :
    Frame s (s.enterRead a c l) := by
  unfold State.enterRead
  dsimp only
  split
  · exact (respond_frame s _ _).trans (stampLane_frame _ _)
  · exact (addXform_frame s _ _ _).trans (raiseCounts_frame _ _)

theorem enter_frame (s : State) (a : Accepted) : Frame s (s.enter a) := by
  unfold State.enter
  split
  · exact refuse_frame s _ _
  · split
    · exact enterNonMember_frame s a
    · split
      · exact Frame.refl s
      · split
        · exact enterRead_frame s _ _ _
        · exact enterWrite_frame s _ _ _
        all_goals exact enterNonMember_frame s a

theorem transformNext_frame (s : State) : Frame s s.transformNext := by
  unfold State.transformNext
  split
  · exact Frame.refl s
  · exact (takeOut_frame s _).trans (enter_frame _ _)

/-- A DRAINING ring that goes FREE is owned by none before and after (R43). -/
theorem endRingDrain_frame (s : State) (r : RingNo) : Frame s (s.endRingDrain r) := by
  unfold State.endRingDrain
  split
  · rename_i hstate
    split
    · exact setRing_frame s r _ fun c e => by rw [hstate]; simp [Ring.free]
    · exact Frame.refl s
  all_goals exact Frame.refl s

theorem leaveCounts_frame (s : State) (tk : Ticket) : Frame s (s.leaveCounts tk) :=
  (((setRing_frame s tk.ring _).trans (setLane_frame _ _ _)).trans
    (stampLane_frame _ _)).trans (endRingDrain_frame _ _)

theorem setFill_frame (s : State) (tk : Ticket) (k : FrameSlotNo) (f : Word) (g : Fin 8) :
    Frame s (s.setFill tk k f g) := by
  unfold State.setFill
  split
  · split
    · exact setRing_frame s _ _
    · exact Frame.refl s
  · exact Frame.refl s

theorem fillByAnswer_frame (s : State) (x : Xform) (no : Nat) (a : Answer) :
    Frame s (s.fillByAnswer x no a) := by
  unfold State.fillByAnswer
  split
  · exact setFill_frame s _ _ _ _
  · exact Frame.refl s

theorem leaveTransform_frame (s : State) (x : Xform) (r : Response) :
    Frame s (s.leaveTransform x r) := by
  unfold State.leaveTransform
  dsimp only
  split
  · exact (setPort_frame s _).trans (respond_frame _ _ _)
  · exact ((setPort_frame s _).trans (leaveCounts_frame _ _)).trans (respond_frame _ _ _)

theorem pieceAnswer_frame (s : State) (id no : Nat) (a : Answer) :
    Frame s (s.pieceAnswer id no a) := by
  unfold State.pieceAnswer
  split
  · exact Frame.refl s
  · dsimp only
    split
    · exact (fillByAnswer_frame s _ _ _).trans (leaveTransform_frame _ _ _)
    · exact (fillByAnswer_frame s _ _ _).trans (setPort_frame _ _)

/-! ## Lanes (chapter 5) -/

theorem voiceUpkeep_frame (s : State) : Frame s s.voiceUpkeep :=
  lanesOnly_frame (voiceUpkeep_lanesOnly s)

theorem grantAll_frame (s : State) : Frame s s.grantAll := lanesOnly_frame (grantAll_lanesOnly s)

theorem syncLane_frame (s : State) (c : CallNo) : Frame s (s.syncLane c) := by
  unfold State.syncLane
  split
  · exact Frame.refl s
  · exact setLane_frame s _ _

theorem derive_frame (s : State) (c : CallNo) : Frame s (s.derive_ c) := by
  unfold State.derive_
  split
  · exact setCall_frame s c _
  all_goals exact Frame.refl s

theorem completeCall_frame (s : State) (l : LaneNo) (x : Expansion) :
    Frame s (s.completeCall l x) := by
  unfold State.completeCall
  split
  · exact setLane_frame s _ _
  · exact Frame.refl s
  · dsimp only
    split
    · exact (derive_frame s _).trans (setLane_frame _ _ _)
    · exact setLane_frame s _ _

theorem completeCallLane_frame (s : State) (l : LaneNo) : Frame s (s.completeCallLane l) := by
  unfold State.completeCallLane
  split
  · exact (atInstant_frame s _).trans (completeCall_frame _ _ _)
  · exact (atInstant_frame s _).trans (completeCall_frame _ _ _)
  · exact Frame.refl s

theorem leaveWindow_frame (s : State) : Frame s s.leaveWindow := by
  unfold State.leaveWindow
  split
  · split
    · exact Frame.refl s
    · exact atInstant_frame s _
  · exact Frame.refl s

theorem askRekey_frame (s : State) (c : CallNo) : Frame s (s.askRekey c) := by
  unfold State.askRekey
  dsimp only
  split
  · exact Frame.refl s
  · split
    · exact setWaiting_frame s _
    · exact setWaiting_frame s _

/-! ## Visits (R113 to R117) -/

theorem retire_pairs (x : Call) : x.retire.state = x.state ∧ x.retire.members = x.members := by
  unfold Call.retire
  split
  · exact ⟨rfl, rfl⟩
  · split <;> exact ⟨rfl, rfl⟩

theorem advance_pairs (x : Call) (n : Nat) :
    (x.advance n).state = x.state ∧ (x.advance n).members = x.members := by
  unfold Call.advance
  split <;> exact ⟨rfl, rfl⟩

theorem step12_frame (s : State) (c : CallNo) (n : Nat) :
    Frame s (s.setCall c (s.calls[c].step12 n)) := by
  unfold Call.step12
  obtain ⟨has, ham⟩ := advance_pairs
    ({ s.calls[c] with frame := s.calls[c].frame + 1#32 } : Call).retire n
  obtain ⟨hrs, hrm⟩ := retire_pairs { s.calls[c] with frame := s.calls[c].frame + 1#32 }
  exact setCall_frame s c _ (has.trans hrs) (ham.trans hrm)

theorem openSlots_frame (f : Word) (n : Half) (ms : List Member) (s : State) :
    Frame s (s.openSlots f n ms) := by
  induction ms generalizing s with
  | nil => exact Frame.refl s
  | cons m ms ih => exact (setRing_frame s _ _).trans (ih _)

theorem examine_frame (f : Word) (ms : List Member) (s : State) : Frame s (s.examine f ms) := by
  induction ms generalizing s with
  | nil => exact Frame.refl s
  | cons m ms ih =>
    unfold State.examine
    split
    · exact (setEp_frame s _ _).trans (ih _)
    · exact ih s

theorem rekeyWork_frame (s : State) (c : CallNo) (advanced : Bool) :
    Frame s (s.rekeyWork c advanced) := by
  have hask : ∀ x : Call, x.state = s.calls[c].state → x.members = s.calls[c].members →
      Frame s (if x.rekeyDue && x.next.isNone then
        ((s.setCall c x).setCall c { x with debt := satSucc 8 x.debt }).askRekey c
      else s.setCall c x) := fun x hs hm => by
    have hx := setCall_frame s c x hs hm
    split
    · refine (hx.trans (setCall_frame _ c _ ?_ ?_)).trans (askRekey_frame _ c)
      all_goals rw [setCall_get_self]
    · exact hx
  unfold State.rekeyWork
  cases advanced
  · exact hask _ rfl rfl
  · exact hask _ rfl rfl

/-! ## Admission (chapter 8) -/

theorem countFailure_frame (s : State) (d : EntryNo) : Frame s (s.countFailure d) := by
  refine setEntry_frame s d _ ?_
  unfold DirEntry.fail
  split
  · rfl
  · split <;> rfl

theorem countSlotFailure_frame (s : State) (m : MboxNo) : Frame s (s.countSlotFailure m) := by
  unfold State.countSlotFailure
  split
  · exact Frame.refl s
  · exact countFailure_frame s _

theorem dropEnded_frame (s : State) (d : EntryNo) (n : Word) :
    Frame s (s.setEntry d (s.directory[d].dropEnded n)) := by
  refine setEntry_frame s d _ ?_
  unfold DirEntry.dropEnded
  split <;> rfl

theorem writeMirror_frame (s : State) (m : MboxNo) : Frame s (s.writeMirror m) :=
  place_frame s _ _ _

theorem ageSlot_frame (s : State) (m : MboxNo) : Frame s (s.ageSlot m) :=
  (setMbox_frame s m _).trans (writeMirror_frame _ m)

theorem ageSlots_frame (ms : List MboxNo) (s : State) : Frame s (s.ageSlots ms) := by
  induction ms generalizing s with
  | nil => exact Frame.refl s
  | cons m ms ih => exact (ageSlot_frame s m).trans (ih _)

theorem ageRequests_frame (s : State) : Frame s s.ageRequests :=
  (setWaiting_frame s _).trans (ageSlots_frame _ _)

theorem askCheck_frame (s : State) (m : MboxNo) : Frame s (s.askCheck m) := by
  unfold State.askCheck
  split
  · exact Frame.refl s
  · split
    · dsimp only
      split
      · exact (setWaiting_frame s _).trans (ageSlot_frame _ m)
      · exact setWaiting_frame s _
    · exact setWaiting_frame s _

theorem withdrawSlot_frame (s : State) (m : MboxNo) : Frame s (s.withdrawSlot m) :=
  setWaiting_frame s _

theorem dropFromExpansions_frame (s : State) (m : MboxNo) : Frame s (s.dropFromExpansions m) :=
  { Frame.refl s with }

theorem expireLocks_frame (s : State) : Frame s s.expireLocks := by
  refine mapDirectory_frame s _ fun d => ?_
  unfold DirEntry.expire
  split
  · rfl
  · split <;> rfl

/-! ## Ticks (R122 to R128) -/

theorem tick_frame (s : State) (e : Instant) : Frame s (s.tick e) := by
  unfold State.tick
  split
  · exact (setTimer_frame s _).trans (raise_frame _ _ _ _)
  · exact ((setTimer_frame s _).trans (ageRequests_frame _)).trans (expireLocks_frame _)

theorem internalTick_frame (s : State) (e : Instant) : Frame s (s.internalTick e) :=
  ((atInstant_frame s e).trans (setTimer_frame _ _)).trans (tick_frame _ e)

theorem guardTick_frame (s : State) (e : Instant) : Frame s (s.guardTick e) :=
  (((atInstant_frame s e).trans (setTimer_frame _ _)).trans (raise_frame _ _ _ _)).trans
    (tick_frame _ e)

theorem edge_frame (s : State) : Frame s s.edge := by
  unfold State.edge
  split
  · dsimp only
    split
    · exact Frame.refl s
    · exact (setTimer_frame s _).trans (tick_frame _ _)
    · split
      · exact ((setTimer_frame s _).trans (raise_frame _ _ _ _)).trans (tick_frame _ _)
      · exact (setTimer_frame s _).trans (raise_frame _ _ _ _)
  · exact Frame.refl s

theorem internalExpiry_frame (s : State) : Frame s s.internalExpiry := by
  unfold State.internalExpiry
  split
  · exact Frame.refl s
  · exact internalTick_frame s _

theorem guardExpiry_frame (s : State) : Frame s s.guardExpiry := by
  unfold State.guardExpiry
  split
  · exact Frame.refl s
  · exact guardTick_frame s _

theorem timerEvent_frame (s : State) (cause : TickCause) : Frame s (s.timerEvent cause) := by
  cases cause with
  | internalExpiry => exact internalExpiry_frame s
  | guardExpiry => exact guardExpiry_frame s
  | fsyncEdge t => exact (atInstant_frame s t).trans (edge_frame _)

theorem tickArmed_frame (s : State) (cause : TickCause) : Frame s (s.tickArmed cause) := by
  unfold State.tickArmed
  split
  · exact timerEvent_frame s cause
  · exact Frame.refl s

theorem tickBlanking_frame (s : State) (cause : TickCause) : Frame s (s.tickBlanking cause) := by
  unfold State.tickBlanking
  split
  · exact timerEvent_frame s cause
  · exact Frame.refl s

theorem endPass_frame (s : State) : Frame s s.endPass := by
  unfold State.endPass
  split
  · exact Frame.refl s
  · split
    · exact Frame.refl s
    · split
      · exact Frame.refl s
      · split
        · exact Frame.refl s
        · split
          · exact setTimer_frame s _
          · exact setTimer_frame s _

/-! ## The validator and the watched counts (R2, R165, R169) -/

theorem startValidation_frame (s : State) : Frame s s.startValidation :=
  (setValidator_frame s _).trans (place_frame _ _ _ _)

theorem signatureEvent_frame (s : State) : Frame s s.signatureEvent := by
  unfold State.signatureEvent
  split
  · exact setValidator_frame s _
  · exact startValidation_frame s

theorem restartValidation_frame (s : State) : Frame s s.restartValidation := by
  unfold State.restartValidation
  split
  · exact (setValidator_frame s _).trans (startValidation_frame _)
  · exact Frame.refl s

theorem statusWrite_frame (s : State) (o : PlanOutcome) : Frame s (s.statusWrite o) :=
  place_frame s _ _ _

theorem orderCountEvent_frame (s : State) (v : Half) : Frame s (s.orderCountEvent v) := by
  unfold State.orderCountEvent
  split
  · exact setEngine_frame s _
  · exact Frame.refl s

theorem completionCountEvent_frame (s : State) (v : Half) : Frame s (s.completionCountEvent v) := by
  unfold State.completionCountEvent
  split
  · exact setEngine_frame s _
  · exact Frame.refl s

theorem selfWriteFault_frame (s : State) (src : SelfSource) : Frame s (s.selfWriteFault src) := by
  unfold State.selfWriteFault
  split
  · exact Frame.refl s
  · exact raise_frame s _ _ _

theorem selfWriteAnswer_frame (s : State) (src : SelfSource) (a : Answer) :
    Frame s (s.selfWriteAnswer src a) := by
  unfold State.selfWriteAnswer
  split
  · exact Frame.refl s
  · exact Frame.refl s
  · exact selfWriteFault_frame s src

theorem dropAwaiting_frame (s : State) (i : Nat) :
    Frame s (s.setPort { s.port with awaiting := dropAt i s.port.awaiting }) :=
  setPort_frame s _ (restarts_dropAt_le s.port i)

end Sys2Proof.Steps

namespace Sys2Proof.Restart

open Sys2Proof Sys2Proof.Machine Sys2Proof.Laws Sys2Proof.Steps

/-! ## The calls at RESTART (R8) -/

/-- A call record at RESTART: an OPEN call goes CLOSING, and what waited for it is discarded. -/
def restartedCall (x : Call) : Call :=
  { x with
    state := if x.state = .opened then .closing else x.state, switches := [], closeSeq := none }

/-- A request that arrived for one of the OPEN calls listed is one of a closed call (log 9). -/
def closedBy (s : State) (cs : List CallNo) (a : Accepted) : Accepted :=
  if ∃ c ∈ cs, a.arrivalCall = some c ∧ s.calls[c].state = .opened then
    { a with closedUnder := true }
  else a

/-- A request for one of the OPEN calls listed, which RESTART withdraws (R97). -/
def asksFor (s : State) (cs : List CallNo) (r : ActRequest) : Prop :=
  ∃ c ∈ cs, r.subject = .call c ∧ s.calls[c].state = .opened

theorem setCall_setCall (s : State) (c : CallNo) (x y : Call) :
    (s.setCall c x).setCall c y = s.setCall c y := by
  simp [State.setCall]

theorem restartCall_of_open {s : State} {c : CallNo} (h : s.calls[c].state = .opened) :
    s.restartCall c = { s with
      calls := s.calls.set c (restartedCall s.calls[c])
      waiting := s.waiting.filter fun r => r.subject ≠ .call c
      port := { s.port with
        arrival := s.port.arrival.map (Accepted.close c)
        hold := s.port.hold.map (Accepted.close c) } } := by
  unfold State.restartCall
  dsimp only
  rw [setCall_get_self, if_pos h]
  unfold State.goClosing
  rw [setCall_get_self, setCall_setCall]
  simp only [restartedCall, h, if_true]
  rfl

theorem restartCall_of_not_open {s : State} {c : CallNo} (h : s.calls[c].state ≠ .opened) :
    s.restartCall c = s.setCall c (restartedCall s.calls[c]) := by
  unfold State.restartCall
  dsimp only
  rw [setCall_get_self, if_neg h]
  simp only [restartedCall, h, if_false]

theorem restartCall_calls (s : State) (c c' : CallNo) :
    (s.restartCall c).calls[c'] = if c' = c then restartedCall s.calls[c] else s.calls[c'] := by
  by_cases h : s.calls[c].state = .opened
  · rw [restartCall_of_open h]
    exact setCall_get s c c' _
  · rw [restartCall_of_not_open h]
    exact setCall_get s c c' _

theorem restartCall_open_iff (s : State) (c c' : CallNo) :
    (s.restartCall c).calls[c'].state = .opened ↔ s.calls[c'].state = .opened ∧ c' ≠ c := by
  rw [restartCall_calls]
  split
  · rename_i h; subst h
    simp only [restartedCall, ne_eq, not_true_eq_false, and_false, iff_false]
    split
    · simp
    · assumption
  · rename_i h
    simp only [ne_eq, h, not_false_eq_true, and_true]

theorem closedBy_pos {s : State} {cs : List CallNo} {a : Accepted} (c : CallNo) (hc : c ∈ cs)
    (ha : a.arrivalCall = some c) (hs : s.calls[c].state = .opened) :
    closedBy s cs a = { a with closedUnder := true } := if_pos ⟨c, hc, ha, hs⟩

theorem close_eq_closedBy {s : State} {c : CallNo} (h : s.calls[c].state = .opened) :
    Accepted.close c = closedBy s [c] := by
  funext a
  simp [Accepted.close, closedBy, h, -Fin.getElem_fin]

theorem closedBy_of_not_open {s : State} {c : CallNo} (h : s.calls[c].state ≠ .opened) :
    closedBy s [c] = id := by
  funext a
  simp [closedBy, h, -Fin.getElem_fin]

theorem closedBy_cons (s : State) (c : CallNo) (cs : List CallNo) (a : Accepted) :
    closedBy (s.restartCall c) cs (closedBy s [c] a) = closedBy s (c :: cs) a := by
  by_cases hfirst : a.arrivalCall = some c ∧ s.calls[c].state = .opened
  · obtain ⟨ha, hs⟩ := hfirst
    rw [closedBy_pos c (by simp) ha hs, closedBy_pos c (by simp) ha hs]
    unfold closedBy
    split <;> rfl
  · have hid : closedBy s [c] a = a := if_neg fun ⟨c', hc, ha, hs⟩ => by
      obtain rfl := List.mem_singleton.1 hc
      exact hfirst ⟨ha, hs⟩
    rw [hid]
    unfold closedBy
    refine if_congr ?_ rfl rfl
    simp only [restartCall_open_iff, List.mem_cons]
    constructor
    · rintro ⟨c', hc, ha, hs, -⟩
      exact ⟨c', .inr hc, ha, hs⟩
    · rintro ⟨c', rfl | hc, ha, hs⟩
      · exact absurd ⟨ha, hs⟩ hfirst
      · exact ⟨c', hc, ha, hs, by rintro rfl; exact hfirst ⟨ha, hs⟩⟩

theorem closedBy_nil (s : State) : closedBy s [] = id := funext fun _ => if_neg (by simp)

/-- Only the calls, the waiting requests and the marks of the port's waiting requests differ. -/
theorem restartCall_only (s : State) (c : CallNo) : ∃ k w, s.restartCall c = { s with
    calls := k, waiting := w, port := { s.port with
      arrival := s.port.arrival.map (closedBy s [c]), hold := s.port.hold.map (closedBy s [c]) } } := by
  by_cases h : s.calls[c].state = .opened
  · rw [restartCall_of_open h, close_eq_closedBy h]
    exact ⟨_, _, rfl⟩
  · rw [restartCall_of_not_open h, closedBy_of_not_open h]
    exact ⟨_, s.waiting, by simp only [Option.map_id, List.map_id, id]; rfl⟩

theorem restartCall_waiting (s : State) (c : CallNo) (r : ActRequest) :
    r ∈ (s.restartCall c).waiting ↔ r ∈ s.waiting ∧ ¬ asksFor s [c] r := by
  by_cases h : s.calls[c].state = .opened
  · rw [restartCall_of_open h]
    simp [asksFor, h, -Fin.getElem_fin]
  · rw [restartCall_of_not_open h]
    simp [asksFor, h, -Fin.getElem_fin]

/-- The calls listed, their waiting requests and the marks of the port's waiting requests alone differ
(R8, R97). -/
theorem restartCalls_only (cs : List CallNo) (s : State) :
    ∃ k w, s.restartCalls cs = { s with
      calls := k, waiting := w, port := { s.port with
        arrival := s.port.arrival.map (closedBy s cs)
        hold := s.port.hold.map (closedBy s cs) } } := by
  induction cs generalizing s with
  | nil =>
    rw [closedBy_nil]
    exact ⟨s.calls, s.waiting, by simp only [Option.map_id, List.map_id, id]; rfl⟩
  | cons c cs ih =>
    obtain ⟨k, w, hcs⟩ := ih (s.restartCall c)
    obtain ⟨k', w', hc⟩ := restartCall_only s c
    have hcons : closedBy (s.restartCall c) cs ∘ closedBy s [c] = closedBy s (c :: cs) := by
      funext a
      rw [Function.comp_apply, closedBy_cons]
    refine ⟨k, w, ?_⟩
    rw [State.restartCalls, hcs, ← hcons, ← Option.map_map, ← List.map_map]
    generalize closedBy (s.restartCall c) cs = f
    rw [hc]

theorem asksFor_cons (s : State) (c : CallNo) (cs : List CallNo) (r : ActRequest) :
    asksFor s (c :: cs) r ↔ asksFor s [c] r ∨ asksFor (s.restartCall c) cs r := by
  unfold asksFor
  simp only [restartCall_open_iff, List.mem_cons, List.not_mem_nil, or_false, exists_eq_left]
  constructor
  · rintro ⟨c', hc, hr, hs⟩
    by_cases hcc : c' = c
    · subst hcc; exact .inl ⟨hr, hs⟩
    · exact .inr ⟨c', hc.resolve_left hcc, hr, hs, hcc⟩
  · rintro (⟨hr, hs⟩ | ⟨c', hc, hr, hs, -⟩)
    · exact ⟨c, .inl rfl, hr, hs⟩
    · exact ⟨c', .inr hc, hr, hs⟩

theorem restartedCall_twice (x : Call) : restartedCall (restartedCall x) = restartedCall x := by
  unfold restartedCall
  split <;> simp_all

theorem restartCalls_calls (cs : List CallNo) (s : State) (c : CallNo) :
    (s.restartCalls cs).calls[c] = if c ∈ cs then restartedCall s.calls[c] else s.calls[c] := by
  induction cs generalizing s with
  | nil => simp [State.restartCalls]
  | cons c' cs ih =>
    rw [State.restartCalls, ih, restartCall_calls]
    by_cases hcc : c = c'
    · subst hcc
      simp [restartedCall_twice, -Fin.getElem_fin]
    · simp [hcc, -Fin.getElem_fin]

theorem restartCalls_waiting (cs : List CallNo) (s : State) (r : ActRequest) :
    r ∈ (s.restartCalls cs).waiting ↔ r ∈ s.waiting ∧ ¬ asksFor s cs r := by
  induction cs generalizing s with
  | nil => simp [State.restartCalls, asksFor]
  | cons c cs ih =>
    rw [State.restartCalls, ih, restartCall_waiting, asksFor_cons s c cs, and_assoc, ← not_or]

/-! ## The slots at RESTART (R8, R146) -/

/-- A mark of a watched write that RESTART has voided. -/
def voidMark (k : Mark) : Mark := { k with voided := true }

/-- A slot record at RESTART: its watched write in flight is voided, and it is FREE. -/
def restartedSlot (x : Mbox) : Mbox :=
  if x.state = .free then { x with inFlight := x.inFlight.map voidMark }
  else { Mbox.free with inFlight := x.inFlight.map voidMark, selfRead := x.selfRead }

/-- The two self-writes of a slot that RESTART frees: its claim word cleared, its mirror FREE. -/
def freedWrites (s : State) (m : MboxNo) : List SelfEntry :=
  [selfWrite (s.thePlan.mailboxBase / 4 + 16 * m.val) [0#32] (.claimClear m),
   selfWrite (s.thePlan.mailboxBase / 4 + 16 * m.val + 5) [0#32] (.mirror m)]

/-- The endpoint owns one of the slots listed that are outside FREE. -/
def ownsBusy (s : State) (ms : List MboxNo) (e : EpNo) : Prop :=
  ∃ m ∈ ms, s.mailboxes[m].state ≠ .free ∧ s.mailboxes[m].owner = some e

theorem mirrorWord_free : mirrorWord .free false = 0#32 := by decide

/-- An endpoint, where there is one, loses the slot field of its record. -/
def clearSlotOf (s : State) : Option EpNo → State
  | none => s
  | some e => s.setEp e { s.endpoints[e] with slot := none }

theorem clearSlotOf_only (s : State) (o : Option EpNo) :
    ∃ v, clearSlotOf s o = { s with endpoints := v } := by
  cases o with
  | none => exact ⟨s.endpoints, rfl⟩
  | some e => exact ⟨_, rfl⟩

theorem clearSlotOf_setMbox (s : State) (o : Option EpNo) (m : MboxNo) (x : Mbox) :
    clearSlotOf (s.setMbox m x) o = (clearSlotOf s o).setMbox m x := by
  cases o <;> rfl

theorem clearSlotOf_endpoint (s : State) (o : Option EpNo) (e : EpNo) :
    (clearSlotOf s o).endpoints[e] =
      if o = some e then { s.endpoints[e] with slot := none } else s.endpoints[e] := by
  cases o with
  | none => rfl
  | some o =>
    rw [clearSlotOf, setEp_get]
    by_cases he : e = o
    · subst he; simp
    · have : ¬ o = e := fun x => he x.symm
      simp [he, this]

theorem setMbox_setMbox (s : State) (m : MboxNo) (x y : Mbox) :
    (s.setMbox m x).setMbox m y = s.setMbox m y := by
  simp [State.setMbox]

/-- A slot that goes FREE: its record is freed, and its owner's slot field cleared (R145). -/
theorem freeSlot_eq (s : State) (m : MboxNo) :
    s.freeSlot m = (clearSlotOf s s.mailboxes[m].owner).setMbox m s.mailboxes[m].freed := rfl

theorem restartSlot_of_free {s : State} {m : MboxNo} (h : s.mailboxes[m].state = .free) :
    s.restartSlot m = s.setMbox m (restartedSlot s.mailboxes[m]) := by
  unfold State.restartSlot
  dsimp only
  rw [setMbox_get_self, if_pos h, restartedSlot, if_pos h]
  rfl

theorem restartSlot_of_busy {s : State} {m : MboxNo} (h : s.mailboxes[m].state ≠ .free) :
    s.restartSlot m = ((clearSlotOf s s.mailboxes[m].owner).setMbox m
      (restartedSlot s.mailboxes[m])).place .admission false (freedWrites s m) := by
  obtain ⟨v, hv⟩ := clearSlotOf_only s s.mailboxes[m].owner
  unfold State.restartSlot
  dsimp only
  rw [setMbox_get_self, if_neg h, freeSlot_eq, setMbox_get_self, clearSlotOf_setMbox,
    setMbox_setMbox, hv]
  unfold State.claimClearWrite State.mirrorWrite
  rw [setMbox_get_self, restartedSlot, if_neg h]
  unfold Mbox.freed freedWrites Mbox.free
  simp only [mirrorWord_free]
  rfl

theorem restartSlot_mailboxes (s : State) (m m' : MboxNo) :
    (s.restartSlot m).mailboxes[m'] =
      if m' = m then restartedSlot s.mailboxes[m] else s.mailboxes[m'] := by
  by_cases h : s.mailboxes[m].state = .free
  · rw [restartSlot_of_free h]
    exact setMbox_get s m m' _
  · rw [restartSlot_of_busy h]
    obtain ⟨v, hv⟩ := clearSlotOf_only s s.mailboxes[m].owner
    rw [hv]
    exact setMbox_get s m m' _

theorem restartSlot_endpoints (s : State) (m : MboxNo) (e : EpNo) :
    (s.restartSlot m).endpoints[e] =
      if s.mailboxes[m].state ≠ .free ∧ s.mailboxes[m].owner = some e then
        { s.endpoints[e] with slot := none }
      else s.endpoints[e] := by
  by_cases h : s.mailboxes[m].state = .free
  · rw [restartSlot_of_free h, if_neg fun x => x.1 h]
    rfl
  · rw [restartSlot_of_busy h]
    simp only [ne_eq, h, not_false_eq_true, true_and]
    exact clearSlotOf_endpoint s _ e

theorem restartSlot_port (s : State) (m : MboxNo) :
    (s.restartSlot m).port =
      if s.mailboxes[m].state = .free then s.port
      else s.port.place .admission false (freedWrites s m) := by
  by_cases h : s.mailboxes[m].state = .free
  · rw [restartSlot_of_free h, if_pos h]
    rfl
  · rw [restartSlot_of_busy h, if_neg h]
    obtain ⟨v, hv⟩ := clearSlotOf_only s s.mailboxes[m].owner
    rw [hv]
    rfl

theorem restartSlot_only (s : State) (m : MboxNo) : ∃ v b p, s.restartSlot m =
    { s with endpoints := v, mailboxes := b, port := p } := by
  by_cases h : s.mailboxes[m].state = .free
  · exact ⟨s.endpoints, _, s.port, restartSlot_of_free h⟩
  · rw [restartSlot_of_busy h]
    obtain ⟨v, hv⟩ := clearSlotOf_only s s.mailboxes[m].owner
    rw [hv]
    exact ⟨v, _, _, rfl⟩

theorem restartSlots_only (ms : List MboxNo) (s : State) : ∃ v b p, s.restartSlots ms =
    { s with endpoints := v, mailboxes := b, port := p } := by
  induction ms generalizing s with
  | nil => exact ⟨s.endpoints, s.mailboxes, s.port, rfl⟩
  | cons m ms ih =>
    obtain ⟨v, b, p, hm⟩ := restartSlot_only s m
    obtain ⟨v', b', p', hms⟩ := ih (s.restartSlot m)
    exact ⟨v', b', p', by rw [State.restartSlots, hms, hm]⟩

theorem restartedSlot_twice (x : Mbox) : restartedSlot (restartedSlot x) = restartedSlot x := by
  have hvoid : ∀ o : Option Mark, (o.map voidMark).map voidMark = o.map voidMark := fun o => by
    cases o <;> rfl
  by_cases h : x.state = .free
  · simp [restartedSlot, h, hvoid]
  · simp [restartedSlot, h, hvoid, Mbox.free]

theorem restartSlots_mailboxes (ms : List MboxNo) (s : State) (m : MboxNo) :
    (s.restartSlots ms).mailboxes[m] =
      if m ∈ ms then restartedSlot s.mailboxes[m] else s.mailboxes[m] := by
  induction ms generalizing s with
  | nil => simp [State.restartSlots]
  | cons m' ms ih =>
    rw [State.restartSlots, ih, restartSlot_mailboxes]
    by_cases hmm : m = m'
    · subst hmm
      simp [restartedSlot_twice, -Fin.getElem_fin]
    · simp [hmm, -Fin.getElem_fin]

theorem mailboxes_of_not_mem (s : State) {m : MboxNo} {ms : List MboxNo} (h : m ∉ ms)
    {m' : MboxNo} (hm' : m' ∈ ms) : (s.restartSlot m).mailboxes[m'] = s.mailboxes[m'] := by
  rw [restartSlot_mailboxes, if_neg (by rintro rfl; exact h hm')]

theorem ownsBusy_cons (s : State) {m : MboxNo} {ms : List MboxNo} (h : m ∉ ms) (e : EpNo) :
    ownsBusy s (m :: ms) e ↔
      (s.mailboxes[m].state ≠ .free ∧ s.mailboxes[m].owner = some e)
        ∨ ownsBusy (s.restartSlot m) ms e := by
  unfold ownsBusy
  simp only [List.mem_cons, exists_eq_or_imp]
  refine or_congr_right (exists_congr fun m' => and_congr_right fun hm' => ?_)
  rw [mailboxes_of_not_mem s h hm']

/-- The owners of the slots freed lose the slot field of their records (R140). -/
theorem restartSlots_endpoints (ms : List MboxNo) (hms : ms.Nodup) (s : State) (e : EpNo) :
    (ownsBusy s ms e → (s.restartSlots ms).endpoints[e] = { s.endpoints[e] with slot := none })
    ∧ (¬ ownsBusy s ms e → (s.restartSlots ms).endpoints[e] = s.endpoints[e]) := by
  induction ms generalizing s with
  | nil => exact ⟨fun ⟨m, hm, _⟩ => absurd hm (by simp), fun _ => rfl⟩
  | cons m ms ih =>
    obtain ⟨hnot, hnodup⟩ := List.nodup_cons.1 hms
    obtain ⟨hbusy, hidle⟩ := ih hnodup (s.restartSlot m)
    rw [ownsBusy_cons s hnot, State.restartSlots]
    have hhead := restartSlot_endpoints s m e
    by_cases htail : ownsBusy (s.restartSlot m) ms e
    · refine ⟨fun _ => ?_, fun h => absurd (.inr htail) h⟩
      rw [hbusy htail, hhead]
      split <;> rfl
    · rw [hidle htail, hhead]
      exact ⟨fun h => if_pos (h.resolve_right htail), fun h => if_neg fun x => h (.inl x)⟩

/-- The writes of the slots freed are placed slot by slot, in the order of the list (R146). -/
theorem restartSlots_port (ms : List MboxNo) (hms : ms.Nodup) (s : State) :
    (s.restartSlots ms).port = (ms.filter fun m => s.mailboxes[m].state ≠ .free).foldl
      (fun p m => p.place .admission false (freedWrites s m)) s.port := by
  induction ms generalizing s with
  | nil => rfl
  | cons m ms ih =>
    obtain ⟨hnot, hnodup⟩ := List.nodup_cons.1 hms
    obtain ⟨v, b, p, heq⟩ := restartSlot_only s m
    have hwrites : freedWrites (s.restartSlot m) = freedWrites s := by rw [heq]; rfl
    have hfilter : (ms.filter fun m' => (s.restartSlot m).mailboxes[m'].state ≠ .free) =
        ms.filter fun m' => s.mailboxes[m'].state ≠ .free :=
      List.filter_congr fun m' hm' => by rw [mailboxes_of_not_mem s hnot hm']
    rw [State.restartSlots, ih hnodup, hfilter, hwrites, restartSlot_port]
    by_cases h : s.mailboxes[m].state = .free
    · simp [h, -Fin.getElem_fin]
    · simp [h, -Fin.getElem_fin]

end Sys2Proof.Restart

namespace Sys2Proof.Restart

open Sys2Proof Sys2Proof.Machine Sys2Proof.Laws Sys2Proof.Steps

/-! ## RESTART at its execution (R8, R97) -/

/-- The fetch of an order that returns OK is carried out on the state after the fetch (R166). -/
theorem returnOrder_of_fetchAt {s : State} {i : Nat} {q : Half} (h : s.FetchAt i q) (t : Instant)
    (o : Order) : (s.atInstant t).returnOrder o = (s.afterFetch t i).execute q o := by
  obtain ⟨hidx, hfetch⟩ := h
  have hidx' : (s.atInstant t).awaitingIdx (Awaiting.isSelf .orderFetch) = some i := hidx
  unfold State.returnOrder State.fetchReturn
  rw [hidx']
  show (match s.engine.fetching with
    | none => _
    | some q => (s.afterAnswer t i).countConsumed.execute q o) = _
  rw [hfetch]
  rfl

/-- After a fetch only the instant, the order engine's record, the requests that await memory and the
self traffic differ. -/
theorem afterFetch_only (s : State) (t : Instant) (i : Nat) : ∃ g y q w, s.afterFetch t i =
    { s with now := max s.now t, engine := g, port := { s.port with
      awaiting := y, selfQ := q, waiters := w } } := by
  obtain ⟨g, q, w, h⟩ := countConsumed_only (s.afterAnswer t i)
  exact ⟨g, _, q, w, h⟩

/-- Requests and marks of a port play no part in placing self traffic. -/
theorem foldl_place_arrival_hold {α : Type} (b : Block) (f : α → List SelfEntry) (l : List α)
    (p : Port) (a : Option Accepted) (h : List Accepted) :
    l.foldl (fun p x => p.place b false (f x)) { p with arrival := a, hold := h } =
      { l.foldl (fun p x => p.place b false (f x)) p with arrival := a, hold := h } := by
  induction l generalizing p with
  | nil => rfl
  | cons x xs ih =>
    rw [List.foldl_cons, List.foldl_cons, ← ih]
    congr 1
    unfold Port.place Port.fits
    split <;> rfl

/-- The calls that RESTART goes through: those outside FREE. -/
def restartList (s : State) : List CallNo := tabIdxs (fun c => !c.isFree) s.calls

theorem isFree_iff (x : Call) : x.isFree = true ↔ x.state = .free := by
  unfold Call.isFree
  split <;> simp_all

theorem mem_restartList (s : State) (c : CallNo) :
    c ∈ restartList s ↔ s.calls[c].state ≠ .free := by
  unfold restartList
  rw [mem_tabIdxs, Bool.not_eq_true', ← Bool.not_eq_true, isFree_iff]

theorem restarted_entry (l : Lane) (d : EntryNo) (h : l.subject = some (.entry d)) :
    l.restarted = { l with expansion := l.expansion.map fun x => { x with slots := [] } } := by
  simp only [Lane.restarted, h]

theorem restarted_other (l : Lane) (h : ∀ d, l.subject ≠ some (.entry d)) : l.restarted = l := by
  unfold Lane.restarted
  split
  · rename_i d hd; exact absurd hd (h d)
  · rfl
  · rfl

/-- The state of RESTART in which the calls have been gone through. -/
def restartBegun (s : State) (q : Half) : State :=
  State.restartCalls { s with
    part := .quiescing
    engine := { s.engine with inExec := some { seq := q, phase := .restart false } } } (restartList s)

/-- The end of RESTART: the requests of entries are withdrawn, and their activations in flight serve no
slot. -/
def restartEnded (u : State) : State :=
  { u.setWaiting (u.waiting.filter ActRequest.isCall) with lanes := mapTab Lane.restarted u.lanes }

theorem doRestart_eq (s : State) (q : Half) :
    s.doRestart q = restartEnded ((restartBegun s q).restartSlots (List.finRange 32)) := by
  unfold State.doRestart restartBegun restartEnded
  generalize List.finRange 32 = ms
  rfl

theorem restartEnded_calls (u : State) : (restartEnded u).calls = u.calls := rfl
theorem restartEnded_mailboxes (u : State) : (restartEnded u).mailboxes = u.mailboxes := rfl
theorem restartEnded_endpoints (u : State) : (restartEnded u).endpoints = u.endpoints := rfl
theorem restartEnded_port (u : State) : (restartEnded u).port = u.port := rfl
theorem restartEnded_waiting (u : State) :
    (restartEnded u).waiting = u.waiting.filter ActRequest.isCall := rfl
theorem restartEnded_lanes (u : State) :
    (restartEnded u).lanes = mapTab Lane.restarted u.lanes := rfl

theorem restartBegun_only (s : State) (q : Half) : ∃ k w, restartBegun s q = { s with
    part := .quiescing, calls := k, waiting := w
    engine := { s.engine with inExec := some { seq := q, phase := .restart false } }
    port := { s.port with
      arrival := s.port.arrival.map (closedBy s (restartList s))
      hold := s.port.hold.map (closedBy s (restartList s)) } } :=
  restartCalls_only (restartList s) _

/-- What RESTART leaves alone, and the marks it sets on waiting requests. -/
theorem doRestart_only (s : State) (q : Half) : ∃ k b v w l p, s.doRestart q = { s with
    part := .quiescing, calls := k, mailboxes := b, endpoints := v, waiting := w, lanes := l
    engine := { s.engine with inExec := some { seq := q, phase := .restart false } }, port := p } := by
  obtain ⟨k, w, hbegun⟩ := restartBegun_only s q
  obtain ⟨v, b, p, hslots⟩ := restartSlots_only (List.finRange 32) (restartBegun s q)
  rw [doRestart_eq, hslots, hbegun]
  exact ⟨_, _, _, _, _, _, rfl⟩

theorem doRestart_call (s : State) (q : Half) (c : CallNo) :
    (s.doRestart q).calls[c] =
      if s.calls[c].state ≠ .free then restartedCall s.calls[c] else s.calls[c] := by
  obtain ⟨v, b, p, hslots⟩ := restartSlots_only (List.finRange 32) (restartBegun s q)
  have hcalls : (s.doRestart q).calls = (restartBegun s q).calls := by
    rw [doRestart_eq, restartEnded_calls, hslots]
  rw [hcalls, restartBegun, restartCalls_calls]
  simp only [mem_restartList]

theorem doRestart_mailbox (s : State) (q : Half) (m : MboxNo) :
    (s.doRestart q).mailboxes[m] = restartedSlot s.mailboxes[m] := by
  obtain ⟨k, w, hbegun⟩ := restartBegun_only s q
  have hboxes : (restartBegun s q).mailboxes = s.mailboxes := by rw [hbegun]
  rw [doRestart_eq, restartEnded_mailboxes, restartSlots_mailboxes, if_pos (List.mem_finRange m),
    hboxes]

theorem doRestart_endpoint (s : State) (q : Half) (e : EpNo) :
    (ownsBusy s (List.finRange 32) e →
      (s.doRestart q).endpoints[e] = { s.endpoints[e] with slot := none })
    ∧ (¬ ownsBusy s (List.finRange 32) e → (s.doRestart q).endpoints[e] = s.endpoints[e]) := by
  obtain ⟨k, w, hbegun⟩ := restartBegun_only s q
  have h := restartSlots_endpoints (List.finRange 32) (List.nodup_finRange 32) (restartBegun s q) e
  have heps : (restartBegun s q).endpoints = s.endpoints := by rw [hbegun]
  have hbusy : ownsBusy (restartBegun s q) (List.finRange 32) = ownsBusy s (List.finRange 32) := by
    rw [hbegun]; rfl
  rw [heps, hbusy] at h
  rw [doRestart_eq, restartEnded_endpoints]
  exact h

theorem doRestart_waiting (s : State) (q : Half) (r : ActRequest) :
    r ∈ (s.doRestart q).waiting ↔
      r ∈ s.waiting ∧ ∃ c, r.subject = .call c ∧ s.calls[c].state ≠ .opened := by
  obtain ⟨v, b, p, hslots⟩ := restartSlots_only (List.finRange 32) (restartBegun s q)
  have hwait : (s.doRestart q).waiting = (restartBegun s q).waiting.filter ActRequest.isCall := by
    rw [doRestart_eq, restartEnded_waiting, hslots]
  rw [hwait, List.mem_filter, restartBegun, restartCalls_waiting]
  show (r ∈ s.waiting ∧ ¬ asksFor s (restartList s) r) ∧ r.isCall = true ↔ _
  rw [and_assoc]
  refine and_congr_right fun _ => ?_
  unfold ActRequest.isCall asksFor
  simp only [mem_restartList]
  cases hsub : r.subject with
  | entry d => simp
  | call c =>
    simp only [Subject.call.injEq, exists_eq_left', and_true]
    constructor
    · intro hnot hopen
      exact hnot ⟨c, by rw [hopen]; simp, rfl, hopen⟩
    · rintro hclosed ⟨c', -, rfl, hopen⟩
      exact hclosed hopen

theorem doRestart_lane (s : State) (q : Half) (l : LaneNo) :
    (s.doRestart q).lanes[l] = s.lanes[l].restarted := by
  obtain ⟨k, w, hbegun⟩ := restartBegun_only s q
  obtain ⟨v, b, p, hslots⟩ := restartSlots_only (List.finRange 32) (restartBegun s q)
  have hlanes : (s.doRestart q).lanes = mapTab Lane.restarted s.lanes := by
    rw [doRestart_eq, restartEnded_lanes, hslots, hbegun]
  rw [hlanes, mapTab_get]

/-- The port after the self-writes of the slots freed, taken in ascending order (log 31). -/
def freedPort (s : State) : Port :=
  ((List.finRange 32).filter fun m => s.mailboxes[m].state ≠ .free).foldl
    (fun p m => p.place .admission false (freedWrites s m)) s.port

theorem doRestart_port (s : State) (q : Half) :
    (s.doRestart q).port =
      { freedPort s with
        arrival := s.port.arrival.map (closedBy s (restartList s))
        hold := s.port.hold.map (closedBy s (restartList s)) } := by
  obtain ⟨k, w, hbegun⟩ := restartBegun_only s q
  rw [doRestart_eq, restartEnded_port, restartSlots_port _ (List.nodup_finRange 32), freedPort,
    ← foldl_place_arrival_hold, hbegun]
  rfl

/-- Settles O48, from what RESTART makes of each table. -/
theorem restartQuiesces : Obligations.RestartQuiesces := by
  intro s t i q hfetch w area closes void
  obtain ⟨g, y, sq, wt, hw⟩ := afterFetch_only s t i
  have hcalls : w.calls = s.calls := by rw [show w = _ from hw]
  have hboxes : w.mailboxes = s.mailboxes := by rw [show w = _ from hw]
  have heps : w.endpoints = s.endpoints := by rw [show w = _ from hw]
  have hwaiting : w.waiting = s.waiting := by rw [show w = _ from hw]
  have hlanes : w.lanes = s.lanes := by rw [show w = _ from hw]
  have harrival : w.port.arrival = s.port.arrival := by rw [show w = _ from hw]
  have hhold : w.port.hold = s.port.hold := by rw [show w = _ from hw]
  have hwrites : freedWrites w = fun m =>
      [selfWrite (area m) [0#32] (.claimClear m), selfWrite (area m + 5) [0#32] (.mirror m)] := by
    rw [show w = _ from hw]; rfl
  have hcloses : closedBy w (restartList w) = closes := by
    funext a
    refine if_congr ?_ rfl rfl
    simp only [mem_restartList, hcalls]
    exact ⟨fun ⟨c, _, ha, hs⟩ => ⟨c, ha, hs⟩, fun ⟨c, ha, hs⟩ => ⟨c, by rw [hs]; simp, ha, hs⟩⟩
  have hport := doRestart_port w q
  obtain ⟨k, b, v, w', l, p, honly⟩ := doRestart_only w q
  refine ⟨w.doRestart q, w.setPort (freedPort w), ?_, by rw [honly], fun c => ?_, fun m => ?_,
    fun e => ?_, fun r => ?_, fun l => ?_, by rw [setPort_port, freedPort, hwrites, hboxes], ?_⟩
  · show Host.Outcome.next ((s.atInstant t).returnOrder .restart).settle = _
    rw [returnOrder_of_fetchAt hfetch]
    rfl
  · rw [doRestart_call, hcalls]
    refine ⟨fun h => ?_, fun h => ?_, fun h => ?_⟩
    · rw [h]; simp [restartedCall, h, -Fin.getElem_fin]
    · rw [h]; simp [restartedCall, h, -Fin.getElem_fin]
    · rw [h]; simp
  · rw [doRestart_mailbox, hboxes]
    refine ⟨fun h => if_pos h, fun h => if_neg h⟩
  · have hbusy : ownsBusy w (List.finRange 32) e ↔
        ∃ m : MboxNo, s.mailboxes[m].state ≠ .free ∧ s.mailboxes[m].owner = some e := by
      simp only [ownsBusy, hboxes, List.mem_finRange, true_and]
    obtain ⟨hyes, hno⟩ := doRestart_endpoint w q e
    rw [hbusy, heps] at hyes hno
    split
    · exact hyes ‹_›
    · exact hno ‹_›
  · rw [doRestart_waiting, hwaiting, hcalls]
  · rw [doRestart_lane, hlanes]
    exact ⟨fun ⟨d, hd⟩ => restarted_entry _ d hd, restarted_other _⟩
  · rw [hcloses, harrival, hhold] at hport
    rw [setPort_port, ← hport, honly]

end Sys2Proof.Restart

namespace Sys2Proof.Pairs

open Sys2Proof Sys2Proof.Machine Sys2Proof.Laws Sys2Proof.Steps Sys2Proof.Restart

/-! ## The pairs, and the operations that keep them -/

/-- The pairs of the tables, with the slots' own agreement, on which they rest. -/
structure Paired (s : State) : Prop where
  calls : s.CallsPaired
  slots : s.SlotsPaired
  admission : s.AdmissionPaired
  restart : s.RestartQuiet
  wellFormed : s.SlotsWellFormed

/-- An operation that leaves the pins and the queue alone and keeps the pairs. -/
structure Keeps (s u : State) : Prop extends Held s u where
  paired : Paired s → Paired u

theorem Keeps.refl (s : State) : Keeps s s := ⟨Held.refl s, id⟩

theorem Keeps.trans {s u v : State} (h : Keeps s u) (k : Keeps u v) : Keeps s v :=
  ⟨h.toHeld.trans k.toHeld, k.paired ∘ h.paired⟩

/-! ### Pairs that nothing touches -/

section Same

variable {s u : State}

theorem callsPaired_of_same (h : s.CallsPaired) (k : SameCalls s u) : u.CallsPaired := by
  obtain ⟨hlists, heps, hrings⟩ := h
  refine ⟨fun c => ?_, fun e c => ?_, fun r c e => ?_⟩
  · rw [k.members, k.call]; exact hlists c
  · rw [k.members, k.epCall]; exact heps e c
  · rw [k.members, k.owned]; exact hrings r c e

/-- Owners and slot fields are as they were, and no write is in flight that was not. -/
theorem slotsPaired_of_marks (h : s.SlotsPaired)
    (howner : ∀ m : MboxNo, u.mailboxes[m].owner = s.mailboxes[m].owner)
    (hep : ∀ e : EpNo, u.endpoints[e].slot = s.endpoints[e].slot)
    (hmark : ∀ (m : MboxNo) (k : Mark), u.mailboxes[m].inFlight = some k →
      ∃ k', s.mailboxes[m].inFlight = some k' ∧ k'.kind = k.kind ∧ k'.ep = k.ep) :
    u.SlotsPaired := by
  obtain ⟨hpair, hclaim⟩ := h
  refine ⟨fun m e => by rw [howner, hep]; exact hpair m e, fun m k hk hkind => ?_⟩
  obtain ⟨k₀, hk₀, hkind₀, hep₀⟩ := hmark m k hk
  obtain ⟨hslot, honce⟩ := hclaim m k₀ hk₀ (hkind₀.trans hkind)
  refine ⟨by rw [hep, ← hep₀]; exact hslot, fun m' k' hk' hkind' he' => ?_⟩
  obtain ⟨k₁, hk₁, hkind₁, hep₁⟩ := hmark m' k' hk'
  exact honce m' k₁ hk₁ (hkind₁.trans hkind') (by rw [hep₁, hep₀, he'])

theorem slotsPaired_of_same (h : s.SlotsPaired) (k : SameSlots s u) : u.SlotsPaired :=
  slotsPaired_of_marks h k.owner k.epSlot fun m x hx =>
    ⟨x, (k.inFlight m).symm.trans hx, rfl, rfl⟩

theorem slotsWellFormed_of_same (h : s.SlotsWellFormed) (k : SameSlots s u) :
    u.SlotsWellFormed := by
  simp only [State.SlotsWellFormed, k.owner, k.slot, k.deadline]
  exact h

/-- Admissions are as they were; every owner of a slot in CHALLENGED or ANSWERED is OUT, and no go code
ANSWER is in flight that was not. -/
theorem admissionPaired_of_slots (h : s.AdmissionPaired) (l : SameAdmission s u)
    (hslot : ∀ (m : MboxNo) (e : EpNo), u.mailboxes[m].state = .challenged
      ∨ u.mailboxes[m].state = .answered → u.mailboxes[m].owner = some e →
        s.endpoints[e].admitted = none)
    (hmark : ∀ (m : MboxNo) (k : Mark), u.mailboxes[m].inFlight = some k → k.kind = .goAnswer →
      k.judged = .challenged) : u.AdmissionPaired := by
  refine ⟨fun e d => by rw [l.epAdmitted, l.entry]; exact h.1 e d, fun m e => ⟨fun hs ho => ?_, hmark m⟩⟩
  rw [l.epAdmitted]
  exact hslot m e hs ho

theorem admissionPaired_of_same (h : s.AdmissionPaired) (k : SameSlots s u)
    (l : SameAdmission s u) : u.AdmissionPaired :=
  admissionPaired_of_slots h l
    (fun m e hs ho => (h.2 m e).1 (by rwa [k.slot] at hs) ((k.owner m).symm.trans ho))
    (fun m x hx => (h.2 m 0).2 x ((k.inFlight m).symm.trans hx))

theorem restartOf_eq_some {g : Engine} {q : Half} {w : Bool} :
    restartOf g = some (q, w) ↔ g.inExec = some { seq := q, phase := .restart w } := by
  unfold restartOf
  constructor
  · intro h
    split at h
    · rename_i hexec; cases h; exact hexec
    · cases h
  · intro h
    rw [h]

/-- While RESTART is not in execution no entry write of its completion stands. -/
theorem restarts_eq_zero (h : s.RestartQuiet) (hidle : restartOf s.engine = none) :
    s.port.restarts = 0 := by
  obtain ⟨-, hexec, -⟩ := h
  by_contra hpos
  obtain ⟨q, hq⟩ := hexec (by omega)
  rw [restartOf_eq_some.2 hq] at hidle
  cases hidle

/-- RESTART is not in execution, or what is quiet while it is. -/
theorem idle_or_quiet (h : s.RestartQuiet) : restartOf s.engine = none
    ∨ s.part = .quiescing ∧ ∀ m : MboxNo, s.mailboxes[m].state = .free
      ∧ ∀ k, s.mailboxes[m].inFlight = some k → k.voided = true := by
  cases hrestart : restartOf s.engine with
  | none => exact .inl rfl
  | some x =>
    obtain ⟨hpart, -, hslots, -⟩ := h.2.2 x.1 x.2 (restartOf_eq_some.1 hrestart)
    exact .inr ⟨hpart, hslots⟩

theorem restartQuiet_of_idle (hidle : restartOf u.engine = none) (h0 : u.port.restarts = 0) :
    u.RestartQuiet := by
  refine ⟨by omega, by omega, fun q w hq => ?_⟩
  rw [restartOf_eq_some.2 hq] at hidle
  cases hidle

/-- What is quiet while RESTART is in execution stays so where no call opens, no call leaves FREE, and
no FREE slot leaves FREE or takes a write in flight that stands. -/
theorem restartQuiet_of_same (h : s.RestartQuiet) (k : SameRestart s u)
    (hopen : ∀ c : CallNo, u.calls[c].state = .opened → s.calls[c].state = .opened)
    (hfree : ∀ c : CallNo, s.calls[c].state = .free → u.calls[c].state = .free)
    (hslot : ∀ m : MboxNo, s.mailboxes[m].state = .free → u.mailboxes[m].state = .free)
    (hmark : ∀ (m : MboxNo) (k : Mark), u.mailboxes[m].inFlight = some k →
      s.mailboxes[m].inFlight = some k) : u.RestartQuiet := by
  obtain ⟨hone, hexec, hquiet⟩ := h
  have hsame : ∀ q w, u.engine.inExec = some { seq := q, phase := .restart w } ↔
      s.engine.inExec = some { seq := q, phase := .restart w } := fun q w => by
    rw [← restartOf_eq_some, ← restartOf_eq_some, k.restart]
  refine ⟨k.restarts.trans hone, fun hpos => ?_, fun q w hq => ?_⟩
  · obtain ⟨q, hq⟩ := hexec (lt_of_lt_of_le hpos k.restarts)
    exact ⟨q, (hsame q true).2 hq⟩
  · obtain ⟨hpart, hclosed, hslots, hdone⟩ := hquiet q w ((hsame q w).1 hq)
    refine ⟨k.part.trans hpart, fun c hc => hclosed c (hopen c hc), fun m => ?_,
      fun hw c => hfree c (hdone hw c)⟩
    obtain ⟨hm, hvoid⟩ := hslots m
    exact ⟨hslot m hm, fun x hx => hvoid x (hmark m x hx)⟩

theorem restartQuiet_of_sameTables (h : s.RestartQuiet) (k : SameRestart s u)
    (hc : ∀ c : CallNo, u.calls[c].state = s.calls[c].state) (hm : SameSlots s u) :
    u.RestartQuiet :=
  restartQuiet_of_same h k (fun c x => (hc c).symm.trans x) (fun c x => (hc c).trans x)
    (fun m x => (hm.slot m).trans x) (fun m _ x => (hm.inFlight m).symm.trans x)

theorem Frame.keeps (h : Frame s u) : Keeps s u :=
  ⟨h.toHeld, fun p =>
    { calls := callsPaired_of_same p.calls h.toSameCalls
      slots := slotsPaired_of_same p.slots h.toSameSlots
      admission := admissionPaired_of_same p.admission h.toSameSlots h.toSameAdmission
      restart := restartQuiet_of_sameTables p.restart h.toSameRestart h.call h.toSameSlots
      wellFormed := slotsWellFormed_of_same p.wellFormed h.toSameSlots }⟩

theorem Keeps.frame {v : State} (h : Keeps s u) (k : Frame u v) : Keeps s v :=
  h.trans (Frame.keeps k)

end Same

/-! ### Calls, members and talk rings (R99 to R101) -/

section Calls

variable {s : State}

theorem call_of_member (h : s.CallsPaired) {c : CallNo} {m : Member}
    (hm : m ∈ s.calls[c].members) : s.endpoints[m.ep].call = some c :=
  (h.2.1 m.ep c).2 ⟨m, hm, rfl⟩

theorem owned_of_member (h : s.CallsPaired) {c : CallNo} {m : Member}
    (hm : m ∈ s.calls[c].members) : s.rings[m.ring].state = .owned c m.ep :=
  (h.2.2 m.ring c m.ep).2 hm

/-- A call changed but for its members: a FREE one has none. -/
theorem setCall_callsPaired (h : s.CallsPaired) (c : CallNo) (x : Call)
    (hm : x.members = s.calls[c].members) (hfree : x.state = .free → x.members = []) :
    (s.setCall c x).CallsPaired := by
  have hmem := field_set Call.members s.calls c x hm
  obtain ⟨hlists, heps, hrings⟩ := h
  refine ⟨fun c' => ?_, fun e c' => ?_, fun r c' e => ?_⟩
  · refine ⟨?_, ?_, ?_⟩
    · exact (hmem c') ▸ (hlists c').1
    · exact (hmem c') ▸ (hlists c').2.1
    · rw [setCall_get]
      split
      · exact hfree
      · exact (hlists c').2.2
  · show _ ↔ ∃ m ∈ (s.calls.set c x)[c'].members, m.ep = e
    rw [hmem c']; exact heps e c'
  · show _ ↔ _ ∈ (s.calls.set c x)[c'].members
    rw [hmem c']; exact hrings r c' e

/-! #### Joining (R101, R103, R106) -/

theorem join_calls (s : State) (c c' : CallNo) (e : EpNo) (r : RingNo) :
    (s.join c e r).calls[c'] = if c' = c then { s.calls[c] with
      members := s.calls[c].members ++ [{ ep := e, ring := r }] } else s.calls[c'] :=
  setCall_get s c c' _

theorem join_endpoints (s : State) (c : CallNo) (e e' : EpNo) (r : RingNo) :
    (s.join c e r).endpoints[e'] =
      if e' = e then { s.endpoints[e] with call := some c } else s.endpoints[e'] :=
  setEp_get s e e' _

theorem join_rings (s : State) (c : CallNo) (e : EpNo) (r r' : RingNo) :
    (s.join c e r).rings[r'] =
      if r' = r then givenRing c e (s.join c e r).calls[c].frame (s.join c e r).calls[c].epoch
      else s.rings[r'] :=
  setRing_get s r r' _

theorem mem_join (s : State) (c c' : CallNo) (e : EpNo) (r : RingNo) (m : Member) :
    m ∈ (s.join c e r).calls[c'].members ↔
      m ∈ s.calls[c'].members ∨ c' = c ∧ m = { ep := e, ring := r } := by
  rw [join_calls]
  split
  · rename_i hcc; subst hcc
    simp
  · rename_i hcc
    simp [hcc]

/-- An endpoint of no call joins one with a FREE ring (R101). -/
theorem join_callsPaired (h : s.CallsPaired) {c : CallNo} {e : EpNo} {r : RingNo}
    (hc : s.calls[c].state ≠ .free) (he : s.endpoints[e].call = none)
    (hr : s.rings[r].state = .free) : (s.join c e r).CallsPaired := by
  have hnewEp : ∀ c' : CallNo, ∀ m ∈ s.calls[c'].members, m.ep ≠ e := by
    rintro c' m hm rfl
    rw [call_of_member h hm] at he
    cases he
  have hnewRing : ∀ c' : CallNo, ∀ m ∈ s.calls[c'].members, m.ring ≠ r := by
    rintro c' m hm rfl
    rw [owned_of_member h hm] at hr
    cases hr
  obtain ⟨plists, peps, prings⟩ := h
  refine ⟨fun c' => ?_, fun e' c' => ?_, fun r' c' e' => ?_⟩
  · rw [join_calls]
    split
    · rename_i hcc; subst hcc
      obtain ⟨hne, hnr, -⟩ := plists c'
      refine ⟨?_, ?_, fun hf => absurd hf hc⟩
      · rw [List.map_append, List.map_singleton, ← List.concat_eq_append]
        refine hne.concat fun hin => ?_
        obtain ⟨m, hm, hme⟩ := List.mem_map.1 hin
        exact hnewEp c' m hm hme
      · rw [List.map_append, List.map_singleton, ← List.concat_eq_append]
        refine hnr.concat fun hin => ?_
        obtain ⟨m, hm, hmr⟩ := List.mem_map.1 hin
        exact hnewRing c' m hm hmr
    · exact plists c'
  · rw [join_endpoints]
    simp only [mem_join]
    split
    · rename_i hee; subst hee
      constructor
      · intro hcc
        exact ⟨_, .inr ⟨(Option.some.inj hcc).symm, rfl⟩, rfl⟩
      · rintro ⟨m, hm | ⟨rfl, -⟩, hme⟩
        · exact absurd hme (hnewEp c' m hm)
        · rfl
    · rename_i hee
      rw [peps e' c']
      constructor
      · rintro ⟨m, hm, hme⟩
        exact ⟨m, .inl hm, hme⟩
      · rintro ⟨m, hm | ⟨-, rfl⟩, hme⟩
        · exact ⟨m, hm, hme⟩
        · exact absurd hme.symm hee
  · rw [join_rings, mem_join]
    split
    · rename_i hrr; subst hrr
      show RingState.owned c e = .owned c' e' ↔ _
      constructor
      · rintro ⟨⟩
        exact .inr ⟨rfl, rfl⟩
      · rintro (hm | ⟨rfl, hm⟩)
        · exact absurd rfl (hnewRing c' _ hm)
        · rw [(Member.mk.inj hm).1]
    · rename_i hrr
      rw [prings r' c' e']
      simp [hrr]

theorem member_of_ringOf {x : Call} {e : EpNo} {r : RingNo} (h : x.ringOf e = some r) :
    { ep := e, ring := r } ∈ x.members := by
  simp only [Call.ringOf, Option.map_eq_some_iff] at h
  obtain ⟨m, hm, rfl⟩ := h
  have he : m.ep = e := by simpa using List.find?_some hm
  subst he
  exact List.mem_of_find?_eq_some hm

/-- The state in which an endpoint has left its call, its ring DRAINING (R107). -/
def leftState (s : State) (c : CallNo) (e : EpNo) (r : RingNo) : State :=
  ((s.setCall c { s.calls[c] with members := s.calls[c].members.filter fun m => m.ep ≠ e }).setEp e
    { s.endpoints[e] with call := none }).setRing r
      { s.rings[r] with state := .draining c, slots := Vector.replicate 4 none }

theorem leave_eq (s : State) (c : CallNo) (e : EpNo) (r : RingNo) :
    s.leave c e r = (leftState s c e r).endRingDrain r := rfl

/-- A member leaves its call, and its ring is owned no more (R107, R108). -/
theorem leftState_callsPaired (h : s.CallsPaired) {c : CallNo} {e : EpNo} {r : RingNo}
    (hring : s.calls[c].ringOf e = some r) : (leftState s c e r).CallsPaired := by
  have hin := member_of_ringOf hring
  have hcall : s.endpoints[e].call = some c := call_of_member h hin
  have howned : s.rings[r].state = .owned c e := owned_of_member h hin
  have hcalls : ∀ c' : CallNo, (leftState s c e r).calls[c'] = if c' = c then { s.calls[c] with
      members := s.calls[c].members.filter fun m => m.ep ≠ e } else s.calls[c'] :=
    fun c' => setCall_get s c c' _
  have heps : ∀ e' : EpNo, (leftState s c e r).endpoints[e'] =
      if e' = e then { s.endpoints[e] with call := none } else s.endpoints[e'] :=
    fun e' => setEp_get s e e' _
  have hrings : ∀ r' : RingNo, (leftState s c e r).rings[r'] =
      if r' = r then { s.rings[r] with state := .draining c, slots := Vector.replicate 4 none }
      else s.rings[r'] := fun r' => setRing_get s r r' _
  have hmem : ∀ (c' : CallNo) (m : Member),
      m ∈ (leftState s c e r).calls[c'].members ↔ m ∈ s.calls[c'].members ∧ m.ep ≠ e := by
    intro c' m
    rw [hcalls]
    split
    · rename_i hcc; subst hcc
      simp
    · rename_i hcc
      refine ⟨fun hm => ⟨hm, ?_⟩, And.left⟩
      rintro rfl
      have hcc' := (call_of_member h hm).symm.trans hcall
      exact hcc (Option.some.inj hcc')
  obtain ⟨plists, peps, prings⟩ := h
  refine ⟨fun c' => ?_, fun e' c' => ?_, fun r' c' e' => ?_⟩
  · obtain ⟨hne, hnr, hfree⟩ := plists c'
    rw [hcalls]
    split
    · rename_i hcc; subst hcc
      refine ⟨hne.sublist (List.filter_sublist.map _), hnr.sublist (List.filter_sublist.map _), ?_⟩
      intro hf
      rw [show s.calls[c'].members = [] from hfree hf]
      rfl
    · exact plists c'
  · rw [heps]
    split
    · rename_i hee; subst hee
      refine iff_of_false (by simp) ?_
      rintro ⟨m, hm, hme⟩
      exact ((hmem c' m).1 hm).2 hme
    · rename_i hee
      rw [peps e' c']
      constructor
      · rintro ⟨m, hm, rfl⟩; exact ⟨m, (hmem c' m).2 ⟨hm, hee⟩, rfl⟩
      · rintro ⟨m, hm, hme⟩; exact ⟨m, ((hmem c' m).1 hm).1, hme⟩
  · rw [hrings, hmem]
    split
    · rename_i hrr; subst hrr
      refine iff_of_false (by simp) ?_
      rintro ⟨hm, hne⟩
      have hsame := (owned_of_member ⟨plists, peps, prings⟩ hm).symm.trans howned
      exact hne (RingState.owned.inj hsame).2
    · rename_i hrr
      rw [prings r' c' e']
      refine ⟨fun hm => ⟨hm, ?_⟩, And.left⟩
      rintro rfl
      have hcc := (peps e' c').2 ⟨_, hm, rfl⟩
      obtain rfl : c' = c := Option.some.inj (hcc.symm.trans hcall)
      have hsame : ({ ep := e', ring := r' } : Member) = { ep := e', ring := r } :=
        List.inj_on_of_nodup_map (plists c').1 hm hin rfl
      exact hrr (Member.mk.inj hsame).2

/-- The state in which a CLOSING call's rings are FREE and its members have left it (R111). -/
def emptiedState (s : State) (c : CallNo) : State :=
  State.clearCalls { s with rings := mapTab (freeOwned c) s.rings } s.calls[c].members

theorem emptiedState_calls (s : State) (c : CallNo) : (emptiedState s c).calls = s.calls := by
  unfold emptiedState
  rw [(clearCalls_spec _ _).1]

theorem emptiedState_rings (s : State) (c : CallNo) :
    (emptiedState s c).rings = mapTab (freeOwned c) s.rings := by
  unfold emptiedState
  rw [(clearCalls_spec _ _).1]

/-- The rings that are still owned are those of other calls. -/
theorem freeOwned_owned_iff (c c' : CallNo) (e : EpNo) (x : Ring) :
    (freeOwned c x).state = .owned c' e ↔ x.state = .owned c' e ∧ c' ≠ c := by
  unfold freeOwned
  split
  · rename_i hx
    split
    · rename_i hcc; subst hcc
      refine iff_of_false (by simp [Ring.free]) ?_
      rintro ⟨h, hne⟩
      exact hne (RingState.owned.inj (hx.symm.trans h)).1.symm
    · rename_i hcc
      refine ⟨fun h => ⟨h, ?_⟩, And.left⟩
      rintro rfl
      exact hcc (RingState.owned.inj (hx.symm.trans h)).1
  · rename_i hx
    simp [hx]
  · rename_i hx
    simp [hx]

/-- A call with no members left goes FREE (R111). -/
theorem freed_callsPaired (h : s.CallsPaired) (c : CallNo) :
    ((emptiedState s c).setCall c Call.free).CallsPaired := by
  have hcalls : ∀ c' : CallNo, ((emptiedState s c).setCall c Call.free).calls[c'] =
      if c' = c then Call.free else s.calls[c'] := fun c' => by
    rw [setCall_get, emptiedState_calls]
  have heps : ∀ e : EpNo, ((emptiedState s c).setCall c Call.free).endpoints[e].call =
      if s.endpoints[e].call = some c then none else s.endpoints[e].call := fun e => by
    have hin : e ∈ s.calls[c].members.map Member.ep ↔ s.endpoints[e].call = some c := by
      rw [h.2.1 e c, List.mem_map]
    rw [setCall_endpoints, emptiedState, (clearCalls_spec _ _).2 e]
    simp only [hin]
    split <;> rfl
  have hrings : ∀ (r : RingNo) (c' : CallNo) (e : EpNo),
      ((emptiedState s c).setCall c Call.free).rings[r].state = .owned c' e ↔
        s.rings[r].state = .owned c' e ∧ c' ≠ c := fun r c' e => by
    rw [setCall_rings, emptiedState_rings, mapTab_get, freeOwned_owned_iff]
  obtain ⟨plists, peps, prings⟩ := h
  refine ⟨fun c' => ?_, fun e c' => ?_, fun r c' e => ?_⟩
  · rw [hcalls]
    split
    · simp [Call.free]
    · exact plists c'
  · rw [hcalls, heps]
    by_cases hcc : c' = c
    · subst hcc
      rw [if_pos rfl]
      refine iff_of_false ?_ (by simp [Call.free])
      split
      · simp
      · assumption
    · rw [if_neg hcc, ← peps e c']
      split
      · rename_i hcall
        rw [hcall]
        simpa using fun x => hcc x.symm
      · rfl
  · rw [hcalls, hrings]
    by_cases hcc : c' = c
    · subst hcc
      simp [Call.free]
    · rw [if_neg hcc, prings r c' e]
      simp [hcc]

end Calls

/-! ### Mailbox slots and their owners (R140, R145, R148) -/

section Slots

variable {s : State}

/-- A slot record carries a deadline and an owner as its state asks (R145). -/
def SlotOk (x : Mbox) : Prop :=
  (x.deadline.isSome = true ↔ x.state = .claimed ∨ x.state = .challenged ∨ x.state = .decided)
    ∧ (x.owner.isSome = true ↔ x.state ≠ .free)

theorem setMbox_wellFormed (h : s.SlotsWellFormed) (m : MboxNo) {x : Mbox} (hx : SlotOk x) :
    (s.setMbox m x).SlotsWellFormed := fun m' => by
  show SlotOk (s.setMbox m x).mailboxes[m']
  rw [setMbox_get]
  split
  · exact hx
  · exact h m'

theorem owner_of_free (h : s.SlotsWellFormed) {m : MboxNo} (hm : s.mailboxes[m].state = .free) :
    s.mailboxes[m].owner = none := by
  obtain ⟨-, howner⟩ := h m
  by_contra hne
  exact howner.1 (Option.isSome_iff_ne_none.2 hne) hm

/-- While a slot is outside FREE, RESTART is not in execution (R8). -/
theorem idle_of_busy (h : s.RestartQuiet) {m : MboxNo} (hm : s.mailboxes[m].state ≠ .free) :
    restartOf s.engine = none := by
  rcases idle_or_quiet h with hidle | ⟨-, hslots⟩
  · exact hidle
  · exact absurd (hslots m).1 hm

/-- Outside QUIESCING no RESTART is in execution (R8). -/
theorem idle_of_part (h : s.RestartQuiet) (hp : s.part ≠ .quiescing) :
    restartOf s.engine = none := by
  rcases idle_or_quiet h with hidle | ⟨hpart, -⟩
  · exact hidle
  · exact absurd hpart hp

theorem restartQuiet_of_idle_same {u : State} (h : s.RestartQuiet) (k : SameRestart s u)
    (hidle : restartOf s.engine = none) : u.RestartQuiet :=
  restartQuiet_of_idle (k.restart.trans hidle)
    (Nat.le_zero.1 (restarts_eq_zero h hidle ▸ k.restarts))

/-- A slot outside FREE changes and keeps its owner and its write in flight; it may come to CHALLENGED or
ANSWERED only from these, or for an owner that is OUT. -/
theorem setMbox_keeps (m : MboxNo) (x : Mbox) (hbusy : s.mailboxes[m].state ≠ .free)
    (howner : x.owner = s.mailboxes[m].owner) (hflight : x.inFlight = s.mailboxes[m].inFlight)
    (hstate : x.state ≠ .free)
    (hdeadline : x.deadline.isSome = true ↔
      x.state = .claimed ∨ x.state = .challenged ∨ x.state = .decided)
    (hout : Paired s → x.state = .challenged ∨ x.state = .answered →
      ∀ e, s.mailboxes[m].owner = some e → s.endpoints[e].admitted = none) :
    Keeps s (s.setMbox m x) where
  toHeld := ⟨rfl, le_rfl, rfl, rfl, rfl⟩
  paired p := by
    have hsome : x.owner.isSome = true := howner ▸ (p.wellFormed m).2.2 hbusy
    have howners := field_set Mbox.owner s.mailboxes m x howner
    have hflights := field_set Mbox.inFlight s.mailboxes m x hflight
    refine
      { calls := callsPaired_of_same p.calls ⟨fun _ => rfl, fun _ => rfl, fun _ _ _ => Iff.rfl,
          fun _ => rfl⟩
        slots := slotsPaired_of_marks p.slots howners (fun _ => rfl) fun m' k hk =>
          ⟨k, (hflights m').symm.trans hk, rfl, rfl⟩
        admission := admissionPaired_of_slots p.admission ⟨fun _ => rfl, fun _ => rfl⟩ ?_
          fun m' k hk => (p.admission.2 m' 0).2 k ((hflights m').symm.trans hk)
        restart := restartQuiet_of_idle_same p.restart ⟨rfl, rfl, le_rfl⟩
          (idle_of_busy p.restart hbusy)
        wellFormed := setMbox_wellFormed p.wellFormed m
          ⟨hdeadline, iff_of_true hsome hstate⟩ }
    intro m' e hs ho
    have ho' : s.mailboxes[m'].owner = some e := (howners m').symm.trans ho
    rw [setMbox_get] at hs
    split at hs
    · rename_i hmm; subst hmm
      exact hout p hs e ho'
    · exact (p.admission.2 m' e).1 hs ho'

/-- A slot goes FREE, and its owner's record names it no more (R145). -/
theorem freeSlot_slotsPaired (h : s.SlotsPaired) (m : MboxNo) : (s.freeSlot m).SlotsPaired := by
  have hboxes : ∀ m' : MboxNo, (s.freeSlot m).mailboxes[m'] =
      if m' = m then s.mailboxes[m].freed else s.mailboxes[m'] := fun m' => by
    obtain ⟨v, hv⟩ := clearSlotOf_only s s.mailboxes[m].owner
    rw [freeSlot_eq, setMbox_get, hv]
  have heps : ∀ e : EpNo, (s.freeSlot m).endpoints[e].slot =
      if s.mailboxes[m].owner = some e then none else s.endpoints[e].slot := fun e => by
    rw [freeSlot_eq, setMbox_endpoints, clearSlotOf_endpoint]
    split <;> rfl
  have hflights : ∀ m' : MboxNo, (s.freeSlot m).mailboxes[m'].inFlight =
      s.mailboxes[m'].inFlight := fun m' => by
    rw [hboxes]
    split
    · rename_i hmm; subst hmm; rfl
    · rfl
  obtain ⟨hpair, hclaim⟩ := h
  refine ⟨fun m' e => ?_, fun m' k hk hkind => ?_⟩
  · rw [hboxes, heps]
    by_cases hmm : m' = m
    · subst hmm
      rw [if_pos rfl]
      refine iff_of_false (by simp [Mbox.freed, Mbox.free]) ?_
      split
      · simp
      · rw [← hpair m' e]; assumption
    · rw [if_neg hmm, hpair m' e]
      split
      · rename_i ho
        rw [(hpair m e).1 ho]
        simpa using fun x => hmm x.symm
      · rfl
  · rw [hflights] at hk
    obtain ⟨hslot, honce⟩ := hclaim m' k hk hkind
    refine ⟨?_, fun m'' k' hk' => honce m'' k' ((hflights m'').symm.trans hk')⟩
    rw [heps, hslot]
    simp

theorem freeSlot_keeps (s : State) (m : MboxNo) : Keeps s (s.freeSlot m) where
  toHeld := by
    obtain ⟨v, hv⟩ := clearSlotOf_only s s.mailboxes[m].owner
    rw [freeSlot_eq, hv]
    exact ⟨rfl, le_rfl, rfl, rfl, rfl⟩
  paired p := by
    have hslots := freeSlot_slotsPaired p.slots m
    obtain ⟨v, hv⟩ := clearSlotOf_only s s.mailboxes[m].owner
    have heps : ∀ e : EpNo, v[e].call = s.endpoints[e].call
        ∧ v[e].admitted = s.endpoints[e].admitted := fun e => by
      have he := clearSlotOf_endpoint s s.mailboxes[m].owner e
      rw [hv] at he
      replace he : v[e] = _ := he
      rw [he]
      split <;> exact ⟨rfl, rfl⟩
    have hfreed : SlotOk s.mailboxes[m].freed := by simp [SlotOk, Mbox.freed, Mbox.free]
    rw [freeSlot_eq, hv] at hslots ⊢
    refine
      { calls := callsPaired_of_same p.calls ⟨fun _ => rfl, fun _ => rfl, fun _ _ _ => Iff.rfl,
          fun e => (heps e).1⟩
        slots := hslots
        admission := admissionPaired_of_slots p.admission ⟨fun e => (heps e).2, fun _ => rfl⟩ ?_ ?_
        restart := restartQuiet_of_same p.restart ⟨rfl, rfl, le_rfl⟩ (fun _ => id) (fun _ => id) ?_ ?_
        wellFormed := setMbox_wellFormed (s := { s with endpoints := v }) p.wellFormed m hfreed }
    · intro m' e hs ho
      rw [setMbox_get] at hs ho
      split at hs
      · simp [Mbox.freed, Mbox.free] at hs
      · rename_i hmm
        rw [if_neg hmm] at ho
        exact (p.admission.2 m' e).1 hs ho
    · intro m' k hk
      have := field_set Mbox.inFlight s.mailboxes m s.mailboxes[m].freed rfl m'
      exact (p.admission.2 m' 0).2 k (this.symm.trans hk)
    · intro m' hm'
      rw [setMbox_get]
      split
      · rfl
      · exact hm'
    · intro m' k hk
      have := field_set Mbox.inFlight s.mailboxes m s.mailboxes[m].freed rfl m'
      exact this.symm.trans hk

end Slots

/-! ### Writes in flight (R148 to R150) -/

section Marks

variable {s : State}

/-- A write in flight on a slot changes: what it may be is what the judgement at its grant lets
through. -/
theorem setMark_keeps (m : MboxNo) (o : Option Mark)
    (hclaim : ∀ k, o = some k → k.kind = .claim → s.endpoints[k.ep].slot = none
      ∧ ∀ m' : MboxNo, s.mailboxes[m'].claimOf k.ep = false)
    (hanswer : ∀ k, o = some k → k.kind = .goAnswer → k.judged = .challenged)
    (hquiet : ∀ k, o = some k → s.part ≠ .quiescing ∨ s.mailboxes[m].owner ≠ none) :
    Keeps s (s.setMbox m { s.mailboxes[m] with inFlight := o }) where
  toHeld := ⟨rfl, le_rfl, rfl, rfl, rfl⟩
  paired p := by
    have hstates := field_set Mbox.state s.mailboxes m { s.mailboxes[m] with inFlight := o } rfl
    have howners := field_set Mbox.owner s.mailboxes m { s.mailboxes[m] with inFlight := o } rfl
    have hflights : ∀ m' : MboxNo,
        (s.setMbox m { s.mailboxes[m] with inFlight := o }).mailboxes[m'].inFlight =
          if m' = m then o else s.mailboxes[m'].inFlight := fun m' => by
      rw [setMbox_get]
      split <;> rfl
    have hnoClaim : ∀ (m' : MboxNo) (k k' : Mark), o = some k → k.kind = .claim →
        s.mailboxes[m'].inFlight = some k' → k'.kind = .claim → k'.ep ≠ k.ep := by
      intro m' k k' hk hkind hk' hkind' hep
      have hno := (hclaim k hk hkind).2 m'
      simp [Mbox.claimOf, hk', hkind', hep, -Fin.getElem_fin] at hno
    refine
      { calls := callsPaired_of_same p.calls ⟨fun _ => rfl, fun _ => rfl, fun _ _ _ => Iff.rfl,
          fun _ => rfl⟩
        slots := ⟨fun m' e => ?_, fun m' k hk hkind => ?_⟩
        admission := admissionPaired_of_slots p.admission ⟨fun _ => rfl, fun _ => rfl⟩
          (fun m' e hs ho => (p.admission.2 m' e).1 (by rwa [← hstates m'])
            ((howners m').symm.trans ho)) fun m' k hk hkind => ?_
        restart := ?_
        wellFormed := setMbox_wellFormed p.wellFormed m (p.wellFormed m) }
    · exact (howners m').symm ▸ p.slots.1 m' e
    · rw [hflights] at hk
      split at hk
      · rename_i hmm; subst hmm
        refine ⟨(hclaim k hk hkind).1, fun m'' k' hk' hkind' hep => ?_⟩
        rw [hflights] at hk'
        split at hk'
        · assumption
        · exact absurd hep (hnoClaim m'' k k' hk hkind hk' hkind')
      · rename_i hmm
        obtain ⟨hslot, honce⟩ := p.slots.2 m' k hk hkind
        refine ⟨hslot, fun m'' k' hk' hkind' hep => ?_⟩
        rw [hflights] at hk'
        split at hk'
        · exact absurd hep.symm (hnoClaim m' k' k hk' hkind' hk hkind)
        · exact honce m'' k' hk' hkind' hep
    · rw [hflights] at hk
      split at hk
      · exact hanswer k hk hkind
      · exact (p.admission.2 m' 0).2 k hk hkind
    · cases o with
      | none =>
        refine restartQuiet_of_same p.restart ⟨rfl, rfl, le_rfl⟩ (fun _ => id) (fun _ => id)
          (fun m' h => (hstates m').trans h) fun m' k hk => ?_
        rw [hflights] at hk
        split at hk
        · cases hk
        · exact hk
      | some k =>
        refine restartQuiet_of_idle_same p.restart ⟨rfl, rfl, le_rfl⟩ ?_
        rcases hquiet k rfl with hpart | howner
        · exact idle_of_part p.restart hpart
        · exact idle_of_busy p.restart fun hfree => howner (owner_of_free p.wellFormed hfree)

theorem clearMark_keeps (s : State) (m : MboxNo) : Keeps s (s.clearMark m) :=
  setMark_keeps m none (fun _ h => by cases h) (fun _ h => by cases h) (fun _ h => by cases h)

end Marks

/-! ### Admission (R141) -/

section Admission

variable {s : State}

/-- The state in which an ADMITTED endpoint and its entry name each other no more (R141). -/
def outState (s : State) (e : EpNo) (d : EntryNo) : State :=
  (s.setEp e { s.endpoints[e] with admitted := none }).setEntry d
    { s.directory[d] with admittedEp := none }

theorem outState_admitted (s : State) (e e' : EpNo) (d : EntryNo) :
    (outState s e d).endpoints[e'].admitted =
      if e' = e then none else s.endpoints[e'].admitted := by
  rw [outState, setEntry_endpoints, setEp_get]
  split <;> rfl

theorem outState_entry (s : State) (e : EpNo) (d d' : EntryNo) :
    (outState s e d).directory[d'].admittedEp =
      if d' = d then none else s.directory[d'].admittedEp := by
  rw [outState, setEntry_get]
  split <;> rfl

theorem outState_keeps {e : EpNo} {d : EntryNo} (h : s.endpoints[e].admitted = some d) :
    Keeps s (outState s e d) where
  toHeld := ⟨rfl, le_rfl, rfl, rfl, rfl⟩
  paired p := by
    have hslot : SameSlots s (outState s e d) := ⟨fun _ => rfl, fun _ => rfl, fun _ => rfl,
      fun _ => rfl, field_set EndpointRec.slot s.endpoints e _ rfl⟩
    have hentry : s.directory[d].admittedEp = some e := (p.admission.1 e d).1 h
    refine
      { calls := callsPaired_of_same p.calls ⟨fun _ => rfl, fun _ => rfl, fun _ _ _ => Iff.rfl,
          field_set EndpointRec.call s.endpoints e _ rfl⟩
        slots := slotsPaired_of_same p.slots hslot
        admission := ⟨fun e' d' => ?_, fun m e' => ⟨fun hs ho => ?_, (p.admission.2 m e').2⟩⟩
        restart := restartQuiet_of_sameTables p.restart ⟨rfl, rfl, le_rfl⟩ (fun _ => rfl) hslot
        wellFormed := slotsWellFormed_of_same p.wellFormed hslot }
    · rw [outState_admitted, outState_entry]
      by_cases he : e' = e
      · subst he
        refine iff_of_false (by simp) ?_
        split
        · simp
        · rename_i hd
          rw [← p.admission.1, h]
          simpa using fun x => hd x.symm
      · rw [if_neg he, p.admission.1 e' d']
        split
        · rename_i hd; subst hd
          rw [hentry]
          simpa using fun x => he x.symm
        · rfl
    · rw [outState_admitted]
      split
      · rfl
      · exact (p.admission.2 m e').1 hs ho

theorem deadmit_keeps (s : State) (e : EpNo) (r : Reason) : Keeps s (s.deadmit e r) := by
  unfold State.deadmit
  split
  · exact Keeps.refl s
  · rename_i d h
    exact (outState_keeps h).frame (raise_frame _ _ _ _)

theorem raiseDeadmitted_tables (s : State) (e : EpNo) (r : Reason) :
    (s.raiseDeadmitted e r).mailboxes = s.mailboxes
    ∧ (s.raiseDeadmitted e r).calls = s.calls
    ∧ (s.raiseDeadmitted e r).endpoints = s.endpoints
    ∧ (s.raiseDeadmitted e r).directory = s.directory := by
  obtain ⟨g, q, w, hu⟩ := raise_only s .deadmitted (.endpoint (halfN e.val)) [r.code]
  unfold State.raiseDeadmitted
  rw [hu]
  exact ⟨rfl, rfl, rfl, rfl⟩

/-- An endpoint that goes OUT has no slot, no call and no order in execution changed. -/
theorem deadmit_spec (s : State) (e : EpNo) (r : Reason) :
    (s.deadmit e r).mailboxes = s.mailboxes
    ∧ (s.deadmit e r).calls = s.calls
    ∧ restartOf (s.deadmit e r).engine = restartOf s.engine
    ∧ ∀ e' : EpNo, (s.deadmit e r).endpoints[e'].call = s.endpoints[e'].call := by
  unfold State.deadmit
  split
  · exact ⟨rfl, rfl, rfl, fun _ => rfl⟩
  · rename_i d h
    obtain ⟨hboxes, hcalls, heps, -⟩ := raiseDeadmitted_tables (outState s e d) e r
    refine ⟨hboxes, hcalls, (raise_frame _ _ _ _).restart, fun e' => ?_⟩
    show ((outState s e d).raiseDeadmitted e r).endpoints[e'].call = _
    rw [heps]
    exact field_set EndpointRec.call s.endpoints e { s.endpoints[e] with admitted := none } rfl e'

theorem deadmit_admitted (s : State) (e e' : EpNo) (r : Reason) :
    (s.deadmit e r).endpoints[e'].admitted =
      if e' = e then none else s.endpoints[e'].admitted := by
  unfold State.deadmit
  split
  · rename_i h
    split
    · rename_i he; subst he; exact h
    · rfl
  · rename_i d h
    show ((outState s e d).raiseDeadmitted e r).endpoints[e'].admitted = _
    rw [(raiseDeadmitted_tables _ e r).2.2.1, outState_admitted]

theorem deadmit_entry {s : State} {e : EpNo} {d : EntryNo} (h : s.endpoints[e].admitted = some d)
    (r : Reason) (d' : EntryNo) : (s.deadmit e r).directory[d'].admittedEp =
      if d' = d then none else s.directory[d'].admittedEp := by
  unfold State.deadmit
  split
  · rename_i h'
    rw [h] at h'
    cases h'
  · rename_i d₀ h'
    obtain rfl : d = d₀ := Option.some.inj (h.symm.trans h')
    show ((outState s e d).raiseDeadmitted e r).directory[d'].admittedEp = _
    rw [(raiseDeadmitted_tables _ e r).2.2.2, outState_entry]

end Admission

end Sys2Proof.Pairs

namespace Sys2Proof.Pairs

open Sys2Proof Sys2Proof.Machine Sys2Proof.Laws Sys2Proof.Steps Sys2Proof.Restart

/-! ## Calls (chapter 6) -/

/-- What the state must be for an operation may be taken from the pairs it starts with. -/
theorem Keeps.of {s u : State} (h : Held s u) (k : Paired s → Keeps s u) : Keeps s u :=
  ⟨h, fun p => (k p).paired p⟩

/-- An operation on calls, members and rings that leaves the slots and the admissions alone. -/
theorem Keeps.ofCalls {s u : State} (h : Held s u) (hm : SameSlots s u) (ha : SameAdmission s u)
    (hr : SameRestart s u) (hc : Paired s → u.CallsPaired)
    (hopen : ∀ c : CallNo, u.calls[c].state = .opened → s.calls[c].state = .opened)
    (hfree : ∀ c : CallNo, s.calls[c].state = .free → u.calls[c].state = .free) : Keeps s u where
  toHeld := h
  paired p :=
    { calls := hc p
      slots := slotsPaired_of_same p.slots hm
      admission := admissionPaired_of_same p.admission hm ha
      restart := restartQuiet_of_same p.restart hr hopen hfree (fun m x => (hm.slot m).trans x)
        fun m _ x => (hm.inFlight m).symm.trans x
      wellFormed := slotsWellFormed_of_same p.wellFormed hm }

section

variable (s : State)

theorem setCall_slots (c : CallNo) (x : Call) : SameSlots s (s.setCall c x) :=
  ⟨fun _ => rfl, fun _ => rfl, fun _ => rfl, fun _ => rfl, fun _ => rfl⟩

theorem setCall_admission (c : CallNo) (x : Call) : SameAdmission s (s.setCall c x) :=
  ⟨fun _ => rfl, fun _ => rfl⟩

theorem setCall_held (c : CallNo) (x : Call) : Held s (s.setCall c x) :=
  ⟨rfl, le_rfl, rfl, rfl, rfl⟩

/-- A call that is not FREE goes to a state other than OPEN with the members it has (R110). -/
theorem setCall_keeps {c : CallNo} {x : Call} (hm : x.members = s.calls[c].members)
    (hold : s.calls[c].state ≠ .free) (hx : x.state = .closing) : Keeps s (s.setCall c x) := by
  refine Keeps.ofCalls (setCall_held s c x) (setCall_slots s c x) (setCall_admission s c x)
    ⟨rfl, rfl, le_rfl⟩
    (fun p => setCall_callsPaired p.calls c x hm fun h => by rw [hx] at h; cases h)
    (fun c' h => ?_) fun c' h => ?_
  · rw [setCall_get] at h
    split at h
    · rw [hx] at h; cases h
    · exact h
  · rw [setCall_get]
    split
    · rename_i hcc; subst hcc
      exact absurd h hold
    · exact h

/-- A FREE call opens, as yet without a member, where no RESTART is in execution (R103). -/
theorem openCall_keeps {c : CallNo} {x : Call} (hold : s.calls[c].state = .free)
    (hm : x.members = []) (hidle : restartOf s.engine = none) : Keeps s (s.setCall c x) where
  toHeld := setCall_held s c x
  paired p :=
    { calls := setCall_callsPaired p.calls c x (hm.trans ((p.calls.1 c).2.2 hold).symm) fun _ => hm
      slots := slotsPaired_of_same p.slots (setCall_slots s c x)
      admission := admissionPaired_of_same p.admission (setCall_slots s c x)
        (setCall_admission s c x)
      restart := restartQuiet_of_idle_same p.restart ⟨rfl, rfl, le_rfl⟩ hidle
      wellFormed := slotsWellFormed_of_same p.wellFormed (setCall_slots s c x) }

/-! ### Joining (R101, R103, R106) -/

theorem join_callState (c c' : CallNo) (e : EpNo) (r : RingNo) :
    (s.join c e r).calls[c'].state = s.calls[c'].state := by
  rw [join_calls]
  split
  · rename_i hcc; subst hcc; rfl
  · rfl

theorem join_keeps {c : CallNo} {e : EpNo} {r : RingNo} (hc : s.calls[c].state ≠ .free)
    (he : s.endpoints[e].call = none) (hr : s.rings[r].state = .free) :
    Keeps s (s.join c e r) :=
  Keeps.ofCalls ⟨rfl, le_rfl, rfl, rfl, rfl⟩
    ⟨fun _ => rfl, fun _ => rfl, fun _ => rfl, fun _ => rfl,
      field_set EndpointRec.slot s.endpoints e { s.endpoints[e] with call := some c } rfl⟩
    ⟨field_set EndpointRec.admitted s.endpoints e { s.endpoints[e] with call := some c } rfl,
      fun _ => rfl⟩
    ⟨rfl, rfl, le_rfl⟩ (fun p => join_callsPaired p.calls hc he hr)
    (fun c' h => (join_callState s c c' e r).symm.trans h)
    fun c' h => (join_callState s c c' e r).trans h

/-- Endpoints of no call join one with FREE rings, no endpoint and no ring twice (R101). -/
theorem joinAll_keeps {c : CallNo} (es : List EpNo) (rs : List RingNo) (s : State)
    (hc : s.calls[c].state ≠ .free) (hes : es.Nodup) (hrs : rs.Nodup)
    (he : ∀ e ∈ es, s.endpoints[e].call = none) (hr : ∀ r ∈ rs, s.rings[r].state = .free) :
    Keeps s (s.joinAll c (es.zip rs)) := by
  induction es generalizing rs s with
  | nil => exact Keeps.refl s
  | cons e es ih =>
    cases rs with
    | nil => exact Keeps.refl s
    | cons r rs =>
      obtain ⟨hne, hes⟩ := List.nodup_cons.1 hes
      obtain ⟨hnr, hrs⟩ := List.nodup_cons.1 hrs
      have hjoin := join_keeps s hc (he e List.mem_cons_self) (hr r List.mem_cons_self)
      refine hjoin.trans (ih rs (s.join c e r) ?_ hes hrs (fun e' he' => ?_) fun r' hr' => ?_)
      · rwa [join_callState]
      · rw [join_endpoints, if_neg (by rintro rfl; exact hne he')]
        exact he e' (List.mem_cons_of_mem _ he')
      · rw [join_rings, if_neg (by rintro rfl; exact hnr hr')]
        exact hr r' (List.mem_cons_of_mem _ hr')

/-- Members that join change neither the order in execution nor the states of calls. -/
theorem joinAll_engine (c : CallNo) (ms : List (EpNo × RingNo)) (s : State) :
    (s.joinAll c ms).engine = s.engine := by
  induction ms generalizing s with
  | nil => rfl
  | cons m ms ih => exact ih (s.join c m.1 m.2)

theorem mem_freeRings {r : RingNo} (h : r ∈ s.freeRings) : s.rings[r].state = .free := by
  have hfree := (mem_tabIdxs Ring.isFree s.rings r).1 h
  unfold Ring.isFree at hfree
  split at hfree
  · assumption
  · cases hfree
  · cases hfree

theorem freeRings_nodup : s.freeRings.Nodup :=
  (tabIdxs_sorted Ring.isFree s.rings).imp fun h => ne_of_lt h

/-! ### Leaving and closing (R107 to R111) -/

theorem leftState_callState (c c' : CallNo) (e : EpNo) (r : RingNo) :
    (leftState s c e r).calls[c'].state = s.calls[c'].state :=
  field_set Call.state s.calls c
    { s.calls[c] with members := s.calls[c].members.filter fun m => m.ep ≠ e } rfl c'

theorem leave_keeps {c : CallNo} {e : EpNo} {r : RingNo} (h : s.calls[c].ringOf e = some r) :
    Keeps s (s.leave c e r) := by
  rw [leave_eq]
  have hleft : Keeps s (leftState s c e r) :=
    Keeps.ofCalls ⟨rfl, le_rfl, rfl, rfl, rfl⟩
      ⟨fun _ => rfl, fun _ => rfl, fun _ => rfl, fun _ => rfl,
        field_set EndpointRec.slot s.endpoints e { s.endpoints[e] with call := none } rfl⟩
      ⟨field_set EndpointRec.admitted s.endpoints e { s.endpoints[e] with call := none } rfl,
        fun _ => rfl⟩
      ⟨rfl, rfl, le_rfl⟩ (fun p => leftState_callsPaired p.calls h)
      (fun c' h => (leftState_callState s c c' e r).symm.trans h)
      fun c' h => (leftState_callState s c c' e r).trans h
  exact hleft.frame (endRingDrain_frame _ r)

theorem goClosing_keeps {c : CallNo} (h : s.calls[c].state = .opened) : Keeps s (s.goClosing c) :=
  ((setCall_keeps s (c := c) (x := { s.calls[c] with state := .closing }) rfl (by rw [h]; simp)
    rfl).frame (setWaiting_frame _ _)).frame (setPort_frame _ _)

theorem closeIfEmptied_keeps (c : CallNo) : Keeps s (s.closeIfEmptied c) := by
  unfold State.closeIfEmptied
  split
  · rename_i h
    obtain ⟨hopen, -⟩ := Bool.and_eq_true_iff.1 h
    exact (goClosing_keeps s (of_decide_eq_true hopen)).frame (raise_frame _ _ _ _)
  · exact Keeps.refl s

theorem emptiedState_ep (c : CallNo) (e : EpNo) :
    (emptiedState s c).endpoints[e].slot = s.endpoints[e].slot
    ∧ (emptiedState s c).endpoints[e].admitted = s.endpoints[e].admitted := by
  unfold emptiedState
  rw [(clearCalls_spec _ _).2 e]
  split <;> exact ⟨rfl, rfl⟩

theorem emptiedState_only (c : CallNo) : emptiedState s c = { s with
    rings := mapTab (freeOwned c) s.rings, endpoints := (emptiedState s c).endpoints } :=
  (clearCalls_spec _ _).1

/-- The members of a call leave it, and it goes FREE (R111). -/
theorem freed_keeps (c : CallNo) : Keeps s ((emptiedState s c).setCall c Call.free) := by
  have hpairs := freed_callsPaired (s := s) (c := c)
  have heps := emptiedState_ep s c
  have honly := emptiedState_only s c
  generalize (emptiedState s c).endpoints = v at honly
  have hcalls : ∀ c' : CallNo, ((emptiedState s c).setCall c Call.free).calls[c'] =
      if c' = c then Call.free else s.calls[c'] := fun c' => by
    rw [setCall_get, emptiedState_calls]
  have hslots : SameSlots s ((emptiedState s c).setCall c Call.free) := by
    refine ⟨?_, ?_, ?_, ?_, fun e => (heps e).1⟩
    all_goals rw [honly]; exact fun _ => rfl
  refine Keeps.ofCalls ?_ hslots ⟨fun e => (heps e).2, ?_⟩ ?_ (fun p => hpairs p.calls)
    (fun c' h => ?_) fun c' h => ?_
  · rw [honly]; exact ⟨rfl, le_rfl, rfl, rfl, rfl⟩
  · rw [honly]; exact fun _ => rfl
  · rw [honly]; exact ⟨rfl, rfl, le_rfl⟩
  · rw [hcalls] at h
    split at h
    · cases h
    · exact h
  · rw [hcalls]
    split
    · rfl
    · exact h

theorem freeCall_eq (c : CallNo) : s.freeCall c =
    (((emptiedState (s.writeAll (s.calls[c].closeCompletions c)) c).releaseLane c).setCall c
      Call.free) := rfl

theorem freeCall_keeps (c : CallNo) : Keeps s (s.freeCall c) := by
  rw [freeCall_eq, releaseLane_only]
  have hwritten := Frame.keeps (writeAll_frame s (s.calls[c].closeCompletions c))
  generalize s.writeAll (s.calls[c].closeCompletions c) = u at hwritten
  have hlanes : ∀ v : State, Frame v { v with lanes := ((emptiedState u c).releaseLane c).lanes } :=
    fun v => { Frame.refl v with }
  exact (hwritten.trans (freed_keeps u c)).frame (hlanes _)

theorem endClose_keeps (c : CallNo) : Keeps s (s.endClose c) := by
  unfold State.endClose
  split
  · exact freeCall_keeps s c
  · exact Keeps.refl s

theorem endCloses_keeps (cs : List CallNo) (s : State) : Keeps s (s.endCloses cs) := by
  induction cs generalizing s with
  | nil => exact Keeps.refl s
  | cons c cs ih => exact (endClose_keeps s c).trans (ih _)

end

end Sys2Proof.Pairs

namespace Sys2Proof.Pairs

open Sys2Proof Sys2Proof.Machine Sys2Proof.Laws Sys2Proof.Steps Sys2Proof.Restart

/-! ## Slot events and decisions (R145 to R154) -/

theorem AdmissionOnly.held {s u : State} (h : AdmissionOnly s u) : Held s u := by
  rw [h]
  exact ⟨rfl, le_rfl, rfl, rfl, rfl⟩

section

variable (s : State)

theorem clearMark_owner (m m' : MboxNo) :
    (s.clearMark m).mailboxes[m'].owner = s.mailboxes[m'].owner :=
  field_set Mbox.owner s.mailboxes m { s.mailboxes[m] with inFlight := none } rfl m'

theorem clearMark_state (m m' : MboxNo) :
    (s.clearMark m).mailboxes[m'].state = s.mailboxes[m'].state :=
  field_set Mbox.state s.mailboxes m { s.mailboxes[m] with inFlight := none } rfl m'

/-- A slot with an owner is not FREE (R145). -/
theorem busy_of_owner {s : State} (h : s.SlotsWellFormed) {m : MboxNo} {e : EpNo}
    (ho : s.mailboxes[m].owner = some e) : s.mailboxes[m].state ≠ .free := fun hfree => by
  rw [owner_of_free h hfree] at ho
  cases ho

/-! ### Decisions -/

theorem decideSlot_keeps {m : MboxNo} (hbusy : s.mailboxes[m].state ≠ .free) (v : Verdict) :
    Keeps s (s.decideSlot m v) := by
  refine (setMbox_keeps m _ hbusy ?_ ?_ ?_ ?_ fun _ h => ?_).frame (place_frame _ _ _ _)
  · rfl
  · rfl
  · simp
  · simp
  · rcases h with h | h <;> cases h

theorem challengeSlot_keeps {m : MboxNo} (hbusy : s.mailboxes[m].state ≠ .free)
    (hout : ∀ e, s.mailboxes[m].owner = some e → s.endpoints[e].admitted = none) (d : EntryNo)
    (r : RequestWords) : Keeps s (s.challengeSlot m d r) := by
  refine (Frame.keeps (setChallengeCtr_frame s _)).trans
    ((setMbox_keeps (s := { s with challengeCtr := s.challengeCtr + 1#16 }) m _ hbusy
      ?_ ?_ ?_ ?_ fun _ _ => hout).frame (place_frame _ _ _ _))
  · rfl
  · rfl
  · simp
  · simp

theorem decideResign_keeps {m : MboxNo} (hbusy : s.mailboxes[m].state ≠ .free) (e : EpNo) :
    Keeps s (s.decideResign m e) := by
  unfold State.decideResign
  split
  · exact decideSlot_keeps s hbusy _
  · refine (deadmit_keeps s e .resigned).trans (decideSlot_keeps _ ?_ _)
    rwa [(deadmit_spec s e .resigned).1]

theorem decideAdmit_keeps {m : MboxNo} {e : EpNo} (hbusy : s.mailboxes[m].state ≠ .free)
    (howner : s.mailboxes[m].owner = some e) (r : RequestWords) :
    Keeps s (s.decideAdmit m e r) := by
  unfold State.decideAdmit
  split
  · exact decideSlot_keeps s hbusy _
  · rename_i d _
    dsimp only
    split
    · exact decideSlot_keeps s hbusy _
    · split
      · exact decideSlot_keeps s hbusy _
      · refine (Frame.keeps (dropEnded_frame s d s.timer.counter)).trans ?_
        split
        · exact decideSlot_keeps (s.setEntry d _) hbusy _
        · rename_i hnone
          refine challengeSlot_keeps (s.setEntry d _) hbusy (fun e' he' => ?_) _ _
          obtain rfl : e = e' := Option.some.inj (howner.symm.trans he')
          exact hnone

theorem requestReturn_keeps (m : MboxNo) (a : Answer) : Keeps s (s.requestReturn m a) := by
  have hread := Frame.keeps (setMbox_frame s m { s.mailboxes[m] with selfRead := false })
  unfold State.requestReturn
  generalize s.setMbox m { s.mailboxes[m] with selfRead := false } = u at hread ⊢
  refine hread.trans ?_
  dsimp only
  split
  · exact Keeps.refl u
  · rename_i hreq
    have hbusy : u.mailboxes[m].state ≠ .free := by
      rw [not_not.1 hreq]; simp
    split
    · exact decideResign_keeps u hbusy _
    · rename_i howner _
      exact decideAdmit_keeps u hbusy howner _
    · exact Keeps.refl u
    · exact decideSlot_keeps u hbusy _
    · exact Keeps.refl u

theorem answerReturn_keeps (m : MboxNo) (a : Answer) : Keeps s (s.answerReturn m a) := by
  have hread := Frame.keeps (setMbox_frame s m { s.mailboxes[m] with selfRead := false })
  unfold State.answerReturn
  generalize s.setMbox m { s.mailboxes[m] with selfRead := false } = u at hread ⊢
  refine hread.trans ?_
  dsimp only
  split
  · exact Keeps.refl u
  · rename_i hans
    split
    · have hstored := setMbox_frame u m { u.mailboxes[m] with
        answer := some (loHalf (wordAt ‹List Word› 0), hiHalf (wordAt ‹List Word› 0)) }
      split
      · exact Frame.keeps hstored
      · exact Frame.keeps (hstored.trans (askCheck_frame _ m))
    · refine (Frame.keeps ((withdrawSlot_frame u m).trans (dropFromExpansions_frame _ m))).trans
        (decideSlot_keeps _ ?_ _)
      show u.mailboxes[m].state ≠ .free
      rw [not_not.1 hans]; simp
    · exact Keeps.refl u

/-! ### The slot events -/

theorem releaseEvent_keeps (m : MboxNo) : Keeps s (s.releaseEvent m) := by
  unfold State.releaseEvent
  dsimp only
  split
  · exact ((Frame.keeps (countSlotFailure_frame s m)).trans (freeSlot_keeps _ m)).frame
      (place_frame _ _ _ _)
  · exact (freeSlot_keeps s m).frame (place_frame _ _ _ _)

theorem goRequestEvent_keeps {m : MboxNo} (hbusy : s.mailboxes[m].state ≠ .free) (g : GoCode) :
    Keeps s (s.goRequestEvent m g) := by
  refine (setMbox_keeps m _ hbusy ?_ ?_ ?_ ?_ fun _ h => ?_).frame (place_frame _ _ _ _)
  · rfl
  · rfl
  · simp
  · simp
  · rcases h with h | h <;> cases h

theorem goAnswerEvent_keeps {m : MboxNo} (hs : s.mailboxes[m].state = .challenged) :
    Keeps s (s.goAnswerEvent m) := by
  have hbusy : s.mailboxes[m].state ≠ .free := by rw [hs]; simp
  refine ((setMbox_keeps m _ hbusy ?_ ?_ ?_ ?_ fun p _ e he => ?_).frame
    (place_frame _ _ _ _)).frame (askCheck_frame _ m)
  · rfl
  · rfl
  · simp
  · simp
  · exact (p.admission.2 m e).1 (.inl hs) he

/-- The state in which a claim has taken its slot (R148). -/
def claimedState (s : State) (m : MboxNo) (k : Mark) : State :=
  ((s.clearMark m).setMbox m { Mbox.free with
    state := .claimed, owner := some k.ep,
    deadline := some (s.timer.counter + wordN s.thePlan.challengeLimit),
    selfRead := (s.clearMark m).mailboxes[m].selfRead }).setEp k.ep
      { s.endpoints[k.ep] with slot := some m }

theorem claimedState_mailbox_ne {m m' : MboxNo} (k : Mark) (h : m' ≠ m) :
    (claimedState s m k).mailboxes[m'] = s.mailboxes[m'] := by
  rw [claimedState, setEp_mailboxes, setMbox_get_ne _ _ h, State.clearMark, setMbox_get_ne _ _ h]

theorem claimedState_mailbox (m : MboxNo) (k : Mark) :
    (claimedState s m k).mailboxes[m] = { Mbox.free with
      state := .claimed, owner := some k.ep,
      deadline := some (s.timer.counter + wordN s.thePlan.challengeLimit),
      selfRead := (s.clearMark m).mailboxes[m].selfRead } := by
  rw [claimedState, setEp_mailboxes, setMbox_get_self]

theorem claimedState_endpoint (m : MboxNo) (k : Mark) (e : EpNo) :
    (claimedState s m k).endpoints[e] =
      if e = k.ep then { s.endpoints[k.ep] with slot := some m } else s.endpoints[e] :=
  setEp_get _ k.ep e _

theorem claimed_slotsPaired {s : State} (p : Paired s) {m : MboxNo} {k : Mark}
    (hk : s.mailboxes[m].inFlight = some k) (hkind : k.kind = .claim)
    (hfree : s.mailboxes[m].state = .free) : (claimedState s m k).SlotsPaired := by
  obtain ⟨hpair, hclaim⟩ := p.slots
  obtain ⟨hnone, honce⟩ := hclaim m k hk hkind
  have hno := owner_of_free p.wellFormed hfree
  refine ⟨fun m' e => ?_, fun m' k' hk' hkind' => ?_⟩
  · rw [claimedState_endpoint]
    by_cases hmm : m' = m
    · subst hmm
      rw [claimedState_mailbox]
      by_cases he : e = k.ep
      · subst he; simp
      · rw [if_neg he, ← hpair m' e, hno]
        simpa using fun x => he x.symm
    · rw [claimedState_mailbox_ne s k hmm, hpair m' e]
      by_cases he : e = k.ep
      · subst he
        rw [hnone, if_pos rfl]
        simpa using fun x => hmm x.symm
      · rw [if_neg he]
  · have hmm : m' ≠ m := by
      rintro rfl
      rw [claimedState_mailbox] at hk'
      cases hk'
    rw [claimedState_mailbox_ne s k hmm] at hk'
    obtain ⟨hnone', honce'⟩ := hclaim m' k' hk' hkind'
    have he : k'.ep ≠ k.ep := fun he => hmm (honce m' k' hk' hkind' he)
    refine ⟨by rw [claimedState_endpoint, if_neg he]; exact hnone', fun m'' k'' hk'' => ?_⟩
    have hmm'' : m'' ≠ m := by
      rintro rfl
      rw [claimedState_mailbox] at hk''
      cases hk''
    rw [claimedState_mailbox_ne s k hmm''] at hk''
    exact honce' m'' k'' hk''

/-- A claim that stands takes its slot (R148). -/
theorem claimed_keeps {m : MboxNo} {k : Mark} (hk : s.mailboxes[m].inFlight = some k)
    (hkind : k.kind = .claim) (hfree : s.mailboxes[m].state = .free) (hvoid : k.voided = false) :
    Keeps s (claimedState s m k) where
  toHeld := ⟨rfl, le_rfl, rfl, rfl, rfl⟩
  paired p := by
    have heps : ∀ e : EpNo, (claimedState s m k).endpoints[e].call = s.endpoints[e].call
        ∧ (claimedState s m k).endpoints[e].admitted = s.endpoints[e].admitted := fun e => by
      rw [claimedState_endpoint]
      split
      · rename_i he; subst he; exact ⟨rfl, rfl⟩
      · exact ⟨rfl, rfl⟩
    have hidle : restartOf s.engine = none := by
      rcases idle_or_quiet p.restart with hidle | ⟨-, hslots⟩
      · exact hidle
      · rw [(hslots m).2 k hk] at hvoid
        cases hvoid
    refine
      { calls := callsPaired_of_same p.calls ⟨fun _ => rfl, fun _ => rfl, fun _ _ _ => Iff.rfl,
          fun e => (heps e).1⟩
        slots := claimed_slotsPaired p hk hkind hfree
        admission := admissionPaired_of_slots p.admission ⟨fun e => (heps e).2, fun _ => rfl⟩
          (fun m' e hs ho => ?_) fun m' k' hk' hkind' => ?_
        restart := restartQuiet_of_idle_same p.restart ⟨rfl, rfl, le_rfl⟩ hidle
        wellFormed := fun m' => ?_ }
    · by_cases hmm : m' = m
      · subst hmm
        rw [claimedState_mailbox] at hs
        rcases hs with hs | hs <;> cases hs
      · rw [claimedState_mailbox_ne s k hmm] at hs ho
        exact (p.admission.2 m' e).1 hs ho
    · by_cases hmm : m' = m
      · subst hmm
        rw [claimedState_mailbox] at hk'
        cases hk'
      · rw [claimedState_mailbox_ne s k hmm] at hk'
        exact (p.admission.2 m' 0).2 k' hk' hkind'
    · by_cases hmm : m' = m
      · subst hmm
        rw [claimedState_mailbox]
        simp
      · rw [claimedState_mailbox_ne s k hmm]
        exact p.wellFormed m'

theorem claimEvent_keeps {m : MboxNo} {k : Mark} (hk : s.mailboxes[m].inFlight = some k)
    (hkind : k.kind = .claim) : Keeps s ((s.clearMark m).claimEvent m k) := by
  unfold State.claimEvent
  split
  · rename_i h
    obtain ⟨hfree, hvoid⟩ := Bool.and_eq_true_iff.1 h
    refine (claimed_keeps s hk hkind ?_ (by simpa using hvoid)).frame
      (place_frame (claimedState s m k) .admission false
        [(claimedState s m k).mirrorWrite m])
    rw [← clearMark_state s m m]
    exact of_decide_eq_true hfree
  · exact clearMark_keeps s m

/-- What a write in flight brings about where its slot is still as it was judged (R148 to R150). -/
theorem standing_keeps {m : MboxNo} {k : Mark} (p : Paired s)
    (hk : s.mailboxes[m].inFlight = some k)
    (hstands : (decide ((s.clearMark m).mailboxes[m].state = k.judged) && !k.voided
      && decide ((s.clearMark m).mailboxes[m].owner = some k.ep)) = true) :
    s.mailboxes[m].state ≠ .free
    ∧ (k.kind = .goAnswer → (s.clearMark m).mailboxes[m].state = .challenged) := by
  simp only [Bool.and_eq_true, decide_eq_true_eq] at hstands
  obtain ⟨⟨hstate, -⟩, howner⟩ := hstands
  refine ⟨busy_of_owner p.wellFormed (e := k.ep) ?_, fun hkind => ?_⟩
  · rw [← clearMark_owner s m m]; exact howner
  · rw [hstate]
    exact (p.admission.2 m 0).2 k hk hkind

theorem mailboxEvent_keeps (m : MboxNo) : Keeps s (s.mailboxEvent m) := by
  refine Keeps.of (AdmissionOnly.held (mailboxEvent_only s m)) fun p => ?_
  unfold State.mailboxEvent
  split
  · exact Keeps.refl s
  · rename_i k hk
    dsimp only
    have hclear := clearMark_keeps s m
    split
    · rename_i hkind
      exact claimEvent_keeps s hk hkind
    all_goals
      split
      case isFalse => exact hclear
      rename_i hkind hstands
      obtain ⟨hbusy, hchallenged⟩ := standing_keeps s p hk hstands
      rw [← clearMark_state s m m] at hbusy
    · exact hclear.trans (releaseEvent_keeps _ m)
    · exact hclear.trans (goRequestEvent_keeps _ hbusy _)
    · exact hclear.trans (goRequestEvent_keeps _ hbusy _)
    · exact hclear.trans (goAnswerEvent_keeps _ (hchallenged hkind))

end

end Sys2Proof.Pairs

namespace Sys2Proof.Pairs

open Sys2Proof Sys2Proof.Machine Sys2Proof.Laws Sys2Proof.Steps Sys2Proof.Restart

/-! ## The comparison, and the slot checks of the pass (R133, R155, R156) -/

section

variable (s : State)

/-- An endpoint that is OUT and owns no slot in CHALLENGED or ANSWERED is admitted at an entry that names
no endpoint (R155). -/
theorem admit_keeps {e : EpNo} {d : EntryNo} {x : EndpointRec} {y : DirEntry}
    (hcall : x.call = s.endpoints[e].call) (hslot : x.slot = s.endpoints[e].slot)
    (hx : x.admitted = some d) (hy : y.admittedEp = some e)
    (he : s.endpoints[e].admitted = none) (hd : s.directory[d].admittedEp = none)
    (hidle : ∀ m : MboxNo, s.mailboxes[m].state = .challenged ∨ s.mailboxes[m].state = .answered →
      s.mailboxes[m].owner ≠ some e) : Keeps s ((s.setEp e x).setEntry d y) where
  toHeld := ⟨rfl, le_rfl, rfl, rfl, rfl⟩
  paired p := by
    have hslots : SameSlots s ((s.setEp e x).setEntry d y) :=
      ⟨fun _ => rfl, fun _ => rfl, fun _ => rfl, fun _ => rfl,
        field_set EndpointRec.slot s.endpoints e x hslot⟩
    have hadmitted : ∀ e' : EpNo, ((s.setEp e x).setEntry d y).endpoints[e'].admitted =
        if e' = e then some d else s.endpoints[e'].admitted := fun e' => by
      rw [setEntry_endpoints, setEp_get]
      split
      · exact hx
      · rfl
    have hentry : ∀ d' : EntryNo, ((s.setEp e x).setEntry d y).directory[d'].admittedEp =
        if d' = d then some e else s.directory[d'].admittedEp := fun d' => by
      rw [setEntry_get]
      split
      · exact hy
      · rfl
    refine
      { calls := callsPaired_of_same p.calls ⟨fun _ => rfl, fun _ => rfl, fun _ _ _ => Iff.rfl,
          field_set EndpointRec.call s.endpoints e x hcall⟩
        slots := slotsPaired_of_same p.slots hslots
        admission := ⟨fun e' d' => ?_, fun m e' => ⟨fun hs ho => ?_, (p.admission.2 m e').2⟩⟩
        restart := restartQuiet_of_sameTables p.restart ⟨rfl, rfl, le_rfl⟩ (fun _ => rfl) hslots
        wellFormed := slotsWellFormed_of_same p.wellFormed hslots }
    · rw [hadmitted, hentry]
      have hpair := p.admission.1 e' d'
      by_cases hee : e' = e
      · subst hee
        rw [he] at hpair
        by_cases hdd : d' = d
        · subst hdd; simp
        · rw [if_pos rfl, if_neg hdd, ← hpair]
          simpa using fun x => hdd x.symm
      · by_cases hdd : d' = d
        · subst hdd
          rw [hd] at hpair
          rw [if_neg hee, if_pos rfl, hpair]
          simpa using fun x => hee x.symm
        · rwa [if_neg hee, if_neg hdd]
    · rw [hadmitted, if_neg]
      · exact (p.admission.2 m e').1 hs ho
      · rintro rfl
        exact hidle m hs ho

/-- The endpoint that a moved entry named goes OUT (R155, step 4). -/
def movedState (s : State) (d : EntryNo) (e : EpNo) : State :=
  match s.directory[d].admittedEp with
  | none => s
  | some o => if o = e then s else s.deadmit o .moved

theorem movedState_keeps (d : EntryNo) (e : EpNo) : Keeps s (movedState s d e) := by
  unfold movedState
  split
  · exact Keeps.refl s
  · split
    · exact Keeps.refl s
    · exact deadmit_keeps s _ _

theorem movedState_mailboxes (d : EntryNo) (e : EpNo) :
    (movedState s d e).mailboxes = s.mailboxes := by
  unfold movedState
  split
  · rfl
  · split
    · rfl
    · exact (deadmit_spec s _ _).1

theorem movedState_admitted {d : EntryNo} {e : EpNo} (he : s.endpoints[e].admitted = none) :
    (movedState s d e).endpoints[e].admitted = none := by
  unfold movedState
  split
  · exact he
  · split
    · exact he
    · rw [deadmit_admitted]
      split
      · rfl
      · exact he

theorem movedState_entry (p : Paired s) {d : EntryNo} {e : EpNo}
    (he : s.endpoints[e].admitted = none) : (movedState s d e).directory[d].admittedEp = none := by
  unfold movedState
  split
  · assumption
  · rename_i o ho
    have hadm := (p.admission.1 o d).2 ho
    split
    · rename_i hoe; subst hoe
      rw [he] at hadm
      cases hadm
    · rw [deadmit_entry hadm, if_pos rfl]

/-- The owner's record and the entry are written before the slot is decided, or after: they are records of
their own. -/
theorem admitOwner_eq (m : MboxNo) (d : EntryNo) (e : EpNo) : s.admitOwner m d e =
    ((((movedState s d e).decideSlot m { code := .admitted, detail := wordN d.val }).setEp e
      { (movedState s d e).endpoints[e] with
        admitted := some d
        bigEndian := (movedState s d e).mailboxes[m].bigEndian.getD
          (movedState s d e).endpoints[e].bigEndian }).setEntry d
      { (movedState s d e).directory[d] with admittedEp := some e, fails := 0 }).raise
        .admitted (.endpoint (halfN e.val)) [] := rfl

theorem decideSlot_state (m : MboxNo) (v : Verdict) :
    (s.decideSlot m v).mailboxes[m].state = .decided := by
  rw [State.decideSlot]
  exact congrArg Mbox.state (setMbox_get_self s m _)

theorem decideSlot_owner (m m' : MboxNo) (v : Verdict) :
    (s.decideSlot m v).mailboxes[m'].owner = s.mailboxes[m'].owner :=
  field_set Mbox.owner s.mailboxes m { s.mailboxes[m] with
    state := .decided, verdict := some v, aged := false,
    deadline := some (s.timer.counter + wordN s.thePlan.challengeLimit) } rfl m'

theorem admitOwner_keeps {m : MboxNo} (p : Paired s) (d : EntryNo) {e : EpNo}
    (hs : s.mailboxes[m].state = .answered) (ho : s.mailboxes[m].owner = some e) :
    Keeps s (s.admitOwner m d e) := by
  have he := (p.admission.2 m e).1 (.inr hs) ho
  rw [admitOwner_eq]
  have hmoved := movedState_keeps s d e
  have heu := movedState_admitted s (d := d) he
  have hdu := movedState_entry s p (d := d) he
  have hmu := movedState_mailboxes s d e
  generalize movedState s d e = u at hmoved heu hdu hmu ⊢
  have hbusy : u.mailboxes[m].state ≠ .free := by rw [hmu, hs]; simp
  have hdecided := decideSlot_keeps u hbusy { code := .admitted, detail := wordN d.val }
  refine (hmoved.trans (hdecided.trans
    (admit_keeps _ ?_ ?_ rfl rfl heu hdu fun m' hs' ho' => ?_))).frame (raise_frame _ _ _ _)
  · rfl
  · rfl
  · rw [decideSlot_owner] at ho'
    have hpair := (hmoved.paired p).slots.1
    have hm' := (hpair m' e).1 ho'
    have hm := (hpair m e).1 (by rw [hmu]; exact ho)
    obtain rfl : m' = m := Option.some.inj (hm'.symm.trans hm)
    rw [decideSlot_state] at hs'
    rcases hs' with h | h <;> cases h

theorem compareSlot_keeps (d : EntryNo) (m : MboxNo) : Keeps s (s.compareSlot d m) := by
  refine Keeps.of (AdmissionOnly.held (compareSlot_only s d m)) fun p => ?_
  unfold State.compareSlot
  dsimp only
  split
  · rename_i e hstate _ _ _ howner
    have hbusy : s.mailboxes[m].state ≠ .free := by rw [hstate]; simp
    split
    · exact decideSlot_keeps s hbusy _
    · split
      · exact decideSlot_keeps s hbusy _
      · have hdrop := dropEnded_frame s d s.timer.counter
        have hbusy' : (s.setEntry d (s.directory[d].dropEnded s.timer.counter)).mailboxes[m].state
            ≠ .free := hbusy
        have p' := (Frame.keeps hdrop).paired p
        refine (Frame.keeps hdrop).trans ?_
        replace hstate : (s.setEntry d (s.directory[d].dropEnded s.timer.counter)).mailboxes[m].state
            = .answered := hstate
        replace howner : (s.setEntry d (s.directory[d].dropEnded s.timer.counter)).mailboxes[m].owner
            = some e := howner
        generalize s.setEntry d (s.directory[d].dropEnded s.timer.counter) = u at *
        split
        · have hfail := countFailure_frame u d
          split
          · exact (Frame.keeps hfail).trans (decideSlot_keeps (u.countFailure d) hbusy' _)
          · exact (Frame.keeps hfail).trans (decideSlot_keeps (u.countFailure d) hbusy' _)
        · split
          · exact decideSlot_keeps u hbusy' _
          · exact admitOwner_keeps u p' d hstate howner
  · exact Keeps.refl s

theorem compareSlots_keeps (d : EntryNo) (ms : List MboxNo) (s : State) :
    Keeps s (s.compareSlots d ms) := by
  induction ms generalizing s with
  | nil => exact Keeps.refl s
  | cons m ms ih => exact (compareSlot_keeps s d m).trans (ih _)

theorem completeEntryLane_keeps (l : LaneNo) : Keeps s (s.completeEntryLane l) := by
  unfold State.completeEntryLane
  split
  · exact ((Frame.keeps (atInstant_frame s _)).trans (compareSlots_keeps _ _ _)).frame
      (setLane_frame _ _ _)
  · exact Keeps.refl s

theorem expireSlot_keeps (m : MboxNo) : Keeps s (s.expireSlot m) := by
  unfold State.expireSlot
  dsimp only
  have hplace : ∀ (u : State) (b : Bool), Frame (u.freeSlot m) ((u.freeSlot m).place .admission true
      ((if b then [(u.freeSlot m).verdictWrite m (verdict0 .timeout)] else [])
        ++ [(u.freeSlot m).claimClearWrite m, (u.freeSlot m).mirrorWrite m])) := fun u b => by
    refine place_frame _ _ _ _ ?_
    cases b <;> rfl
  split
  · exact ((Frame.keeps (countSlotFailure_frame s m)).trans (freeSlot_keeps _ m)).frame (hplace _ _)
  · exact (freeSlot_keeps s m).frame (hplace _ _)

theorem checkSlot_keeps (m : MboxNo) (n : Word) : Keeps s (s.checkSlot m n) := by
  unfold State.checkSlot
  split
  · exact expireSlot_keeps s m
  · exact Keeps.refl s

theorem passCheck_keeps (x : Pass) (m : MboxNo) : Keeps s (s.passCheck x m) :=
  (Frame.keeps (setTimer_frame s _)).trans (checkSlot_keeps _ m _)

theorem checkNext_keeps : Keeps s s.checkNext := by
  unfold State.checkNext
  split
  · exact Keeps.refl s
  · exact passCheck_keeps s _ _

theorem checkExpiry_keeps : Keeps s s.checkExpiry := by
  unfold State.checkExpiry
  split
  · exact Keeps.refl s
  · split
    · exact passCheck_keeps s _ _
    · exact Keeps.refl s

end

end Sys2Proof.Pairs

namespace Sys2Proof.Pairs

open Sys2Proof Sys2Proof.Machine Sys2Proof.Laws Sys2Proof.Steps Sys2Proof.Restart

/-! ## Visits (R105 to R109, R113) -/

section

variable (s : State)

theorem addCheck_none {c : CallNo} {e : EpNo} (h : s.addCheck c e = none) :
    s.endpoints[e].call = none := by
  unfold State.addCheck at h
  split at h
  · cases h
  · rename_i hcall
    rw [Bool.or_eq_true, not_or] at hcall
    exact Option.not_isSome_iff_eq_none.1 hcall.2

theorem applyAdd_keeps {c : CallNo} (hc : s.calls[c].state ≠ .free) (w : Switch) :
    Keeps s (s.applyAdd c w) := by
  unfold State.applyAdd
  split
  · rename_i r _ hcheck hrings
    have hr := mem_freeRings s (hrings ▸ List.mem_cons_self : r ∈ s.freeRings)
    exact (join_keeps s hc (addCheck_none s hcheck) hr).frame (writeCompletion_frame _ _ _ _)
  · exact Frame.keeps (writeCompletion_frame s _ _ _)
  · exact Frame.keeps (writeCompletion_frame s _ _ _)

theorem applyDrop_keeps (c : CallNo) (w : Switch) : Keeps s (s.applyDrop c w) := by
  unfold State.applyDrop
  split
  · exact Frame.keeps (writeCompletion_frame s _ _ _)
  · rename_i r hring
    exact ((leave_keeps s hring).frame (writeCompletion_frame _ _ _ _)).trans
      (closeIfEmptied_keeps _ c)

theorem applySwitches_keeps (ws : List Switch) (c : CallNo) (s : State) :
    Keeps s (State.applySwitches ws c s) := by
  induction ws generalizing s with
  | nil => exact Keeps.refl s
  | cons w ws ih =>
    unfold State.applySwitches
    split
    · rename_i h
      obtain ⟨-, hopen⟩ := Bool.and_eq_true_iff.1 h
      have hset := setCall_frame s c { s.calls[c] with switches := ws }
      have hstate : (s.setCall c { s.calls[c] with switches := ws }).calls[c].state ≠ .free := by
        rw [hset.call, of_decide_eq_true hopen]
        simp
      dsimp only
      split
      · exact ((Frame.keeps hset).trans (applyAdd_keeps _ hstate w)).trans (ih _)
      · exact ((Frame.keeps hset).trans (applyDrop_keeps _ c w)).trans (ih _)
    · exact Keeps.refl s

theorem visitCall_keeps (c : CallNo) : Keeps s (s.visitCall c) := by
  unfold State.visitCall
  have hopened := (step12_frame s c s.thePlan.rekeyInterval).trans (syncLane_frame _ c)
  generalize (s.setCall c (s.calls[c].step12 s.thePlan.rekeyInterval)).syncLane c = u at hopened ⊢
  have hexamined := (hopened.trans (openSlots_frame u.calls[c].frame u.calls[c].epoch
    u.calls[c].members u)).trans (examine_frame (u.calls[c].frame - 2#32) u.calls[c].members _)
  dsimp only
  generalize (u.openSlots u.calls[c].frame u.calls[c].epoch u.calls[c].members).examine
    (u.calls[c].frame - 2#32) u.calls[c].members = v at hexamined ⊢
  have hswitched := (Frame.keeps hexamined).trans (applySwitches_keeps v.calls[c].switches c v)
  split
  · exact hswitched.frame (rekeyWork_frame _ c _)
  · exact hswitched

theorem passVisit_keeps (x : Pass) (c : CallNo) : Keeps s (s.passVisit x c) :=
  (Frame.keeps (setTimer_frame s _)).trans (visitCall_keeps _ c)

theorem visitNext_keeps : Keeps s s.visitNext := by
  unfold State.visitNext
  split
  · exact Keeps.refl s
  · exact passVisit_keeps s _ _

theorem visitRekey_keeps : Keeps s s.visitRekey := by
  unfold State.visitRekey
  split
  · exact Keeps.refl s
  · split
    · exact passVisit_keeps s _ _
    · exact Keeps.refl s

end

end Sys2Proof.Pairs

namespace Sys2Proof.Pairs

open Sys2Proof Sys2Proof.Machine Sys2Proof.Laws Sys2Proof.Steps Sys2Proof.Restart

/-! ## Orders (R158 to R167) -/

/-- An operation that keeps the pairs and the RESTART in execution. -/
structure Runs (s u : State) : Prop extends Keeps s u where
  restart : restartOf u.engine = restartOf s.engine

theorem Runs.refl (s : State) : Runs s s := ⟨Keeps.refl s, rfl⟩

theorem Runs.trans {s u v : State} (h : Runs s u) (k : Runs u v) : Runs s v :=
  ⟨h.toKeeps.trans k.toKeeps, k.restart.trans h.restart⟩

theorem Frame.runs {s u : State} (h : Frame s u) : Runs s u := ⟨Frame.keeps h, h.restart⟩

theorem Runs.finish {s u : State} (h : Runs s u) (hidle : restartOf s.engine = none)
    (c : Completion) : Keeps s (u.finish c) :=
  h.toKeeps.frame (finish_frame u c (h.restart.trans hidle))

theorem Runs.endExecution {s u : State} (h : Runs s u) (hidle : restartOf s.engine = none) :
    Keeps s u.endExecution :=
  h.toKeeps.frame (endExecution_frame u (h.restart.trans hidle))

section

variable (s : State)

theorem deadmit_runs (e : EpNo) (r : Reason) : Runs s (s.deadmit e r) :=
  ⟨deadmit_keeps s e r, (deadmit_spec s e r).2.2.1⟩

theorem goClosing_runs {c : CallNo} (h : s.calls[c].state = .opened) : Runs s (s.goClosing c) :=
  ⟨goClosing_keeps s h, rfl⟩

theorem closeIfEmptied_runs (c : CallNo) : Runs s (s.closeIfEmptied c) := by
  refine ⟨closeIfEmptied_keeps s c, ?_⟩
  unfold State.closeIfEmptied
  split
  · exact (raise_frame (s.goClosing c) _ _ _).restart
  · rfl

theorem leave_runs {c : CallNo} {e : EpNo} {r : RingNo} (h : s.calls[c].ringOf e = some r) :
    Runs s (s.leave c e r) :=
  ⟨leave_keeps s h, (endRingDrain_frame (leftState s c e r) r).restart⟩

theorem removeMember_runs (c : CallNo) (e : EpNo) : Runs s (s.removeMember c e) := by
  unfold State.removeMember
  split
  · exact Runs.refl s
  · rename_i r h
    exact (leave_runs s h).trans (closeIfEmptied_runs _ c)

/-! ### Call orders (R102 to R112) -/

/-- What the checks of an OPEN-CALL let through (R102). -/
theorem openCallCheck_none {c : CallNo} {es : List EpNo} (h : s.openCallCheck c es = none) :
    s.calls[c].state = .free ∧ es.Nodup ∧ ∀ e ∈ es, s.endpoints[e].call = none := by
  unfold State.openCallCheck at h
  split at h
  · cases h
  · rename_i hfree
    split at h
    · cases h
    · rename_i hnodup
      split at h
      · cases h
      · split at h
        · cases h
        · rename_i hcall
          refine ⟨(isFree_iff _).1 (by simpa using hfree), by simpa using hnodup, fun e he => ?_⟩
          by_contra hne
          exact hcall (List.any_eq_true.2 ⟨e, he, Option.isSome_iff_ne_none.2 hne⟩)

theorem doOpenCall_keeps (hidle : restartOf s.engine = none) (q : Half) (c : CallNo)
    (es : List EpNo) (key : Key) (level : Fin 8) : Keeps s (s.doOpenCall q c es key level) := by
  unfold State.doOpenCall
  split
  · exact (Runs.refl s).finish hidle _
  · rename_i hcheck
    obtain ⟨hfree, hes, hcall⟩ := openCallCheck_none s hcheck
    have hopened := openCall_keeps s (x := openedCall s.thePlan.rekeyInterval key level) hfree rfl
      hidle
    have hstate : (s.setCall c (openedCall s.thePlan.rekeyInterval key level)).calls[c].state
        ≠ .free := by
      rw [setCall_get_self]
      simp [openedCall]
    have hjoined := joinAll_keeps (c := c) es (s.freeRings.take es.length)
      (s.setCall c (openedCall s.thePlan.rekeyInterval key level)) hstate hes
      ((freeRings_nodup s).sublist (List.take_sublist _ _)) hcall
      fun r hr => mem_freeRings s (List.mem_of_mem_take hr)
    refine Runs.finish ⟨hopened.trans hjoined, ?_⟩ hidle _
    rw [joinAll_engine]
    rfl

theorem doSwitch_keeps (hidle : restartOf s.engine = none) (q : Half) (b : Bool) (c : CallNo)
    (e : EpNo) : Keeps s (s.doSwitch q b c e) := by
  unfold State.doSwitch
  split
  · exact (Runs.refl s).finish hidle _
  · split
    · exact (Runs.refl s).finish hidle _
    · exact (Frame.runs (setCall_frame s c _)).endExecution hidle

theorem doCloseCall_keeps (hidle : restartOf s.engine = none) (q : Half) (c : CallNo) :
    Keeps s (s.doCloseCall q c) := by
  unfold State.doCloseCall
  split
  · exact (Runs.refl s).finish hidle _
  · rename_i hopen
    have hset := setCall_frame s c { s.calls[c] with closeSeq := some q }
    exact ((Frame.runs hset).trans (goClosing_runs _ ((hset.call c).trans (not_not.1 hopen)))).endExecution
      hidle

theorem doRekeyNow_keeps (hidle : restartOf s.engine = none) (q : Half) (c : CallNo)
    (level : Option (Fin 8)) : Keeps s (s.doRekeyNow q c level) := by
  unfold State.doRekeyNow
  split
  · exact (Runs.refl s).finish hidle _
  · exact (Frame.runs (setCall_frame s c _)).finish hidle _

/-! ### Admission orders (R158 to R161) -/

theorem doSetEndpoint_keeps (hidle : restartOf s.engine = none) (q n : Half) (role : Role)
    (bigEndian : Bool) : Keeps s (s.doSetEndpoint q n role bigEndian) := by
  unfold State.doSetEndpoint
  dsimp only
  have hdone := fun st : Status => (Runs.refl s).finish hidle
    (orderCompletion q st (.endpoint n) [])
  split
  · exact hdone _
  · rename_i e _
    split
    · exact hdone _
    · split
      · exact hdone _
      · split
        · exact hdone _
        · generalize (if role = .trunk then bigEndian else s.endpoints[e].bigEndian) = order
          have hset := setEp_frame s e { s.endpoints[e] with role := role, bigEndian := order }
          split
          · exact ((Frame.runs hset).trans (deadmit_runs _ _ _)).finish hidle _
          · exact hdone _

theorem doSetDirectory_keeps (hidle : restartOf s.engine = none) (q n : Half) (enabled : Bool)
    (number : Nat) (secret : Key) : Keeps s (s.doSetDirectory q n enabled number secret) := by
  unfold State.doSetDirectory
  dsimp only
  have hdone := fun st : Status => (Runs.refl s).finish hidle
    (orderCompletion q st (.entry n) [])
  split
  · exact hdone _
  · rename_i d _
    split
    · exact hdone _
    · split
      · exact hdone _
      · have hset := setEntry_frame s d { s.directory[d] with
          enabled := enabled, number := number, secret := secret }
        split
        · exact (Frame.runs hset).finish hidle _
        · exact ((Frame.runs hset).trans (deadmit_runs _ _ _)).finish hidle _

theorem doRevoke_keeps (hidle : restartOf s.engine = none) (q n : Half) :
    Keeps s (s.doRevoke q n) := by
  unfold State.doRevoke
  dsimp only
  split
  · exact (Runs.refl s).finish hidle _
  · split
    · exact (deadmit_runs s _ _).finish hidle _
    · exact ((deadmit_runs s _ _).trans (removeMember_runs _ _ _)).finish hidle _

theorem doUnlock_keeps (hidle : restartOf s.engine = none) (q n : Half) :
    Keeps s (s.doUnlock q n) := by
  unfold State.doUnlock
  dsimp only
  split
  · exact (Runs.refl s).finish hidle _
  · exact (Frame.runs (setEntry_frame s _ _)).finish hidle _

/-! ### RESTART (R8) -/

theorem doRestart_held (q : Half) : Held s (s.doRestart q) := by
  obtain ⟨k, b, v, w, l, p, h⟩ := doRestart_only s q
  rw [h]
  exact ⟨rfl, le_rfl, rfl, rfl, rfl⟩

theorem doRestart_members (q : Half) (c : CallNo) :
    (s.doRestart q).calls[c].members = s.calls[c].members := by
  rw [doRestart_call]
  split <;> rfl

theorem doRestart_state (q : Half) (c : CallNo) : (s.doRestart q).calls[c].state =
    if s.calls[c].state = .opened then .closing else s.calls[c].state := by
  rw [doRestart_call]
  split
  · rfl
  · rename_i h
    rw [not_not.1 h]
    rfl

theorem doRestart_ep (q : Half) (e : EpNo) :
    (s.doRestart q).endpoints[e].call = s.endpoints[e].call
    ∧ (s.doRestart q).endpoints[e].admitted = s.endpoints[e].admitted := by
  obtain ⟨hyes, hno⟩ := doRestart_endpoint s q e
  by_cases h : ownsBusy s (List.finRange 32) e
  · rw [hyes h]; exact ⟨rfl, rfl⟩
  · rw [hno h]; exact ⟨rfl, rfl⟩

theorem doRestart_callsPaired (h : s.CallsPaired) (q : Half) : (s.doRestart q).CallsPaired := by
  have hrings : (s.doRestart q).rings = s.rings := by
    obtain ⟨k, b, v, w, l, p, honly⟩ := doRestart_only s q
    rw [honly]
  obtain ⟨hlists, heps, hown⟩ := h
  refine ⟨fun c => ?_, fun e c => ?_, fun r c e => ?_⟩
  · rw [doRestart_members, doRestart_state]
    obtain ⟨hne, hnr, hfree⟩ := hlists c
    refine ⟨hne, hnr, fun hf => hfree ?_⟩
    split at hf
    · cases hf
    · exact hf
  · rw [doRestart_members, (doRestart_ep s q e).1]
    exact heps e c
  · rw [doRestart_members, hrings]
    exact hown r c e

theorem doRestart_slotState (q : Half) (m : MboxNo) : (s.doRestart q).mailboxes[m].state = .free := by
  rw [doRestart_mailbox, restartedSlot]
  split
  · assumption
  · rfl

theorem doRestart_inFlight (q : Half) (m : MboxNo) :
    (s.doRestart q).mailboxes[m].inFlight = s.mailboxes[m].inFlight.map voidMark := by
  rw [doRestart_mailbox, restartedSlot]
  split <;> rfl

theorem doRestart_owner (h : s.SlotsWellFormed) (q : Half) (m : MboxNo) :
    (s.doRestart q).mailboxes[m].owner = none := by
  rw [doRestart_mailbox, restartedSlot]
  split
  · rename_i hfree
    exact owner_of_free h hfree
  · rfl

theorem doRestart_slot (p : Paired s) (q : Half) (e : EpNo) :
    (s.doRestart q).endpoints[e].slot = none := by
  obtain ⟨hyes, hno⟩ := doRestart_endpoint s q e
  by_cases h : ownsBusy s (List.finRange 32) e
  · rw [hyes h]
  · rw [hno h]
    by_contra hne
    obtain ⟨m, hm⟩ := Option.ne_none_iff_exists'.1 hne
    have howner := (p.slots.1 m e).2 hm
    exact h ⟨m, List.mem_finRange m, busy_of_owner p.wellFormed howner, howner⟩

/-- A write in flight after RESTART is one from before, voided. -/
theorem doRestart_mark {q : Half} {m : MboxNo} {k : Mark}
    (h : (s.doRestart q).mailboxes[m].inFlight = some k) :
    ∃ k', s.mailboxes[m].inFlight = some k' ∧ voidMark k' = k := by
  rw [doRestart_inFlight] at h
  exact Option.map_eq_some_iff.1 h

theorem doRestart_slotsPaired (p : Paired s) (q : Half) : (s.doRestart q).SlotsPaired := by
  refine ⟨fun m e => ?_, fun m k hk hkind => ⟨doRestart_slot s p q _, fun m' k' hk' hkind' he => ?_⟩⟩
  · rw [doRestart_owner s p.wellFormed, doRestart_slot s p]
    simp
  · obtain ⟨k₀, hk₀, rfl⟩ := doRestart_mark s hk
    obtain ⟨k₁, hk₁, rfl⟩ := doRestart_mark s hk'
    exact (p.slots.2 m k₀ hk₀ hkind).2 m' k₁ hk₁ hkind' he

theorem restarts_freedPort (ms : List MboxNo) (p : Port) :
    (ms.foldl (fun p m => p.place .admission false (freedWrites s m)) p).restarts = p.restarts := by
  induction ms generalizing p with
  | nil => rfl
  | cons m ms ih =>
    rw [List.foldl_cons, ih, restarts_place]
    rfl

theorem doRestart_restarts (q : Half) : (s.doRestart q).port.restarts = s.port.restarts := by
  rw [doRestart_port]
  exact restarts_freedPort s _ _

theorem doRestart_keeps (hidle : restartOf s.engine = none) (q : Half) :
    Keeps s (s.doRestart q) where
  toHeld := doRestart_held s q
  paired p := by
    have hpart : (s.doRestart q).part = .quiescing
        ∧ (s.doRestart q).engine.inExec = some { seq := q, phase := .restart false }
        ∧ (s.doRestart q).directory = s.directory := by
      obtain ⟨k, b, v, w, l, x, h⟩ := doRestart_only s q
      rw [h]
      exact ⟨rfl, rfl, rfl⟩
    obtain ⟨hpart, hexec, hdir⟩ := hpart
    have h0 := (doRestart_restarts s q).trans (restarts_eq_zero p.restart hidle)
    refine
      { calls := doRestart_callsPaired s p.calls q
        slots := doRestart_slotsPaired s p q
        admission := admissionPaired_of_slots p.admission
          ⟨fun e => (doRestart_ep s q e).2, fun d => by rw [hdir]⟩ (fun m e hs => ?_)
          fun m k hk hkind => ?_
        restart := ⟨by omega, by omega, fun q' w hq => ⟨hpart, fun c => ?_,
          fun m => ⟨doRestart_slotState s q m, fun k hk => ?_⟩, fun hw => ?_⟩⟩
        wellFormed := fun m => ?_ }
    · rw [doRestart_slotState] at hs
      rcases hs with h | h <;> cases h
    · obtain ⟨k₀, hk₀, rfl⟩ := doRestart_mark s hk
      exact (p.admission.2 m 0).2 k₀ hk₀ hkind
    · rw [doRestart_state]
      split
      · simp
      · assumption
    · obtain ⟨k₀, -, rfl⟩ := doRestart_mark s hk
      rfl
    · rw [hexec] at hq
      subst hw
      cases hq
    · rw [doRestart_mailbox, restartedSlot]
      split
      · exact p.wellFormed m
      · simp [Mbox.free]

/-! ### The order fetched (R166, R167) -/

theorem badOrder_keeps (hidle : restartOf s.engine = none) (q : Half) : Keeps s (s.badOrder q) :=
  (Runs.refl s).finish hidle _

theorem execute_keeps (hidle : restartOf s.engine = none) (q : Half) (o : Order) :
    Keeps s (s.execute q o) := by
  have hbad := badOrder_keeps s hidle q
  cases o with
  | unknown kind => exact hbad
  | openCall call count level e0 e1 e2 e3 key =>
    simp only [State.execute]
    split
    · exact hbad
    · exact doOpenCall_keeps s hidle q _ _ _ _
  | addMember call ep =>
    simp only [State.execute]
    split
    · exact doSwitch_keeps s hidle q true _ _
    · exact hbad
  | dropMember call ep =>
    simp only [State.execute]
    split
    · exact doSwitch_keeps s hidle q false _ _
    · exact hbad
  | closeCall call =>
    simp only [State.execute]
    split
    · exact doCloseCall_keeps s hidle q _
    · exact hbad
  | rekeyNow call level =>
    simp only [State.execute]
    split
    · exact doRekeyNow_keeps s hidle q _ _
    · exact hbad
  | setTiming source period => exact Frame.keeps (doSetTiming_frame s q source period.toNat hidle)
  | setEndpoint ep role order =>
    simp only [State.execute]
    split
    · exact hbad
    · split
      · exact hbad
      · exact doSetEndpoint_keeps s hidle q ep _ _
  | setDirectory index enabled number secret =>
    simp only [State.execute]
    split
    · exact hbad
    · exact doSetDirectory_keeps s hidle q index _ _ secret
  | revoke ep => exact doRevoke_keeps s hidle q ep
  | unlock index => exact doUnlock_keeps s hidle q index
  | report kind first count buffer =>
    exact Frame.keeps (doReport_frame s q kind first.toNat count.toNat buffer.toNat hidle)
  | restart => exact doRestart_keeps s hidle q

theorem idle_of_fetching {g : Engine} {q : Half} (h : g.fetching = some q) : restartOf g = none := by
  unfold Engine.fetching at h
  split at h
  · rename_i hexec
    simp [restartOf, hexec]
  all_goals cases h

theorem fetchReturn_keeps (o : Order) : Keeps s (s.fetchReturn o) := by
  unfold State.fetchReturn
  split
  · exact Keeps.refl s
  · rename_i q hq
    have hcount := countConsumed_frame s
    exact (Frame.keeps hcount).trans
      (execute_keeps _ (hcount.restart.trans (idle_of_fetching hq)) q o)

theorem fetchFault_keeps : Keeps s s.fetchFault := by
  unfold State.fetchFault
  split
  · exact Keeps.refl s
  · rename_i q hq
    exact (Frame.runs (countConsumed_frame s)).finish (idle_of_fetching hq) _

theorem returnOrder_keeps (o : Order) : Keeps s (s.returnOrder o) := by
  unfold State.returnOrder
  split
  · exact Keeps.refl s
  · exact (Frame.keeps (dropAwaiting_frame s _)).trans (fetchReturn_keeps _ o)

theorem returnUnknown_keeps (kind : Byte) : Keeps s (s.returnUnknown kind) := by
  unfold State.returnUnknown
  split
  · exact Keeps.refl s
  · exact returnOrder_keeps s _

theorem fetchAnswer_keeps (a : Answer) : Keeps s (s.fetchAnswer a) := by
  cases a with
  | ok ws => exact fetchReturn_keeps s _
  | notReserved => exact Keeps.refl s
  | fault => exact fetchFault_keeps s

end

end Sys2Proof.Pairs

namespace Sys2Proof.Pairs

open Sys2Proof Sys2Proof.Machine Sys2Proof.Laws Sys2Proof.Steps Sys2Proof.Restart

/-! ## Grants (R32 to R35, R147 to R150) -/

/-- What a mark recorded at a grant may be: a claim of an endpoint that owns no slot and has no claim in
flight, outside QUIESCING; or a word of a slot that has an owner, ANSWER only where it is in CHALLENGED. -/
structure MarkAllowed (s : State) (m : MboxNo) (k : Mark) : Prop where
  claim : k.kind = .claim → s.endpoints[k.ep].slot = none
    ∧ ∀ m' : MboxNo, s.mailboxes[m'].claimOf k.ep = false
  answer : k.kind = .goAnswer → k.judged = .challenged
  quiet : s.part ≠ .quiescing ∨ s.mailboxes[m].owner ≠ none

theorem goMark_kind {v : Word} {g : MarkKind} (h : goMark v = some g) : g ≠ .claim := by
  unfold goMark at h
  repeat' split at h
  all_goals cases h
  all_goals simp

theorem judgeRelease_none {x : Mbox} {e : EpNo} {w : WriteWord} (h : judgeRelease x e w = none) :
    x.owner = some e := by
  unfold judgeRelease at h
  split at h
  · cases h
  · split at h
    · cases h
    all_goals
      split at h
      · cases h
      · rename_i ho
        exact not_not.1 ho

theorem judgeGo_none {x : Mbox} {e : EpNo} {w : WriteWord} (h : judgeGo x e w = none) :
    x.owner = some e ∧ (goMark w.data = some .goAnswer → x.state = .challenged) := by
  unfold judgeGo at h
  split at h
  · cases h
  · rename_i hpre
    refine ⟨?_, fun hg => ?_⟩
    · by_contra ho
      simp [ho] at hpre
    · rw [hg] at h
      split at h
      · simp_all
      · simp_all
      · assumption
      · cases h

/-- The mark of an allowed WRITE is a release, or a go code, of the writer's own slot (R149, R150). -/
theorem writeMark_allowed (s : State) (e : EpNo) (ws : List WriteWord) (off : Nat) {m : MboxNo}
    {k : Mark} (hjudge : s.judgeWords e off ws = none) (hmark : s.writeMark e off ws = some (m, k)) :
    MarkAllowed s m k := by
  induction ws generalizing off with
  | nil => cases hmark
  | cons w ws ih =>
    unfold State.judgeWords at hjudge
    unfold State.writeMark at hmark
    dsimp only at hjudge hmark
    split at hjudge
    · cases hjudge
    · rename_i hword
      unfold judgeWord at hword
      split at hmark
      · rename_i hk
        rw [if_pos hk] at hword
        cases hmark
        have howner := judgeRelease_none hword
        refine ⟨fun h => (by cases h), fun h => (by cases h), .inr ?_⟩
        rw [howner]
        simp
      · rename_i hk
        rw [if_neg hk] at hword
        split at hmark
        · rename_i hk1
          rw [if_pos hk1] at hword
          obtain ⟨howner, hstate⟩ := judgeGo_none hword
          obtain ⟨g, hg, hmk⟩ := Option.map_eq_some_iff.1 hmark
          cases hmk
          refine ⟨fun h => absurd h (goMark_kind hg), fun h => hstate (hg.trans (congrArg some h)),
            .inr ?_⟩
          rw [howner]
          simp
        · exact ih _ hjudge hmark

theorem claim_allowed (s : State) {m : MboxNo} {e : EpNo} {w : WriteWord}
    (h : s.claimRefused m e w = false) :
    MarkAllowed s m { kind := .claim, ep := e, judged := .free, voided := false } := by
  unfold State.claimRefused at h
  simp only [Bool.or_eq_false_iff, decide_eq_false_iff_not, Option.isSome_eq_false_iff,
    Option.isNone_iff_eq_none] at h
  obtain ⟨⟨⟨-, hslot⟩, hclaim⟩, hpart⟩ := h
  refine ⟨fun _ => ⟨hslot, fun m' => ?_⟩, fun h => (by cases h), .inl hpart⟩
  unfold State.claimInFlight at hclaim
  rw [List.any_eq_false] at hclaim
  have hmem : s.mailboxes[m'] ∈ s.mailboxes.toList := by simp
  exact eq_false_of_ne_true (hclaim _ hmem)

theorem judge_allowed (s : State) (a : Accepted) (b : Bool) {m : MboxNo} {k : Mark}
    (h : s.judge a b = .allow (some (m, k))) : MarkAllowed s m k := by
  unfold State.judge at h
  dsimp only at h
  split at h
  · cases h
  · cases h
  · split at h
    · cases h
    · split at h
      · cases h
      · rename_i hwords
        exact writeMark_allowed s _ _ _ hwords (Judgement.allow.inj h)
  · split at h
    · cases h
    · split at h
      · split at h
        · cases h
        · rename_i hclaim
          obtain ⟨rfl, rfl⟩ := Prod.mk.inj (Option.some.inj (Judgement.allow.inj h))
          exact claim_allowed s (eq_false_of_ne_true hclaim)
      · cases h

section

variable (s : State)

theorem recordMark_keeps {o : Option (MboxNo × Mark)}
    (h : ∀ m k, o = some (m, k) → MarkAllowed s m k) : Keeps s (s.recordMark o) := by
  unfold State.recordMark
  split
  · exact Keeps.refl s
  · rename_i m k
    obtain ⟨hclaim, hanswer, hquiet⟩ := h m k rfl
    refine setMark_keeps m (some k) ?_ ?_ ?_
    all_goals
      intro k' hk'
      cases hk'
    · exact hclaim
    · exact hanswer
    · exact hquiet

theorem grantMailbox_keeps (a : Accepted) : Keeps s (s.grantMailbox a).1 := by
  unfold State.grantMailbox
  have hmon := monitorAt_frame s a
  dsimp only
  generalize s.monitorAt a = u at hmon ⊢
  split
  · exact Frame.keeps (hmon.trans (refuse_frame _ _ _))
  · exact Frame.keeps (hmon.trans (respond_frame _ _ _))
  · rename_i o hjudge
    refine (Frame.keeps hmon).trans ((recordMark_keeps u fun m k hmk => ?_).frame
      (send_frame _ _ _ rfl))
    subst hmk
    exact judge_allowed u a _ hjudge

theorem grantForwarded_keeps (c : Candidate) : Keeps s (s.grantForwarded c).1 := by
  unfold State.grantForwarded
  split
  · dsimp only
    split
    · exact (Frame.keeps (takeOut_frame s _)).trans (grantMailbox_keeps _ _)
    · exact Frame.keeps ((takeOut_frame s _).trans (send_frame _ _ _ rfl))
  · exact Frame.keeps ((setPort_frame s _).trans (send_frame _ _ _ rfl))

theorem grantDownN_keeps (n : Nat) (s : State) : Keeps s (s.grantDownN n) := by
  induction n generalizing s with
  | zero => exact Keeps.refl s
  | succ n ih =>
    unfold State.grantDownN
    dsimp only
    split
    · split
      · exact Frame.keeps (grantSelf_frame s)
      · exact Keeps.refl s
    · rename_i c _
      have hgrant := grantForwarded_keeps s c
      split
      · exact Frame.keeps (grantSelf_frame s)
      · split
        · rename_i hu
          rw [hu] at hgrant
          exact hgrant.frame (setRun_frame _ _)
        · rename_i hu
          rw [hu] at hgrant
          exact hgrant.trans (ih _)

theorem grantDown_keeps : Keeps s s.grantDown := by
  unfold State.grantDown
  split
  · exact Keeps.refl s
  · exact grantDownN_keeps _ s

end

end Sys2Proof.Pairs

namespace Sys2Proof.Pairs

open Sys2Proof Sys2Proof.Machine Sys2Proof.Laws Sys2Proof.Steps Sys2Proof.Restart

/-! ## Draining, UNPLANNED and the taking of a plan (R5, R10) -/

section

variable (s : State)

/-- The RESTART completion is written once, when every call is FREE (R10). -/
theorem endDraining_keeps : Keeps s s.endDraining := by
  unfold State.endDraining
  split
  · rename_i q hexec
    split
    · rename_i hend
      simp only [State.drained, Bool.and_eq_true, decide_eq_true_eq] at hend
      obtain ⟨⟨⟨hpart, ⟨hcalls, -⟩, -⟩, -⟩, -⟩ := hend
      have hfree : ∀ c : CallNo, s.calls[c].state = .free := fun c =>
        (isFree_iff _).1 (List.all_eq_true.1 hcalls s.calls[c] (by simp))
      obtain ⟨g, sq, wt, hu⟩ := writeCompletion_only (s.setEngine { s.engine with
        inExec := some { seq := q, phase := .restart true } }) .engine false
          (orderCompletion q .done .none []) true
      have hengine := writeCompletion_engine (s.setEngine { s.engine with
        inExec := some { seq := q, phase := .restart true } }) .engine false
          (orderCompletion q .done .none []) true
      have hport : ((s.setEngine { s.engine with
          inExec := some { seq := q, phase := .restart true } }).writeCompletion .engine false
            (orderCompletion q .done .none []) true).port.restarts = s.port.restarts + 1 :=
        restarts_place _ _ _ _
      generalize (s.setEngine { s.engine with
        inExec := some { seq := q, phase := .restart true } }).writeCompletion .engine false
          (orderCompletion q .done .none []) true = u at hu hengine hport
      have hexecu : u.engine.inExec = some { seq := q, phase := .restart true } := by
        rw [hengine]; rfl
      refine ⟨by rw [hu]; exact ⟨rfl, le_rfl, rfl, rfl, rfl⟩, fun p => ?_⟩
      obtain ⟨-, hstand, hquiet⟩ := p.restart
      obtain ⟨-, hopen, hslots, -⟩ := hquiet q false hexec
      have h0 : s.port.restarts = 0 := by
        by_contra hne
        obtain ⟨q', hq'⟩ := hstand (by omega)
        rw [hexec] at hq'
        cases hq'
      refine
        { calls := by rw [hu]; exact p.calls
          slots := by rw [hu]; exact p.slots
          admission := by rw [hu]; exact p.admission
          restart := ⟨by omega, fun _ => ⟨q, hexecu⟩, fun q' w _ => ?_⟩
          wellFormed := by rw [hu]; exact p.wellFormed }
      rw [hu]
      exact ⟨hpart, hopen, hslots, fun _ => hfree⟩
    · exact Keeps.refl s
  all_goals exact Keeps.refl s

/-- The part enters UNPLANNED from the end of a RESTART: no call, no slot and no admission is left (R10). -/
theorem unplanned_paired (p : Paired s) {q : Half}
    (hq : s.engine.inExec = some { seq := q, phase := .restart true }) (x : Port)
    (h0 : x.restarts = 0) : Paired (s.setPort x).enterUnplanned := by
  obtain ⟨-, -, hslots, hcalls⟩ := p.restart.2.2 q true hq
  have hfree := hcalls rfl
  have hmembers : ∀ c : CallNo, s.calls[c].members = [] := fun c => (p.calls.1 c).2.2 (hfree c)
  have hep : ∀ e : EpNo, (s.setPort x).enterUnplanned.endpoints[e] = s.endpoints[e].unplanned :=
    fun e => mapTab_get _ _ e
  have hentry : ∀ d : EntryNo, (s.setPort x).enterUnplanned.directory[d] = s.directory[d].unplanned :=
    fun d => mapTab_get _ _ d
  have howner : ∀ m : MboxNo, s.mailboxes[m].owner = none := fun m =>
    owner_of_free p.wellFormed (hslots m).1
  refine
    { calls := ⟨p.calls.1, fun e c => ?_, p.calls.2.2⟩
      slots := ⟨fun m e => ?_, fun m k hk hkind => ⟨?_, (p.slots.2 m k hk hkind).2⟩⟩
      admission := ⟨fun e d => ?_, fun m e => ⟨fun _ _ => ?_, (p.admission.2 m e).2⟩⟩
      restart := restartQuiet_of_idle rfl ((restarts_voidCounts x).trans h0)
      wellFormed := p.wellFormed }
  · rw [hep]
    show none = some c ↔ ∃ m ∈ s.calls[c].members, m.ep = e
    rw [hmembers]
    simp
  · rw [hep]
    show s.mailboxes[m].owner = some e ↔ none = some m
    rw [howner]
    simp
  · rw [hep]; rfl
  · rw [hep, hentry]
    show none = some d ↔ none = some e
    simp
  · rw [hep]; rfl

/-- A record may be taken only outside QUIESCING (R4). -/
theorem notQuiescing_of_mayTake {s : State} (h : s.mayTake = true) : s.part ≠ .quiescing := by
  intro hp
  unfold State.mayTake at h
  rw [hp] at h
  cases h

/-- The tables as a plan is taken, before the reservations are removed and the roles given (R5). -/
def takenState (s : State) (p : Plan) : State :=
  { s with
    part := .planned
    plan := some p
    directory := mapTab (DirEntry.rebase s.timer.counter) s.directory
    endpoints := mapTab EndpointRec.demoted s.endpoints
    timer := s.timer.taking p s.now
    engine := s.engine.taking
    challengeCtr := p.challengeStart
    port := s.port.voidCounts }

theorem takePlan_eq (p : Plan) :
    s.takePlan p = (takenState s p).emptyMonitor.deliver.makeControls p.control := rfl

theorem demoted_pairs (e : EndpointRec) : e.demoted.call = e.call ∧ e.demoted.slot = e.slot
    ∧ e.demoted.admitted = e.admitted := by
  unfold EndpointRec.demoted
  split <;> exact ⟨rfl, rfl, rfl⟩

theorem takenState_keeps (h : s.part ≠ .quiescing) (x : Plan) : Keeps s (takenState s x) where
  toHeld := ⟨rfl, le_rfl, rfl, rfl, rfl⟩
  paired p := by
    have hep : ∀ e : EpNo, (takenState s x).endpoints[e] = s.endpoints[e].demoted :=
      fun e => mapTab_get _ _ e
    have hentry : ∀ d : EntryNo,
        (takenState s x).directory[d].admittedEp = s.directory[d].admittedEp := fun d =>
      (congrArg DirEntry.admittedEp (mapTab_get (DirEntry.rebase s.timer.counter) s.directory d) :)
    have hslots : SameSlots s (takenState s x) := ⟨fun _ => rfl, fun _ => rfl, fun _ => rfl,
      fun _ => rfl, fun e => by rw [hep]; exact (demoted_pairs _).2.1⟩
    have hidle := idle_of_part p.restart h
    exact
      { calls := callsPaired_of_same p.calls ⟨fun _ => rfl, fun _ => rfl, fun _ _ _ => Iff.rfl,
          fun e => by rw [hep]; exact (demoted_pairs _).1⟩
        slots := slotsPaired_of_same p.slots hslots
        admission := admissionPaired_of_same p.admission hslots
          ⟨fun e => by rw [hep]; exact (demoted_pairs _).2.2, hentry⟩
        restart := restartQuiet_of_idle hidle
          ((restarts_voidCounts s.port).trans (restarts_eq_zero p.restart hidle))
        wellFormed := slotsWellFormed_of_same p.wellFormed hslots }

theorem makeControls_keeps (es : List EpNo) (s : State) : Keeps s (s.makeControls es) := by
  induction es generalizing s with
  | nil => exact Keeps.refl s
  | cons e es ih =>
    have hrole := setEp_frame s e { s.endpoints[e] with role := .control }
    exact ((Frame.keeps hrole).trans (deadmit_keeps _ e .role)).trans (ih _)

theorem takePlan_keeps (h : s.part ≠ .quiescing) (x : Plan) : Keeps s (s.takePlan x) := by
  rw [takePlan_eq]
  exact (((takenState_keeps s h x).frame (removeReservations_frame _ _)).frame
    (deliver_frame _)).trans (makeControls_keeps _ _)

/-! ### The end of a validation (R3 to R6) -/

/-- No check of R3 gives the outcome TAKEN. -/
theorem check_ne_taken {f : PlanFields} {anchor : Nat} {o : PlanOutcome}
    (h : f.check anchor = some o) : o ≠ .taken := by
  unfold PlanFields.check at h
  repeat' split at h
  all_goals cases h
  all_goals simp

theorem mayTake_of_taken {s : State} {a : Answer} (h : s.outcomeOf a = .taken) :
    s.mayTake = true := by
  unfold State.outcomeOf at h
  split at h
  · split at h
    · rename_i hcheck
      exact absurd h (check_ne_taken hcheck)
    · split at h
      · assumption
      · cases h
  · cases h
  · cases h

theorem applyOutcome_keeps (a : Answer) {o : PlanOutcome} (h : o = .taken → s.part ≠ .quiescing) :
    Keeps s (s.applyOutcome a o) := by
  unfold State.applyOutcome
  split
  · exact takePlan_keeps s (h rfl) _
  · exact Keeps.refl s

theorem endValidation_keeps (a : Answer) : Keeps s (s.endValidation a) := by
  have hcounted := Frame.keeps (setValidator_frame s
    { s.validator with inFlight := false, count := s.validator.count + 1#16 })
  exact (((hcounted.trans (applyOutcome_keeps _ a fun htaken =>
    notQuiescing_of_mayTake (s := s) (mayTake_of_taken htaken))).frame (statusWrite_frame _ _)).frame
      (restartValidation_frame _))

/-! ## Memory's answers (R36) -/

theorem watchEvent_keeps (w : Watch) : Keeps s (s.watchEvent w) := by
  cases w with
  | signature => exact Frame.keeps (signatureEvent_frame s)
  | orderCount v => exact Frame.keeps (orderCountEvent_frame s v)
  | completionCount v => exact Frame.keeps (completionCountEvent_frame s v)
  | mailbox m => exact mailboxEvent_keeps s m

theorem watchFailed_keeps (w : Watch) : Keeps s (s.watchFailed w) := by
  cases w with
  | mailbox m => exact clearMark_keeps s m
  | _ => exact Keeps.refl s

theorem watchAnswered_keeps (w : Option Watch) (a : Answer) : Keeps s (s.watchAnswered w a) := by
  unfold State.watchAnswered
  split
  · exact Keeps.refl s
  · exact watchEvent_keeps s _
  · exact watchFailed_keeps s _
  · exact watchFailed_keeps s _

theorem forwardedAnswer_keeps (x : Accepted) (a : Answer) : Keeps s (s.forwardedAnswer x a) :=
  (Frame.keeps (respond_frame s _ _)).trans (watchAnswered_keeps _ _ _)

/-- The answer to a self-traffic entry other than the RESTART completion's. -/
theorem selfAnswer_keeps (src : SelfSource) (a : Answer)
    (h : ∀ kind, src ≠ .completionEntry kind true) : Keeps s (s.selfAnswer src a) := by
  cases src with
  | anchorRead => exact endValidation_keeps s a
  | orderFetch => exact fetchAnswer_keeps s a
  | completionEntry kind restart =>
    cases restart with
    | true => exact absurd rfl (h kind)
    | false =>
      show Keeps s (s.entryAnswer kind false a)
      rw [State.entryAnswer, if_neg Bool.false_ne_true]
      split
      · exact Keeps.refl s
      · exact Frame.keeps (selfWriteAnswer_frame s _ a)
  | report => exact Frame.keeps (reportAnswer_frame s _)
  | requestRead m => exact requestReturn_keeps s m a
  | answerRead m => exact answerReturn_keeps s m a
  | _ => exact Frame.keeps (selfWriteAnswer_frame s _ a)

/-- The answer to the RESTART completion's entry write finds no other such write, and a RESTART that has
written its completion (R10). -/
theorem restartAnswer_keeps {i : Nat} {w : Awaiting} (hw : s.port.awaiting[i]? = some w)
    (hentry : w.isRestartEntry = true) :
    Keeps s (s.setPort { s.port with awaiting := dropAt i s.port.awaiting }).enterUnplanned where
  toHeld := ⟨rfl, le_rfl, rfl, rfl, rfl⟩
  paired p := by
    have hdrop := countP_dropAt Awaiting.isRestartEntry hw hentry
    obtain ⟨hone, hstand, -⟩ := p.restart
    have hsum : s.port.restarts = ({ s.port with awaiting := dropAt i s.port.awaiting } :
        Port).restarts + 1 := by
      simp only [Port.restarts]
      omega
    obtain ⟨q, hq⟩ := hstand (by omega)
    exact unplanned_paired s p hq _ (by omega)

theorem answerWith_keeps {i : Nat} {w : Awaiting} (hw : s.port.awaiting[i]? = some w) (a : Answer) :
    Keeps s (s.answerWith i w a) := by
  have hdrop := Frame.keeps (dropAwaiting_frame s i)
  unfold State.answerWith
  dsimp only
  split
  · exact hdrop.trans (forwardedAnswer_keeps _ _ a)
  · exact hdrop.frame (pieceAnswer_frame _ _ _ a)
  · rename_i src hsrc
    by_cases hentry : ∃ kind, src = .completionEntry kind true
    · obtain ⟨kind, rfl⟩ := hentry
      refine restartAnswer_keeps s hw ?_
      simp [Awaiting.isRestartEntry, hsrc]
    · exact hdrop.trans (selfAnswer_keeps _ src a fun kind h => hentry ⟨kind, h⟩)

theorem answerAt_keeps (i : Nat) (a : Answer) : Keeps s (s.answerAt i a) := by
  unfold State.answerAt
  split
  · exact Keeps.refl s
  · rename_i hw
    split
    · exact answerWith_keeps s hw a
    · exact Keeps.refl s

theorem answerSelf_keeps (src : SelfSource) (a : Answer) : Keeps s (s.answerSelf src a) := by
  unfold State.answerSelf
  split
  · exact Keeps.refl s
  · exact answerAt_keeps s _ a

theorem answerRestart_keeps (a : Answer) : Keeps s (s.answerRestart a) := by
  unfold State.answerRestart
  split
  · exact Keeps.refl s
  · exact answerAt_keeps s _ a

theorem answerMark_keeps (i : Nat) (k : MarkKind) : Keeps s (s.answerMark i k) := by
  unfold State.answerMark
  split
  · exact answerAt_keeps s i _
  · exact Keeps.refl s

theorem answerSignature_keeps (i : Nat) : Keeps s (s.answerSignature i) := by
  unfold State.answerSignature
  split
  · exact answerAt_keeps s i _
  · exact Keeps.refl s

theorem answerOrderCount_keeps (i : Nat) : Keeps s (s.answerOrderCount i) := by
  unfold State.answerOrderCount
  split
  · exact answerAt_keeps s i _
  all_goals exact Keeps.refl s

theorem answerCompletionCount_keeps (i : Nat) : Keeps s (s.answerCompletionCount i) := by
  unfold State.answerCompletionCount
  split
  · exact answerAt_keeps s i _
  all_goals exact Keeps.refl s

/-! ## The work of an event at that event -/

theorem settleRings_keeps : Keeps s s.settleRings := by
  have hwritten := Frame.keeps
    (((placeWaiting_frame s).trans (deliver_frame _)).trans (writeHeld_frame _))
  unfold State.settleRings
  exact (((((hwritten.trans (endCloses_keeps _ _)).frame (writeTimingDone_frame _)).trans
    (endDraining_keeps _)).frame (startFetch_frame _)).frame (endPass_frame _))

theorem settle_keeps : Keeps s s.settle :=
  ((((((settleRings_keeps s).frame (retestArrival_frame _)).frame (voiceUpkeep_frame _)).frame
    (grantAll_frame _)).frame (retestArrival_frame _)).frame (setAlert_frame _ _))

theorem Keeps.settled {s u : State} (h : Keeps s u) : Keeps s u.settle := h.trans (settle_keeps u)

/-- An event at an instant, and the work it brings about. -/
theorem Keeps.event {s u : State} {t : Instant} (h : Keeps (s.atInstant t) u) : Keeps s u.settle :=
  ((Frame.keeps (atInstant_frame s t)).trans h).settled

theorem Frame.event {s u : State} {t : Instant} (h : Frame (s.atInstant t) u) : Keeps s u.settle :=
  Keeps.event (Frame.keeps h)

theorem Frame.settled {s u : State} (h : Frame s u) : Keeps s u.settle :=
  Keeps.settled (Frame.keeps h)

end

/-! ## Commands -/

/-- A command of the reset pin. -/
def resets : Instr → Bool
  | .hardReset => true
  | .resetNRise _ _ => true
  | _ => false

/-- Every command but those of the reset pin keeps the pairs, the pins and the queue. -/
theorem exec_keeps {c : Instr} (hc : resets c = false) (s : State) :
    ∃ u, exec c s = .next u ∧ Keeps s u := by
  cases c with
  | hardReset => cases hc
  | resetNRise a b => cases hc
  | read t ep addr len => exact ⟨_, rfl, Frame.event (offer_frame _ _)⟩
  | write t ep addr data => exact ⟨_, rfl, Frame.event (offer_frame _ _)⟩
  | readReserve t ep addr len => exact ⟨_, rfl, Frame.event (offer_frame _ _)⟩
  | writeIfReserved t ep addr data => exact ⟨_, rfl, Frame.event (offer_frame _ _)⟩
  | transformEntry t => exact ⟨_, rfl, Frame.event (transformNext_frame _)⟩
  | downstreamGrant t => exact ⟨_, rfl, Keeps.event (grantDown_keeps _)⟩
  | memoryAnswer t i a => exact ⟨_, rfl, Keeps.event (answerAt_keeps _ i a)⟩
  | responseReturn t ep =>
    exact ⟨_, rfl, Frame.keeps ((atInstant_frame s t).trans (returnResponse_frame _ ep))⟩
  | selfTrafficPlacement t => exact ⟨_, rfl, Frame.event (placeWaiting_frame _)⟩
  | ringDrainEnd t r => exact ⟨_, rfl, Frame.event (endRingDrain_frame _ r)⟩
  | signatureWrite t i => exact ⟨_, rfl, Keeps.event (answerSignature_keeps _ i)⟩
  | anchorSelfReadReturn t a => exact ⟨_, rfl, Keeps.event (answerSelf_keeps _ _ a)⟩
  | orderProducerCountWrite t i => exact ⟨_, rfl, Keeps.event (answerOrderCount_keeps _ i)⟩
  | completionConsumerCountWrite t i =>
    exact ⟨_, rfl, Keeps.event (answerCompletionCount_keeps _ i)⟩
  | claim t i => exact ⟨_, rfl, Keeps.event (answerMark_keeps _ i _)⟩
  | release t i => exact ⟨_, rfl, Keeps.event (answerMark_keeps _ i _)⟩
  | goAdmit t i => exact ⟨_, rfl, Keeps.event (answerMark_keeps _ i _)⟩
  | goResign t i => exact ⟨_, rfl, Keeps.event (answerMark_keeps _ i _)⟩
  | goAnswer t i => exact ⟨_, rfl, Keeps.event (answerMark_keeps _ i _)⟩
  | requestSelfReadReturn t m a => exact ⟨_, rfl, Keeps.event (answerSelf_keeps _ _ a)⟩
  | answerSelfReadReturn t m a => exact ⟨_, rfl, Keeps.event (answerSelf_keeps _ _ a)⟩
  | orderFetchStart t => exact ⟨_, rfl, Frame.event (startFetch_frame _)⟩
  | orderFetchFault t => exact ⟨_, rfl, Keeps.event (answerSelf_keeps _ _ _)⟩
  | badOrderKind t kind => exact ⟨_, rfl, Keeps.event (returnUnknown_keeps _ kind)⟩
  | openCall t call count level e0 e1 e2 e3 key =>
    exact ⟨_, rfl, Keeps.event (returnOrder_keeps _ _)⟩
  | addMember t call ep => exact ⟨_, rfl, Keeps.event (returnOrder_keeps _ _)⟩
  | dropMember t call ep => exact ⟨_, rfl, Keeps.event (returnOrder_keeps _ _)⟩
  | closeCall t call => exact ⟨_, rfl, Keeps.event (returnOrder_keeps _ _)⟩
  | rekeyNow t call level => exact ⟨_, rfl, Keeps.event (returnOrder_keeps _ _)⟩
  | setTiming t source period => exact ⟨_, rfl, Keeps.event (returnOrder_keeps _ _)⟩
  | setEndpoint t ep role order => exact ⟨_, rfl, Keeps.event (returnOrder_keeps _ _)⟩
  | setDirectory t index enabled number secret =>
    exact ⟨_, rfl, Keeps.event (returnOrder_keeps _ _)⟩
  | revoke t ep => exact ⟨_, rfl, Keeps.event (returnOrder_keeps _ _)⟩
  | unlock t index => exact ⟨_, rfl, Keeps.event (returnOrder_keeps _ _)⟩
  | reportEndpoints t first count buffer => exact ⟨_, rfl, Keeps.event (returnOrder_keeps _ _)⟩
  | reportCall t call buffer => exact ⟨_, rfl, Keeps.event (returnOrder_keeps _ _)⟩
  | reportSummary t buffer => exact ⟨_, rfl, Keeps.event (returnOrder_keeps _ _)⟩
  | reportCompletion t => exact ⟨_, rfl, Frame.event (finishReport_frame _)⟩
  | restart t => exact ⟨_, rfl, Keeps.event (returnOrder_keeps _ _)⟩
  | drainingEnd t => exact ⟨_, rfl, Keeps.event (endDraining_keeps _)⟩
  | unplannedEntry t a => exact ⟨_, rfl, Keeps.event (answerRestart_keeps _ a)⟩
  | noticeDelivery t => exact ⟨_, rfl, Frame.event (deliver_frame _)⟩
  | heldCompletionWrite t => exact ⟨_, rfl, Frame.event (writeHeld_frame _)⟩
  | internalExpiry => exact ⟨_, rfl, Frame.settled (internalExpiry_frame s)⟩
  | guardExpiry => exact ⟨_, rfl, Frame.settled (guardExpiry_frame s)⟩
  | fsyncEdge t => exact ⟨_, rfl, Frame.event (edge_frame _)⟩
  | admitAging t => exact ⟨_, rfl, Frame.event (ageRequests_frame _)⟩
  | lockExpiry t => exact ⟨_, rfl, Frame.event (expireLocks_frame _)⟩
  | timingChangeTakeEffect cause => exact ⟨_, rfl, Frame.settled (tickArmed_frame s cause)⟩
  | blankingEnd cause => exact ⟨_, rfl, Frame.settled (tickBlanking_frame s cause)⟩
  | timingChangeCompletion t => exact ⟨_, rfl, Frame.event (writeTimingDone_frame _)⟩
  | visit t => exact ⟨_, rfl, Keeps.event (visitNext_keeps _)⟩
  | rekeyCountdownExpiry t => exact ⟨_, rfl, Keeps.event (visitRekey_keeps _)⟩
  | slotCheck t => exact ⟨_, rfl, Keeps.event (checkNext_keeps _)⟩
  | slotDeadlineExpiry t => exact ⟨_, rfl, Keeps.event (checkExpiry_keeps _)⟩
  | callCloseEnd t call => exact ⟨_, rfl, Keeps.event (endClose_keeps _ call)⟩
  | activationWindowLeave => exact ⟨_, rfl, Frame.settled (leaveWindow_frame s)⟩
  | callActivationCompletion lane => exact ⟨_, rfl, Frame.settled (completeCallLane_frame s lane)⟩
  | entryActivationCompletion lane =>
    exact ⟨_, rfl, Keeps.settled (completeEntryLane_keeps s lane)⟩

theorem exec_held {c : Instr} {s u : State} (hc : resets c = false) (h : exec c s = .next u) :
    Keeps s u := by
  obtain ⟨v, hv, hkeeps⟩ := exec_keeps hc s
  rw [hv] at h
  cases h
  exact hkeeps

/-- Settles O4, from what every command but the reset pin's keeps. -/
theorem strapsHeldBetweenResets : Obligations.StrapsHeldBetweenResets := by
  intro c s u h
  cases hc : resets c with
  | false =>
    obtain ⟨hpending, hnow, hlow, hsel, hboot⟩ := (exec_held hc h).toHeld
    exact ⟨hpending, hnow, fun _ => ⟨hsel, hboot⟩, fun _ _ => hlow⟩
  | true =>
    cases c with
    | hardReset => cases h; exact ⟨rfl, le_rfl, fun _ => ⟨rfl, rfl⟩, fun _ hne => absurd rfl hne⟩
    | resetNRise a b =>
      cases h
      exact ⟨rfl, le_rfl, fun hne => absurd rfl (hne a b), fun hne => absurd rfl (hne a b)⟩
    | _ => cases hc

theorem paired_of_fresh {u : State} (h : u.Fresh) : Paired u where
  calls := Reset.callsPaired_of_fresh h
  slots := Reset.slotsPaired_of_fresh h
  admission := Reset.admissionPaired_of_fresh h
  restart := Reset.restartQuiet_of_fresh h
  wellFormed := Reset.slotsWellFormed_of_fresh h

theorem exec_paired {c : Instr} {s u : State} (p : Paired s) (h : exec c s = .next u) :
    Paired u := by
  cases hc : resets c with
  | false => exact (exec_held hc h).paired p
  | true =>
    cases c with
    | hardReset => cases h; exact paired_of_fresh (Reset.hardReset_fresh s)
    | resetNRise a b => cases h; exact paired_of_fresh (Reset.riseReset_fresh s a b)
    | _ => cases hc

/-- Settles O59: reset meets the pairs, and every other command keeps them. -/
theorem pairsKept : Obligations.PairsKept := by
  intro s u hcalls hslots hadmission hrestart hformed hstep
  have p : Paired s := ⟨hcalls, hslots, hadmission, hrestart, hformed⟩
  have pu : Paired u := by
    unfold step at hstep
    split at hstep
    · cases hstep; exact p
    · rename_i c rest _
      exact exec_paired (s := { s with pending := rest })
        ⟨hcalls, hslots, hadmission, hrestart, hformed⟩ hstep
  exact ⟨pu.calls, pu.slots, pu.admission, pu.restart, pu.wellFormed⟩

end Sys2Proof.Pairs

namespace Sys2Proof.Answers

open Sys2Proof Sys2Proof.Machine Sys2Proof.Laws

/-! ## Memory's answers at their sources (R13, R30, R36) -/

section

variable {s : State} {i : Nat} {r : DsRequest}

/-- An answer that fits the awaiting request goes to the request's source. -/
theorem answerAt_of_awaiting {w : Awaiting} (h : s.port.awaiting[i]? = some w) (t : Instant)
    {a : Answer} (hfits : w.req.fits a = true) :
    (s.atInstant t).answerAt i a = (s.atInstant t).answerWith i w a := by
  have h' : (s.atInstant t).port.awaiting[i]? = some w := h
  unfold State.answerAt
  rw [h']
  exact if_pos hfits

theorem answerAt_forwarded {x : Accepted}
    (h : s.port.awaiting[i]? = some { req := r, src := .forwarded x }) (t : Instant) {a : Answer}
    (hfits : r.fits a = true) :
    (s.atInstant t).answerAt i a = (s.afterAnswer t i).forwardedAnswer x a :=
  answerAt_of_awaiting h t hfits

theorem answerAt_self {src : SelfSource}
    (h : s.port.awaiting[i]? = some { req := r, src := .self src }) (t : Instant) {a : Answer}
    (hfits : r.fits a = true) :
    (s.atInstant t).answerAt i a = (s.afterAnswer t i).selfAnswer src a :=
  answerAt_of_awaiting h t hfits

/-- The answer to the first self-traffic entry of a source (R36). -/
theorem answerSelf_of_selfAt {src : SelfSource} (h : s.SelfAt i r src) (t : Instant) {a : Answer}
    (hfits : r.fits a = true) :
    (s.atInstant t).answerSelf src a = (s.afterAnswer t i).selfAnswer src a := by
  obtain ⟨hidx, hawait⟩ := h
  have hidx' : (s.atInstant t).awaitingIdx (Awaiting.isSelf src) = some i := hidx
  unfold State.answerSelf
  rw [hidx']
  exact answerAt_self hawait t hfits

theorem fits_ok_of_write (h : r.kind.isWrite = true) : r.fits (.ok []) = true := by
  simp [DsRequest.fits, h]

theorem fits_ok_of_read (h : r.kind = .read) {ws : List Word} (hlen : ws.length = r.len) :
    r.fits (.ok ws) = true := by
  simp [DsRequest.fits, h, ReqKind.isWrite, hlen]

/-- Memory answers a watched write OK: its response is OK, and the event follows (R13). -/
theorem answerOk_of_writeAt {x : Accepted} {w : Watch} (h : s.WriteAt i r x w) (t : Instant) :
    (s.atInstant t).answerOk i = (s.afterWrite t i x).watchEvent w := by
  obtain ⟨hawait, hwatch, hwrite⟩ := h
  unfold State.answerOk
  rw [answerAt_forwarded hawait t (fits_ok_of_write hwrite), State.forwardedAnswer, hwatch]
  rfl

theorem awaitedWatch_of_writeAt {x : Accepted} {w : Watch} (h : s.WriteAt i r x w) (t : Instant) :
    (s.atInstant t).awaitedWatch i = some w := by
  obtain ⟨hawait, hwatch, -⟩ := h
  have hawait' : (s.atInstant t).port.awaiting[i]? = some { req := r, src := .forwarded x } := hawait
  unfold State.awaitedWatch
  rw [hawait']
  exact hwatch

end

/-- A watched write that memory does not answer OK has no event but to leave a mailbox slot. -/
theorem watchFailed_of_not_mailbox (s : State) {o : Option Watch} (h : ∀ m, o ≠ some (.mailbox m))
    {a : Answer} (ha : a = .fault ∨ a = .notReserved) : s.watchAnswered o a = s := by
  cases o with
  | none => rfl
  | some w =>
    cases w with
    | mailbox m => exact absurd rfl (h m)
    | _ => rcases ha with rfl | rfl <;> rfl

/-- The answer to a forwarded request is its response, and a write that is no event changes no more
(R30). -/
theorem forwarded_answered {s : State} {i : Nat} {r : DsRequest} {x : Accepted}
    (h : s.port.awaiting[i]? = some { req := r, src := .forwarded x }) (t : Instant) {a : Answer}
    (hfits : r.fits a = true)
    (hwatch : ∀ u : State, u.watchAnswered x.watch a = u) :
    exec (.memoryAnswer t i a) s =
      .next ((s.afterAnswer t i).respond x.id (responseOf a)).settle := by
  show Host.Outcome.next ((s.atInstant t).answerAt i a).settle = _
  rw [answerAt_forwarded h t hfits, State.forwardedAnswer, hwatch]

/-- The order count taken where it is still in range (R165). -/
theorem orderCountEvent_eq (s : State) (v : Half) : s.orderCountEvent v = { s with
    engine := { s.engine with
      orderProducer := if (v - s.engine.orderConsumed).toNat ≤ 32 then v
        else s.engine.orderProducer } } := by
  unfold State.orderCountEvent Engine.orderInRange
  by_cases h : (v - s.engine.orderConsumed).toNat ≤ 32
  · rw [if_pos (decide_eq_true h), if_pos h]; rfl
  · rw [if_neg (by simpa using h), if_neg h]

/-- The completion count taken where it is still in range (R169). -/
theorem completionCountEvent_eq (s : State) (v : Half) : s.completionCountEvent v = { s with
    engine := { s.engine with
      completionConsumer := if (v - s.engine.completionConsumer).toNat ≤
          (s.engine.completionProducer - s.engine.completionConsumer).toNat then v
        else s.engine.completionConsumer } } := by
  unfold State.completionCountEvent Engine.completionInRange Engine.used
  by_cases h : (v - s.engine.completionConsumer).toNat ≤
      (s.engine.completionProducer - s.engine.completionConsumer).toNat
  · rw [if_pos (decide_eq_true h), if_pos h]; rfl
  · rw [if_neg (by simpa using h), if_neg h]

/-- Settles O23: the answer goes to its source, and the watched word's event is read off case by
case. -/
theorem forwardedAnswered : Obligations.ForwardedAnswered := by
  refine ⟨fun s t i r x hawait => ⟨fun ws hwatch hlen => ?_, fun m hwatch => ?_, fun hwatch => ?_,
    fun hkind hwatch => ?_⟩, fun s t i r a v => ⟨fun h => ?_, fun h => ?_⟩⟩
  · exact forwarded_answered hawait t (by simpa [DsRequest.fits] using hlen)
      fun u => by rw [hwatch]; rfl
  · show Host.Outcome.next ((s.atInstant t).answerAt i .fault).settle = _
    rw [answerAt_forwarded hawait t rfl, State.forwardedAnswer, hwatch]
    rfl
  · exact forwarded_answered hawait t rfl fun u => watchFailed_of_not_mailbox u hwatch (.inl rfl)
  · exact forwarded_answered hawait t (by simp [DsRequest.fits, hkind])
      fun u => watchFailed_of_not_mailbox u hwatch (.inr rfl)
  · show Host.Outcome.next ((s.atInstant t).answerOrderCount i).settle = _
    rw [State.answerOrderCount, awaitedWatch_of_writeAt h t, answerOk_of_writeAt h t]
    exact congrArg (fun u => Host.Outcome.next (State.settle u)) (orderCountEvent_eq _ v)
  · show Host.Outcome.next ((s.atInstant t).answerCompletionCount i).settle = _
    rw [State.answerCompletionCount, awaitedWatch_of_writeAt h t, answerOk_of_writeAt h t]
    exact congrArg (fun u => Host.Outcome.next (State.settle u)) (completionCountEvent_eq _ v)

end Sys2Proof.Answers

namespace Sys2Proof.Validations

open Sys2Proof Sys2Proof.Machine Sys2Proof.Laws Sys2Proof.Answers Sys2Proof.Pairs Sys2Proof.Restart

/-! ## Validations (R2 to R4, R6) -/

theorem anchorWord_eq (s : State) : s.anchorWord = s.anchorSel.toNat * 4194304 := by
  unfold State.anchorWord State.anchorByte
  omega

theorem startValidation_eq (s : State) : s.startValidation = State.place
    { s with validator := { s.validator with inFlight := true } } .validator false
      [selfRead (s.anchorSel.toNat * 4194304) 16 .anchorRead] := by
  rw [← anchorWord_eq]
  rfl

theorem signatureEvent_idle {s : State} (h : s.validator.inFlight = false) :
    s.signatureEvent = State.place
      { s with validator := { s.validator with inFlight := true } } .validator false
        [selfRead (s.anchorSel.toNat * 4194304) 16 .anchorRead] := by
  unfold State.signatureEvent
  rw [h]
  exact startValidation_eq s

theorem signatureEvent_busy {s : State} (h : s.validator.inFlight = true) :
    s.signatureEvent = { s with validator := { s.validator with pending := true } } := by
  unfold State.signatureEvent
  rw [h]
  rfl

theorem statusWrite_eq (s : State) (o : PlanOutcome) : s.statusWrite o =
    s.place .validator false [selfWrite (s.anchorSel.toNat * 4194304)
      [wordOfBytes o.code o.reason (loByte s.validator.count) (hiByte s.validator.count)]
      .planStatus] := by
  rw [← anchorWord_eq]
  rfl

theorem toList_all_iff {α : Type} {n : Nat} (v : Vector α n) (p : α → Bool) :
    v.toList.all p = true ↔ ∀ i : Fin n, p v[i] = true := by
  rw [List.all_eq_true]
  constructor
  · exact fun h i => h _ (by simp)
  · intro h x hx
    obtain ⟨i, hi, rfl⟩ := List.mem_iff_getElem.1 hx
    have hn : i < n := by simpa using hi
    simpa using h ⟨i, hn⟩

theorem blanking_iff (t : Timer) : t.blanking = false ↔ ∀ q, t.change ≠ .blanking q := by
  unfold Timer.blanking
  cases t.change <;> simp

/-- The taking condition, item by item (R4). -/
theorem mayTake_iff (s : State) : s.mayTake = true ↔ s.part = .unplanned
    ∨ s.part = .planned ∧ (∀ c : CallNo, s.calls[c].state = .free)
      ∧ (∀ m : MboxNo, s.mailboxes[m].state = .free ∧ s.mailboxes[m].inFlight = none)
      ∧ (∀ l : LaneNo, s.lanes[l].state ≠ .expanding)
      ∧ s.engine.inExec = none ∧ s.engine.held = none ∧ ∀ q, s.timer.change ≠ .blanking q := by
  unfold State.mayTake
  cases hpart : s.part with
  | unplanned => simp
  | quiescing => simp
  | planned =>
    simp only [Bool.and_eq_true, toList_all_iff, isFree_iff, decide_eq_true_eq,
      Option.isNone_iff_eq_none, Bool.not_eq_true', blanking_iff, reduceCtorEq, false_or, true_and,
      and_assoc]

theorem endValidation_eq (s : State) (a : Answer) : s.endValidation a =
    ((State.applyOutcome { s with validator := {
      inFlight := false, pending := s.validator.pending, count := s.validator.count + 1#16 } } a
        (s.outcomeOf a)).statusWrite (s.outcomeOf a)).restartValidation := rfl

/-- A validation that does not take its record writes its status, and starts the next where an event is
pending (R2, R6). -/
theorem endValidation_untaken {s : State} {a : Answer} {o : PlanOutcome} (h : s.outcomeOf a = o)
    (ho : o ≠ .taken) : s.endValidation a = (State.statusWrite { s with validator := {
      inFlight := false, pending := s.validator.pending, count := s.validator.count + 1#16 } }
        o).restartValidation := by
  rw [endValidation_eq, h]
  have happly : ∀ u : State, u.applyOutcome a o = u := fun u => by
    unfold State.applyOutcome
    split
    · exact absurd rfl ho
    · rfl
  rw [happly]

theorem restartValidation_idle {s : State} (h : s.validator.pending = false) :
    s.restartValidation = s := by
  unfold State.restartValidation
  rw [h]
  rfl

theorem restartValidation_pending {s : State} (h : s.validator.pending = true) :
    s.restartValidation = State.place
      { s with validator := { s.validator with inFlight := true, pending := false } }
      .validator false [selfRead (s.anchorSel.toNat * 4194304) 16 .anchorRead] := by
  unfold State.restartValidation
  rw [h]
  exact startValidation_eq _

/-- The outcome of an answer that does not lead to a taking (R3, R4). -/
theorem outcomeOf_untaken {s : State} {a : Answer} {o : PlanOutcome}
    (h : a = .fault ∧ o = .fault ∨ ∃ ws, a = .ok ws ∧ ws.length = 16
      ∧ ((planFields ws).check s.anchorByte = some o
        ∨ (planFields ws).check s.anchorByte = none ∧ s.mayTake = false ∧ o = .busy)) :
    s.outcomeOf a = o ∧ o ≠ .taken := by
  rcases h with ⟨rfl, rfl⟩ | ⟨ws, rfl, -, hcheck | ⟨hcheck, htake, rfl⟩⟩
  · exact ⟨rfl, by simp⟩
  · exact ⟨by simp only [State.outcomeOf, hcheck], check_ne_taken hcheck⟩
  · exact ⟨by simp [State.outcomeOf, hcheck, htake], by simp⟩

/-- Settles O27: a validation that ends untaken leaves the tables to its status write. -/
theorem validationsRun : Obligations.ValidationsRun := by
  refine ⟨fun s t i r a h => ?_, mayTake_iff, by decide, fun s t i r ans o hself hread hlen hout => ?_⟩
  · have hevent : exec (.signatureWrite t i) s =
        .next ((s.afterWrite t i a).signatureEvent).settle := by
      show Host.Outcome.next ((s.atInstant t).answerSignature i).settle = _
      rw [State.answerSignature, awaitedWatch_of_writeAt h t, if_pos rfl, answerOk_of_writeAt h t]
      rfl
    rw [hevent]
    exact ⟨fun hidle => congrArg (fun u => Host.Outcome.next (State.settle u))
        (signatureEvent_idle (s := s.afterWrite t i a) hidle),
      fun hbusy => congrArg (fun u => Host.Outcome.next (State.settle u))
        (signatureEvent_busy (s := s.afterWrite t i a) hbusy)⟩
  · intro n status
    have hfits : r.fits ans = true := by
      rcases hout with ⟨rfl, -⟩ | ⟨ws, rfl, hws, -⟩
      · rfl
      · exact fits_ok_of_read hread (hws.trans hlen.symm)
    have hout' := outcomeOf_untaken (s := s.afterAnswer t i) hout
    have hend : exec (.anchorSelfReadReturn t ans) s = .next (State.statusWrite
        { s.afterAnswer t i with validator := {
          inFlight := false, pending := s.validator.pending, count := n } } o).restartValidation.settle := by
      show Host.Outcome.next ((s.atInstant t).answerSelf .anchorRead ans).settle = _
      rw [answerSelf_of_selfAt hself t hfits]
      exact congrArg (fun u => Host.Outcome.next (State.settle u))
        (endValidation_untaken hout'.1 hout'.2)
    refine ⟨fun hp => ?_, fun hp => ⟨_, rfl, ?_⟩⟩
    · rw [hend, restartValidation_idle (by exact hp), statusWrite_eq, hp]
      rfl
    · rw [hend, restartValidation_pending (by exact hp), statusWrite_eq, hp]
      rfl

end Sys2Proof.Validations

namespace Sys2Proof.Taking

open Sys2Proof Sys2Proof.Machine Sys2Proof.Laws Sys2Proof.Answers Sys2Proof.Pairs
open Sys2Proof.Validations

/-! ## The taking of a plan (R5, R6) -/

/-- A count write is no event any more (R165, R169). -/
theorem voidCount_count {a : Accepted} {v : Half}
    (h : a.watch = some (.orderCount v) ∨ a.watch = some (.completionCount v)) :
    a.voidCount = { a with watch := none } := by
  unfold Accepted.voidCount
  rcases h with h | h <;> rw [h]

/-- Every other request stays as it is (log 39). -/
theorem voidCount_other {a : Accepted}
    (h : a.watch = none ∨ a.watch = some .signature ∨ ∃ m, a.watch = some (.mailbox m)) :
    a.voidCount = a := by
  unfold Accepted.voidCount
  rcases h with h | h | ⟨m, h⟩ <;> rw [h]

theorem awaiting_voidCount_forwarded {w : Awaiting} {a : Accepted} (h : w.src = .forwarded a) :
    w.voidCount = { w with src := .forwarded a.voidCount } := by
  unfold Awaiting.voidCount
  rw [h]

theorem awaiting_voidCount_other {w : Awaiting} (h : ∀ a, w.src ≠ .forwarded a) :
    w.voidCount = w := by
  unfold Awaiting.voidCount
  split
  · rename_i a ha; exact absurd ha (h a)
  · rfl
  · rfl

theorem makeControls_eq (es : List EpNo) (s : State) : s.makeControls es =
    es.foldl (fun x e => (x.setEp e { x.endpoints[e] with role := .control }).deadmit e .role)
      s := by
  induction es generalizing s with
  | nil => rfl
  | cons e es ih => exact ih _

theorem makeControls_only (es : List EpNo) (s : State) : AdmissionOnly s (s.makeControls es) := by
  induction es generalizing s with
  | nil => exact AdmissionOnly.refl s
  | cons e es ih =>
    exact ((setEp_admissionOnly s e _).trans (deadmit_only _ e .role)).trans (ih _)

theorem demoted_eq (e : EndpointRec) :
    e.demoted = { e with role := if e.role = .control then .unused else e.role } := by
  obtain ⟨role⟩ := e
  cases role <;> rfl

/-- No reservation is left, and no holder's field (R5). -/
theorem emptyMonitor_only (s : State) :
    s.emptyMonitor = { s with monitor := [], endpoints := s.emptyMonitor.endpoints } := by
  obtain ⟨-, -, h⟩ := removeReservations_spec s fun _ => true
  unfold State.emptyMonitor
  rw [h]
  simp

theorem emptyMonitor_endpoint (s : State) (e : EpNo) :
    s.emptyMonitor.endpoints[e] = { s.endpoints[e] with
      reservation := if ∃ x ∈ s.monitor, x.ep = e then none else s.endpoints[e].reservation } := by
  obtain ⟨-, h, -⟩ := removeReservations_spec s fun _ => true
  unfold State.emptyMonitor
  rw [h e]
  simp only [List.filter_true, List.mem_map]
  split
  · rfl
  · rfl

theorem taking_eq (x : Timer) (p : Plan) (now : Instant) : x.taking p now =
    { source := p.source, period := p.period,
      state := if p.source = .internal then .internal else .externalLocked, running := true,
      nextExpiry := some (now +
        (if p.source = .internal then p.period * 1000 else 3 * (p.period * 1000) / 2)),
      lastTick := now, counter := 0#32, slips := 0, pass := none, pendingTick := none,
      change := x.change } := by
  unfold Timer.taking
  cases h : p.source <;> rfl

/-- The state in which a record has been judged, before its plan is taken. -/
def judgedState (s : State) (t : Instant) (i : Nat) : State :=
  { s.afterAnswer t i with validator := {
    inFlight := false, pending := s.validator.pending, count := s.validator.count + 1#16 } }

/-- A valid record read while the taking condition holds is taken (R4, R5). -/
theorem anchorReturn_taken {s : State} {i : Nat} {r : DsRequest} {ws : List Word}
    (hself : s.SelfAt i r .anchorRead) (hfits : r.fits (.ok ws) = true)
    (hcheck : (planFields ws).check s.anchorByte = none) (htake : s.mayTake = true) (t : Instant) :
    exec (.anchorSelfReadReturn t (.ok ws)) s =
      .next ((((judgedState s t i).takePlan (planFields ws).plan).statusWrite
        .taken).restartValidation).settle := by
  have hout : (s.afterAnswer t i).outcomeOf (.ok ws) = .taken := by
    have hcheck' : (planFields ws).check (s.afterAnswer t i).anchorByte = none := hcheck
    have htake' : (s.afterAnswer t i).mayTake = true := htake
    simp only [State.outcomeOf, hcheck', htake', if_true]
  show Host.Outcome.next ((s.atInstant t).answerSelf .anchorRead (.ok ws)).settle = _
  rw [answerSelf_of_selfAt hself t hfits]
  show Host.Outcome.next ((s.afterAnswer t i).endValidation (.ok ws)).settle = _
  rw [endValidation_eq, hout]
  rfl

/-- Settles O28: the taking is the emptied monitor's state, then the delivery, then the new roles.
-/
theorem planTaken : Obligations.PlanTaken := by
  refine ⟨fun a => ⟨fun v => voidCount_count, voidCount_other⟩,
    fun w => ⟨fun a => awaiting_voidCount_forwarded, awaiting_voidCount_other⟩,
    fun s t i r ws p hself hread hlen hws hcheck htake hplan => ?_⟩
  intro n anchor
  subst hplan
  generalize hp : (planFields ws).plan = p
  have hexec := anchorReturn_taken hself (fits_ok_of_read hread (hws.trans hlen.symm)) hcheck htake t
  have hw := emptyMonitor_only (takenState (judgedState s t i) p)
  have hep := emptyMonitor_endpoint (takenState (judgedState s t i) p)
  have hv : AdmissionOnly (takenState (judgedState s t i) p).emptyMonitor
      ((judgedState s t i).takePlan p) :=
    (deliver_only _).admissionOnly.trans (makeControls_only _ _)
  have htables := takePlan_eq (judgedState s t i) p
  rw [makeControls_eq] at htables
  rw [hp] at hexec
  generalize (judgedState s t i).takePlan p = v at hexec hv htables
  generalize (takenState (judgedState s t i) p).emptyMonitor = w at hw hep hv htables
  have hsel : v.anchorSel = s.anchorSel := by rw [hv, hw]; rfl
  have hval : v.validator = { inFlight := false, pending := s.validator.pending, count := n } := by
    rw [hv, hw]; rfl
  have hstatus : v.statusWrite .taken = v.place .validator false
      [selfWrite anchor [wordOfBytes 1#8 0#8 (loByte n) (hiByte n)] .planStatus] := by
    rw [statusWrite_eq, hsel, hval]; rfl
  refine ⟨_, v, w, hexec, htables, fun hpend => ?_, fun hpend => ⟨_, rfl, ?_⟩, by rw [hw]; rfl,
    by rw [hw]; rfl, by rw [hw]; rfl, fun e => ?_, fun d => ?_, by rw [hw], by rw [hw]; rfl, ?_,
    by rw [hw]; rfl, by rw [hw]; rfl, by rw [hw]; rfl⟩
  · rw [hstatus]
    refine restartValidation_idle ?_
    show v.validator.pending = false
    rw [hval]
    exact hpend
  · rw [hstatus]
    have hpend' : (v.place .validator false
        [selfWrite anchor [wordOfBytes 1#8 0#8 (loByte n) (hiByte n)] .planStatus]).validator.pending
          = true := by
      show v.validator.pending = true
      rw [hval]
      exact hpend
    rw [restartValidation_pending hpend']
    show State.place { v.place .validator false _ with validator :=
      { v.validator with inFlight := true, pending := false } } .validator false
        [selfRead (v.anchorSel.toNat * 4194304) 16 .anchorRead] = _
    rw [hval, hsel]
  · have hdem : (takenState (judgedState s t i) p).endpoints[e] = s.endpoints[e].demoted :=
      mapTab_get _ _ e
    rw [hep, hdem, demoted_eq]
    rfl
  · rw [hw]
    exact mapTab_get _ _ d
  · rw [hw]
    exact taking_eq _ p _

end Sys2Proof.Taking

namespace Sys2Proof.Draining

open Sys2Proof Sys2Proof.Machine Sys2Proof.Laws Sys2Proof.Answers Sys2Proof.Pairs
open Sys2Proof.Steps Sys2Proof.Restart Sys2Proof.Validations

/-! ## The end of draining (R10) -/

theorem room_iff (g : Engine) :
    g.room = true ↔ (g.completionProducer - g.completionConsumer).toNat < 64 :=
  decide_eq_true_iff

/-- Draining has ended, and the RESTART completion has room and no notice before it (R10). -/
theorem draining_ended_iff (s : State) :
    (decide (s.part = .quiescing) && s.drained && s.engine.backlog.isEmpty && s.engine.room) = true ↔
      s.part = .quiescing ∧ (∀ c : CallNo, s.calls[c].state = .free)
      ∧ (∀ l : LaneNo, s.lanes[l].state ≠ .expanding)
      ∧ (∀ m : MboxNo, s.mailboxes[m].selfRead = false ∧ s.mailboxes[m].inFlight = none)
      ∧ s.engine.backlog = []
      ∧ (s.engine.completionProducer - s.engine.completionConsumer).toNat < 64 := by
  simp only [State.drained, room_iff, Bool.and_eq_true,
    toList_all_iff, isFree_iff, decide_eq_true_eq, Option.isNone_iff_eq_none, Bool.not_eq_true',
    List.isEmpty_iff, and_assoc]

theorem endDraining_of_restart {s : State} {q : Half}
    (h : s.engine.inExec = some { seq := q, phase := .restart false }) :
    s.endDraining = if decide (s.part = .quiescing) && s.drained && s.engine.backlog.isEmpty
        && s.engine.room then
      (s.setEngine { s.engine with
        inExec := some { seq := q, phase := .restart true } }).writeCompletion .engine false
          (orderCompletion q .done .none []) true
    else s := by
  unfold State.endDraining
  split
  · rename_i q' hq'
    obtain rfl : q = q' := by simpa [h] using hq'
    rfl
  all_goals simp_all

/-! ## The part state through an event's work (log 7) -/

theorem endClose_part (s : State) (c : CallNo) : (s.endClose c).part = s.part := by
  unfold State.endClose
  split
  · rw [freeCall_eq, releaseLane_only, emptiedState_only]
    exact (writeAll_frame s _).part
  · rfl

theorem endCloses_part (cs : List CallNo) (s : State) : (s.endCloses cs).part = s.part := by
  induction cs generalizing s with
  | nil => rfl
  | cons c cs ih => exact (ih _).trans (endClose_part s c)

theorem endDraining_part (s : State) : s.endDraining.part = s.part := by
  obtain ⟨g, q, w, h⟩ := endDraining_only s
  rw [h]

theorem settleRings_part (s : State) : s.settleRings.part = s.part := by
  unfold State.settleRings
  have hwritten := ((placeWaiting_frame s).trans (deliver_frame _)).trans (writeHeld_frame _)
  exact (endPass_frame _).part.trans ((startFetch_frame _).part.trans ((endDraining_part _).trans
    ((writeTimingDone_frame _).part.trans ((endCloses_part _ _).trans hwritten.part))))

theorem settleLanes_part (s : State) : s.settleLanes.part = s.part :=
  ((((retestArrival_frame s).trans (voiceUpkeep_frame _)).trans (grantAll_frame _)).trans
    (retestArrival_frame _)).part

/-- In UNPLANNED there is no ALERT after an event (R173). -/
theorem settle_alert_of_unplanned {s : State} (h : s.part = .unplanned) : s.settle.alert = false := by
  have hpart : s.settleRings.settleLanes.part = .unplanned :=
    (settleLanes_part _).trans ((settleRings_part s).trans h)
  simp only [State.settle, State.alertLevel, State.hasPlan, hpart, Bool.false_and]

/-! ## The entry to UNPLANNED (R10) -/

/-- Settles O49: the end of draining by its condition, the entry to UNPLANNED by its table updates.
-/
theorem drainingEnds : Obligations.DrainingEnds := by
  refine ⟨fun s t q hexec => ?_, fun s t i r k a hidx hawait hwrite ha => ?_, fun s t a hidx => ?_⟩
  · intro ended
    have hend := endDraining_of_restart (s := s.atInstant t) hexec
    have hiff := draining_ended_iff (s.atInstant t)
    refine ⟨fun h => ?_, fun h => ?_⟩
    · rw [if_pos (hiff.2 h)] at hend
      exact congrArg (fun u => Host.Outcome.next (State.settle u)) hend
    · rw [if_neg fun h' => h (hiff.1 h')] at hend
      exact congrArg (fun u => Host.Outcome.next (State.settle u)) hend
  · have hfits : r.fits a = true := by
      rcases ha with rfl | rfl
      · exact fits_ok_of_write (by rw [hwrite]; rfl)
      · rfl
    have hanswer : (s.atInstant t).answerAt i a = (s.afterAnswer t i).enterUnplanned :=
      answerAt_self hawait t hfits
    refine ⟨(s.afterAnswer t i).enterUnplanned, ?_, ?_, rfl, rfl, fun e => ?_, fun d => ?_, rfl, rfl,
      rfl, settle_alert_of_unplanned rfl, rfl⟩
    · have hidx' : (s.atInstant t).awaitingIdx Awaiting.isRestartEntry = some i := hidx
      show Host.Outcome.next ((s.atInstant t).answerRestart a).settle = _
      rw [State.answerRestart, hidx']
      exact congrArg (fun u => Host.Outcome.next (State.settle u)) hanswer
    · exact congrArg (fun u => Host.Outcome.next (State.settle u)) hanswer
    · exact mapTab_get _ _ e
    · exact mapTab_get _ _ d
  · have hidx' : (s.atInstant t).awaitingIdx Awaiting.isRestartEntry = none := hidx
    show Host.Outcome.next ((s.atInstant t).answerRestart a).settle = _
    rw [State.answerRestart, hidx']

end Sys2Proof.Draining

namespace Sys2Proof.Bounds

open Sys2Proof Sys2Proof.Machine Sys2Proof.Laws Sys2Proof.Pairs

/-! ## The bounds of the tables and queues, and the operations that keep them -/

/-- Each bound of the part's tables and queues holds afterwards where it held before. -/
structure Within (s u : State) : Prop where
  port : s.PortBounded → u.PortBounded
  selfQ : s.SelfQueueBounded → u.SelfQueueBounded
  starts : s.StartsBounded → u.StartsBounded
  calls : s.CallsBounded → u.CallsBounded
  fails : s.FailsBounded → u.FailsBounded
  backlog : s.BacklogDistinct → u.BacklogDistinct
  completions : s.CompletionsBounded → u.CompletionsBounded
  responses : s.ResponsesDistinct → u.ResponsesDistinct

theorem Within.refl (s : State) : Within s s := ⟨id, id, id, id, id, id, id, id⟩

theorem Within.trans {s u v : State} (h : Within s u) (k : Within u v) : Within s v :=
  ⟨k.port ∘ h.port, k.selfQ ∘ h.selfQ, k.starts ∘ h.starts, k.calls ∘ h.calls, k.fails ∘ h.fails,
    k.backlog ∘ h.backlog, k.completions ∘ h.completions, k.responses ∘ h.responses⟩

/-- The counts and lists of a call record are within R99's bounds. -/
def CallWithin (x : Call) : Prop := x.debt ≤ 8 ∧ x.switches.length ≤ 2 ∧ x.members.length ≤ 4

/-- The port's tables have not grown: requests wait in the arrival stage and the hold queue, or have
left them; requests leave the response order table alone; and the self-traffic queue has kept to its
places. -/
structure PortWithin (p q : Port) : Prop where
  waiting : q.hold.length + q.arrival.toList.length ≤ p.hold.length + p.arrival.toList.length := by
    exact le_rfl
  responses : (q.responses.map RespEntry.id).Sublist (p.responses.map RespEntry.id) := by
    exact List.Sublist.refl _
  nextId : p.nextId ≤ q.nextId := by exact le_rfl
  xforms : q.xforms.length ≤ p.xforms.length := by exact le_rfl
  runCount : q.runCount ≤ p.runCount := by exact le_rfl
  selfQ : p.selfQ.length ≤ 8 → q.selfQ.length ≤ 8 := by exact fun h => h

section

variable (s : State)

/-! ### Updates of one record -/

theorem atInstant_within (t : Instant) : Within s (s.atInstant t) := { Within.refl s with }

theorem setTimer_within (x : Timer) : Within s (s.setTimer x) := { Within.refl s with }

theorem setWaiting_within (w : List ActRequest) : Within s (s.setWaiting w) :=
  { Within.refl s with }

theorem setLane_within (l : LaneNo) (x : Lane) : Within s (s.setLane l x) := { Within.refl s with }

theorem setRing_within (r : RingNo) (x : Ring) : Within s (s.setRing r x) := { Within.refl s with }

theorem setEp_within (e : EpNo) (x : EndpointRec) : Within s (s.setEp e x) :=
  { Within.refl s with }

theorem setMbox_within (m : MboxNo) (x : Mbox) : Within s (s.setMbox m x) := { Within.refl s with }

theorem setAlert_within (b : Bool) : Within s { s with alert := b } := { Within.refl s with }

theorem setValidator_within (v : Validator) : Within s { s with validator := v } :=
  { Within.refl s with }

theorem setMonitor_within (l : List Reservation) : Within s { s with monitor := l } :=
  { Within.refl s with }

theorem setCall_within (c : CallNo) (x : Call)
    (h : CallWithin s.calls[c] → CallWithin x := by exact id) : Within s (s.setCall c x) :=
  { Within.refl s with
    calls := fun hs c' => by
      rw [setCall_get]
      split
      · exact h (hs c)
      · exact hs c' }

theorem setEntry_within (d : EntryNo) (x : DirEntry)
    (h : s.directory[d].fails ≤ 2 → x.fails ≤ 2 := by exact id) : Within s (s.setEntry d x) :=
  { Within.refl s with
    fails := fun hs d' => by
      rw [setEntry_get]
      split
      · exact h (hs d)
      · exact hs d' }

theorem mapDirectory_within (f : DirEntry → DirEntry) (h : ∀ d, (f d).fails ≤ d.fails) :
    Within s { s with directory := mapTab f s.directory } :=
  { Within.refl s with
    fails := fun hs d => by
      show (mapTab f s.directory)[d].fails ≤ 2
      rw [mapTab_get]
      exact (h _).trans (hs d) }

theorem setPort_within (p : Port) (h : PortWithin s.port p) : Within s (s.setPort p) :=
  { Within.refl s with
    port := fun ⟨hwait, hresp, hxform, hrun⟩ => ⟨h.waiting.trans hwait,
      by simpa using h.responses.length_le.trans (by simpa using hresp), h.xforms.trans hxform,
      h.runCount.trans hrun⟩
    selfQ := h.selfQ
    responses := fun ⟨hnodup, hlt⟩ => ⟨hnodup.sublist h.responses, fun x hx => by
      obtain ⟨y, hy, hyx⟩ := List.mem_map.1 (h.responses.subset (List.mem_map_of_mem hx))
      exact hyx ▸ (hlt y hy).trans_le h.nextId⟩ }

/-- The engine's record with the completion counts as they were and no notice added. -/
theorem setEngine_within (g : Engine)
    (hbacklog : g.backlog.Sublist s.engine.backlog := by exact List.Sublist.refl _)
    (hproducer : g.completionProducer = s.engine.completionProducer := by rfl)
    (hconsumer : g.completionConsumer = s.engine.completionConsumer := by rfl) :
    Within s (s.setEngine g) :=
  { Within.refl s with
    backlog := fun hs => List.Nodup.sublist (hbacklog.map Notice.kind) hs
    completions := fun hs => by
      show (g.completionProducer - g.completionConsumer).toNat ≤ 64
      rw [hproducer, hconsumer]
      exact hs }

/-! ### Self traffic, completions and notices -/

theorem fits_iff (p : Port) (n : Nat) : p.fits n = true ↔ p.selfQ.length + n ≤ 8 :=
  decide_eq_true_iff

theorem place_within (b : Block) (p : Bool) (es : List SelfEntry) : Within s (s.place b p es) := by
  rw [place_eq]
  split
  · rename_i h
    have hfits := (fits_iff _ _).1 (Bool.and_eq_true_iff.1 h).2
    exact setPort_within s _ { selfQ := fun _ => by simpa using hfits }
  · exact setPort_within s _ {}

/-- A completion is written into a ring that has room. -/
theorem writeCompletion_within (b : Block) (p : Bool) (c : Completion) (r : Bool)
    (h : s.engine.room = true) : Within s (s.writeCompletion b p c r) := by
  rw [writeCompletion_eq]
  refine Within.trans ?_ (place_within _ b p _)
  refine { Within.refl s with completions := fun _ => ?_ }
  have hroom := (Draining.room_iff _).1 h
  show (s.engine.completionProducer + 1#16 - s.engine.completionConsumer).toNat ≤ 64
  bv_omega

/-- Completions are written one after another into a ring that has room for all of them. -/
theorem writeAll_within (cs : List Completion) (s : State)
    (h : s.engine.used + cs.length ≤ 64) : Within s (s.writeAll cs) := by
  induction cs generalizing s with
  | nil => exact Within.refl s
  | cons c cs ih =>
    simp only [Engine.used, List.length_cons] at h
    refine (writeCompletion_within s .callLogic false c false
      ((Draining.room_iff _).2 (by omega))).trans
      (ih _ ?_)
    simp only [writeCompletion_engine, Engine.used]
    bv_omega

theorem deliverN_within (n : Nat) (s : State) : Within s (State.deliverN n s) := by
  induction n generalizing s with
  | zero => exact Within.refl s
  | succ n ih =>
    unfold State.deliverN
    split
    · exact Within.refl s
    · rename_i x rest hbacklog
      split
      · rename_i hroom
        have hrest : rest.Sublist s.engine.backlog := hbacklog ▸ List.sublist_cons_self x rest
        exact ((setEngine_within s { s.engine with backlog := rest } hrest).trans
          (writeCompletion_within _ _ _ _ _ hroom)).trans (ih _)
      · exact Within.refl s

theorem deliver_within : Within s s.deliver := deliverN_within _ s

/-- A notice merges with the one of its kind, or is the only one of its kind (R171). -/
theorem addNotice_kinds (n : Notice) (l : List Notice) : (addNotice n l).map Notice.kind =
    if n.kind ∈ l.map Notice.kind then l.map Notice.kind else l.map Notice.kind ++ [n.kind] := by
  induction l with
  | nil => rfl
  | cons b bs ih =>
    unfold addNotice
    split
    · rename_i h
      simp [h]
    · rename_i h
      simp only [List.map_cons, ih, List.mem_cons, Ne.symm h, false_or]
      split <;> rfl

theorem addNotice_distinct (n : Notice) {l : List Notice} (h : (l.map Notice.kind).Nodup) :
    ((addNotice n l).map Notice.kind).Nodup := by
  rw [addNotice_kinds]
  split
  · exact h
  · rename_i hn
    exact List.nodup_append.2 ⟨h, List.nodup_singleton _, fun a ha b hb => by
      rw [List.mem_singleton.1 hb]
      rintro rfl
      exact hn ha⟩

theorem raise_within (k : CompKind) (x : CompSubject) (d : List Byte) :
    Within s (s.raise k x d) := by
  unfold State.raise
  split
  · refine Within.trans (u := s.setEngine { s.engine with
      backlog := addNotice { kind := k, subject := x, data := d, repeats := 1 } s.engine.backlog })
        ?_ (deliver_within _)
    exact { Within.refl s with backlog := addNotice_distinct _ }
  · exact Within.refl s

theorem endExecution_within : Within s s.endExecution := setEngine_within s _

theorem finish_within (c : Completion) : Within s (s.finish c) := by
  rw [finish_eq]
  split
  · rename_i h
    exact (endExecution_within s).trans
      (writeCompletion_within _ _ _ _ _ (Bool.and_eq_true_iff.1 h).1)
  · exact setEngine_within s _

theorem writeHeld_within : Within s s.writeHeld := by
  unfold State.writeHeld
  split
  · exact Within.refl s
  · split
    · rename_i h
      exact (setEngine_within s { s.engine with held := none }).trans
        (writeCompletion_within _ _ _ _ _ (Bool.and_eq_true_iff.1 h).1)
    · exact Within.refl s

theorem startFetch_within : Within s s.startFetch := by
  unfold State.startFetch
  split
  · exact (setEngine_within s _).trans (place_within _ _ _ _)
  · exact Within.refl s

theorem endDraining_within : Within s s.endDraining := by
  unfold State.endDraining
  split
  · rename_i q _
    split
    · rename_i h
      exact (setEngine_within s { s.engine with
        inExec := some { seq := q, phase := .restart true } }).trans
          (writeCompletion_within _ _ _ _ _ (Bool.and_eq_true_iff.1 h).2)
    · exact Within.refl s
  all_goals exact Within.refl s

theorem countConsumed_within : Within s s.countConsumed :=
  (setEngine_within s _).trans (place_within _ _ _ _)

/-! ### Reports and the self-traffic queue -/

theorem placeReportN_within (n : Nat) (s : State) : Within s (State.placeReportN n s) := by
  induction n generalizing s with
  | zero => exact Within.refl s
  | succ n ih =>
    unfold State.placeReportN
    split
    · rename_i q job _
      split
      · split
        · rename_i h
          have hfits := (fits_iff _ _).1 (Bool.and_eq_true_iff.1 h).2
          have hplaced := setPort_within s { s.port with
            selfQ := s.port.selfQ ++ [s.reportEntry job job.placed] }
              { selfQ := fun _ => by simpa using hfits }
          exact (hplaced.trans (setEngine_within _ _)).trans (ih _)
        · exact setPort_within s _ {}
      · exact Within.refl s
    all_goals exact Within.refl s

theorem placeReport_within : Within s s.placeReport := placeReportN_within _ s

theorem placeWaitingN_within (n : Nat) (s : State) : Within s (State.placeWaitingN n s) := by
  induction n generalizing s with
  | zero => exact Within.refl s
  | succ n ih =>
    have hdrop : ∀ rest, Within s (s.setPort { s.port with waiters := rest }) :=
      fun _ => setPort_within s _ {}
    unfold State.placeWaitingN
    split
    · exact Within.refl s
    · split
      · rename_i h
        have hfits := (fits_iff _ _).1 h
        exact (setPort_within s _ { selfQ := fun _ => by simpa using hfits }).trans (ih _)
      · exact Within.refl s
    · rename_i rest _
      split
      · rename_i h
        have hfits := (fits_iff _ _).1 h
        split
        · rename_i q job _
          have hplaced := setPort_within s { s.port with
            selfQ := s.port.selfQ ++ [s.reportEntry job job.placed], waiters := rest }
              { selfQ := fun _ => by simpa using hfits }
          exact ((hplaced.trans (setEngine_within _ _)).trans (placeReport_within _)).trans (ih _)
        all_goals exact (hdrop rest).trans (ih _)
      · exact Within.refl s

theorem placeWaiting_within : Within s s.placeWaiting := placeWaitingN_within _ s

theorem finishReport_within : Within s s.finishReport := by
  unfold State.finishReport
  split
  · split
    · exact finish_within s _
    · exact Within.refl s
  all_goals exact Within.refl s

theorem reportAnswer_within (f : Bool) : Within s (s.reportAnswer f) := by
  unfold State.reportAnswer
  split
  · exact (setEngine_within s _).trans (finishReport_within _)
  all_goals exact Within.refl s

theorem doReport_within (seq : Half) (code : Byte) (first count buffer : Nat) :
    Within s (s.doReport seq code first count buffer) := by
  unfold State.doReport
  split
  · exact finish_within s _
  · split
    · exact (setEngine_within s _).trans (placeReport_within _)
    · exact finish_within s _

theorem writeTimingDone_within : Within s s.writeTimingDone := by
  unfold State.writeTimingDone
  split
  · split
    · rename_i h
      exact (setTimer_within s _).trans (writeCompletion_within _ _ _ _ _ h)
    · exact Within.refl s
  all_goals exact Within.refl s

theorem doSetTiming_within (seq : Half) (code : Byte) (period : Nat) :
    Within s (s.doSetTiming seq code period) := by
  unfold State.doSetTiming
  split
  · exact finish_within s _
  · split
    · exact finish_within s _
    · split
      · exact (setTimer_within s _).trans (endExecution_within _)
      all_goals exact finish_within s _

end

end Sys2Proof.Bounds

namespace Sys2Proof.Bounds

open Sys2Proof Sys2Proof.Machine Sys2Proof.Laws Sys2Proof.Pairs

section

variable (s : State)

/-! ## Passing traffic (chapter 2) -/

theorem clearFields_within (l : List Reservation) (s : State) : Within s (s.clearFields l) := by
  induction l generalizing s with
  | nil => exact Within.refl s
  | cons r rs ih => exact (setEp_within s r.ep _).trans (ih _)

theorem removeReservations_within (p : Reservation → Bool) :
    Within s (s.removeReservations p) :=
  (setMonitor_within s _).trans (clearFields_within _ _)

theorem reserve_within (e : EpNo) (w : Nat) : Within s (s.reserve e w) := by
  have hset : ∀ u : State, Within u (State.setEp { u with
      monitor := u.monitor ++ [{ ep := e, word := w }] } e
        { u.endpoints[e] with reservation := some w }) := fun u =>
    (setMonitor_within u _).trans (setEp_within _ e _)
  have hown := removeReservations_within s fun r => decide (r.ep = e)
  unfold State.reserve
  dsimp only
  split
  · exact hown.trans (hset _)
  · split
    · exact hown.trans (hset _)
    · exact ((hown.trans (setMonitor_within _ _)).trans (setEp_within _ _ _)).trans (hset _)

theorem decideResponse_ids (id : Nat) (r : Response) (es : List RespEntry) :
    (decideResponse id r es).map RespEntry.id = es.map RespEntry.id := by
  unfold decideResponse
  rw [List.map_map]
  refine List.map_congr_left fun e _ => ?_
  dsimp only [Function.comp_apply]
  split <;> rfl

theorem respond_within (id : Nat) (r : Response) : Within s (s.respond id r) :=
  setPort_within s _ { responses := by rw [decideResponse_ids] }

theorem refuse_within (a : Accepted) (v : Violation) : Within s (s.refuse a v) :=
  (setEp_within s _ _).trans (respond_within _ _ _)

/-- A request takes a new place in the response order table, which has one free, under a number
not yet given (R18, R19). -/
theorem enrol_within (e : EpNo) (h : s.port.responses.length < 32) : Within s (s.enrol e) :=
  { Within.refl s with
    port := fun ⟨hwait, _, hxform, hrun⟩ => ⟨hwait, by
      show (s.port.responses ++ [_]).length ≤ 32
      rw [List.length_append, List.length_singleton]
      exact h, hxform, hrun⟩
    responses := fun ⟨hnodup, hlt⟩ => by
      refine ⟨?_, fun x hx => ?_⟩
      · show ((s.port.responses ++ [_]).map RespEntry.id).Nodup
        rw [List.map_append]
        refine List.nodup_append.2 ⟨hnodup, List.nodup_singleton _, fun a ha b hb => ?_⟩
        obtain ⟨x, hx, rfl⟩ := List.mem_map.1 ha
        rw [List.mem_singleton.1 hb]
        exact (hlt x hx).ne
      · show x.id < s.port.nextId + 1
        rcases List.mem_append.1 hx with hx | hx
        · exact Nat.lt_succ_of_lt (hlt x hx)
        · rw [List.mem_singleton.1 hx]
          exact Nat.lt_succ_self _ }

/-- A request stands in the arrival stage, which was empty, with a place left in the hold
queue (R18). -/
theorem arrive_within (a : Accepted) (h : s.port.hold.length < 16) : Within s (s.arrive a) := by
  unfold State.arrive
  split
  · exact refuse_within s a _
  · exact { Within.refl s with
      port := fun ⟨_, hresp, hxform, hrun⟩ => ⟨by
        show s.port.hold.length + 1 ≤ 16
        exact h, hresp, hxform, hrun⟩ }

theorem accepts_iff : s.accepts = true ↔ s.resetLow = false ∧ s.port.arrival = none
    ∧ s.port.hold.length < 16 ∧ s.port.responses.length < 32 := by
  simp only [State.accepts, Bool.and_eq_true, Bool.not_eq_true', Option.isNone_iff_eq_none,
    decide_eq_true_eq, and_assoc]
  exact Iff.rfl

theorem offer_within (r : Request) : Within s (s.offer r) := by
  unfold State.offer
  split
  · rename_i h
    obtain ⟨-, -, hhold, hresp⟩ := (accepts_iff s).1 (Bool.and_eq_true_iff.1 h).1
    exact (enrol_within s r.ep hresp).trans (arrive_within _ _ hhold)
  · exact Within.refl s

theorem returnResponse_within (e : EpNo) : Within s (s.returnResponse e) := by
  unfold State.returnResponse
  split
  · exact Within.refl s
  · split
    · exact Within.refl s
    · exact setPort_within s _ { responses := List.filter_sublist.map _ }

theorem optionFilter_length {α : Type} (p : α → Bool) (o : Option α) :
    (o.filter p).toList.length ≤ o.toList.length := by
  cases o with
  | none => exact le_rfl
  | some x => cases h : p x <;> simp [Option.filter, h]

theorem takeOut_within (a : Accepted) : Within s (s.takeOut a) :=
  setPort_within s _
    { waiting := Nat.add_le_add (List.length_filter_le _ _) (optionFilter_length _ _) }

theorem retestArrival_within : Within s s.retestArrival := by
  have hsame := congrArg List.length (retestArrival_hold s)
  simp only [List.length_append] at hsame
  rw [retestArrival_only]
  exact setPort_within s _ { waiting := hsame.le }

theorem send_within (r : DsRequest) (src : DsSource) : Within s (s.send r src) := by
  unfold State.send State.clearByWrite
  split
  · exact (removeReservations_within s _).trans (setPort_within _ _ {})
  · exact setPort_within s _ {}

theorem setRun_within (n : Nat) (h : n ≤ 3) : Within s (s.setRun n) :=
  { Within.refl s with port := fun ⟨hwait, hresp, hxform, _⟩ => ⟨hwait, hresp, hxform, h⟩ }

theorem recordMark_within (o : Option (MboxNo × Mark)) : Within s (s.recordMark o) := by
  unfold State.recordMark
  split
  · exact Within.refl s
  · exact setMbox_within s _ _

theorem monitorAt_within (a : Accepted) : Within s (s.monitorAt a) := by
  unfold State.monitorAt
  split
  · split
    · exact reserve_within s _ _
    · exact Within.refl s
  · exact removeReservations_within s _
  all_goals exact Within.refl s

theorem grantMailbox_within (a : Accepted) : Within s (s.grantMailbox a).1 := by
  have hmon := monitorAt_within s a
  unfold State.grantMailbox
  dsimp only
  split
  · exact hmon.trans (refuse_within _ _ _)
  · exact hmon.trans (respond_within _ _ _)
  · exact (hmon.trans (recordMark_within _ _)).trans (send_within _ _ _)

theorem grantForwarded_within (c : Candidate) : Within s (s.grantForwarded c).1 := by
  unfold State.grantForwarded
  split
  · dsimp only
    split
    · exact (takeOut_within s _).trans (grantMailbox_within _ _)
    · exact (takeOut_within s _).trans (send_within _ _ _)
  · exact (setPort_within s _ { xforms := (List.length_map _).le }).trans (send_within _ _ _)

theorem grantSelf_within : Within s s.grantSelf := by
  unfold State.grantSelf
  split
  · exact Within.refl s
  · rename_i e rest hq
    have hpop : PortWithin s.port { s.port with selfQ := rest } :=
      { selfQ := fun h => by rw [hq] at h; exact (Nat.le_succ _).trans h }
    exact ((setPort_within s _ hpop).trans (send_within _ _ _)).trans
      (setRun_within _ 0 (by decide))

/-- A grant to a forwarded candidate with self traffic waiting finds a run count below 3 (R34). -/
theorem grantDownN_within (n : Nat) (s : State) : Within s (s.grantDownN n) := by
  induction n generalizing s with
  | zero => exact Within.refl s
  | succ n ih =>
    unfold State.grantDownN
    dsimp only
    split
    · split
      · exact grantSelf_within s
      · exact Within.refl s
    · rename_i c _
      have hgrant := grantForwarded_within s c
      split
      · exact grantSelf_within s
      · rename_i hrun
        split
        · rename_i hu
          rw [hu] at hgrant
          refine hgrant.trans (setRun_within _ _ ?_)
          split
          · rename_i hwaits
            rw [hwaits, Bool.true_and] at hrun
            exact Nat.lt_of_not_le fun h => hrun (decide_eq_true h)
          · exact Nat.zero_le 3
        · rename_i hu
          rw [hu] at hgrant
          exact hgrant.trans (ih _)

theorem grantDown_within : Within s s.grantDown := by
  unfold State.grantDown
  split
  · exact Within.refl s
  · exact grantDownN_within _ s

/-! ## The transform unit (chapter 3) -/

/-- A request takes a free transform place (R28). -/
theorem addXform_within (a : Accepted) (c : Course) (ps : List Piece)
    (h : s.port.xforms.length < 4) : Within s (s.addXform a c ps) :=
  { Within.refl s with
    port := fun ⟨hwait, hresp, _, hrun⟩ => ⟨hwait, hresp, by
      show (s.port.xforms ++ [_]).length ≤ 4
      rw [List.length_append, List.length_singleton]
      exact h, hrun⟩ }

theorem raiseCounts_within (tk : Ticket) : Within s (s.raiseCounts tk) :=
  (setRing_within s tk.ring _).trans (setLane_within _ _ _)

theorem enterNonMember_within (a : Accepted) (h : s.port.xforms.length < 4) :
    Within s (s.enterNonMember a) := by
  unfold State.enterNonMember
  split
  · exact addXform_within s _ _ _ h
  all_goals exact refuse_within s _ _

theorem enterWrite_within (a : Accepted) (c : CallNo) (l : LaneNo)
    (h : s.port.xforms.length < 4) : Within s (s.enterWrite a c l) := by
  unfold State.enterWrite
  split
  · exact (refuse_within s _ _).trans (setLane_within _ _ _)
  · exact (addXform_within s _ _ _ h).trans (raiseCounts_within _ _)

theorem enterRead_within (a : Accepted) (c : CallNo) (l : LaneNo)
    (h : s.port.xforms.length < 4) : Within s (s.enterRead a c l) := by
  unfold State.enterRead
  dsimp only
  split
  · exact (respond_within s _ _).trans (setLane_within _ _ _)
  · exact (addXform_within s _ _ _ h).trans (raiseCounts_within _ _)

theorem enter_within (a : Accepted) (h : s.port.xforms.length < 4) : Within s (s.enter a) := by
  unfold State.enter
  split
  · exact refuse_within s _ _
  · split
    · exact enterNonMember_within s a h
    · split
      · exact Within.refl s
      · split
        · exact enterRead_within s _ _ _ h
        · exact enterWrite_within s _ _ _ h
        all_goals exact enterNonMember_within s a h

theorem nextEntry_room {a : Accepted} (h : s.nextEntry = some a) : s.port.xforms.length < 4 := by
  unfold State.nextEntry at h
  split at h
  · assumption
  · cases h

theorem transformNext_within : Within s s.transformNext := by
  unfold State.transformNext
  split
  · exact Within.refl s
  · rename_i a h
    exact (takeOut_within s a).trans (enter_within _ a (nextEntry_room s h))

theorem endRingDrain_within (r : RingNo) : Within s (s.endRingDrain r) := by
  unfold State.endRingDrain
  split
  · split
    · exact setRing_within s r _
    · exact Within.refl s
  all_goals exact Within.refl s

theorem leaveCounts_within (tk : Ticket) : Within s (s.leaveCounts tk) :=
  (((setRing_within s tk.ring _).trans (setLane_within _ tk.lane _)).trans
    (setLane_within _ tk.lane _)).trans (endRingDrain_within _ _)

theorem fillByAnswer_within (x : Xform) (no : Nat) (a : Answer) :
    Within s (s.fillByAnswer x no a) := by
  unfold State.fillByAnswer State.setFill
  split
  · split
    · split
      · exact setRing_within s _ _
      · exact Within.refl s
    · exact Within.refl s
  · exact Within.refl s

theorem leaveTransform_within (x : Xform) (r : Response) : Within s (s.leaveTransform x r) := by
  have hleft := setPort_within s { s.port with
    xforms := s.port.xforms.filter fun y => y.acc.id ≠ x.acc.id }
      { xforms := List.length_filter_le _ _ }
  unfold State.leaveTransform
  dsimp only
  split
  · exact hleft.trans (respond_within _ _ _)
  · exact (hleft.trans (leaveCounts_within _ _)).trans (respond_within _ _ _)

theorem pieceAnswer_within (id no : Nat) (a : Answer) : Within s (s.pieceAnswer id no a) := by
  unfold State.pieceAnswer
  split
  · exact Within.refl s
  · dsimp only
    split
    · exact (fillByAnswer_within s _ _ _).trans (leaveTransform_within _ _ _)
    · exact (fillByAnswer_within s _ _ _).trans
        (setPort_within _ _ { xforms := (List.length_map _).le })

/-! ## Lanes (chapter 5) -/

theorem lanesOnly_within {u : State} (h : LanesOnly s u) (hs : s.StartsBounded → u.StartsBounded) :
    Within s u := by
  obtain ⟨hu, hcalls⟩ := h
  have hcall : s.CallsBounded → u.CallsBounded := fun hb c => by
    rw [hcalls c]
    exact hb c
  rw [hu] at hs hcall ⊢
  exact { Within.refl s with starts := hs, calls := hcall }

/-- Of four starts listed the oldest is dropped (R85). -/
theorem addStart_length (l : List Instant) (t : Instant) (h : l.length ≤ 4) :
    (addStart l t).length ≤ 4 := by
  unfold addStart Config.windowStarts
  split
  · simp only [List.length_append, List.length_singleton]; omega
  · simp only [List.length_append, List.length_singleton, List.length_drop]; omega

theorem start_starts (r : ActRequest) (l : LaneNo) (b : Bool) :
    (s.start r l b).starts = addStart s.starts s.now := by
  have hevict : ∀ (u : State), (u.evict l).starts = u.starts := fun u => by
    unfold State.evict
    split <;> rfl
  unfold State.start
  dsimp only
  split
  · rfl
  · split
    · rw [setCall_starts, setLane_starts, hevict]; rfl
    · rw [setLane_starts, hevict]; rfl

theorem grantN_starts (n : Nat) (s : State) (h : s.StartsBounded) : (s.grantN n).StartsBounded := by
  induction n generalizing s with
  | zero => exact h
  | succ n ih =>
    unfold State.grantN
    split
    · split
      · exact h
      · split
        · exact h
        · refine ih _ ?_
          unfold State.StartsBounded
          rw [start_starts]
          exact addStart_length _ _ h
    · exact h

theorem grantAll_within : Within s s.grantAll :=
  lanesOnly_within s (grantAll_lanesOnly s) (grantN_starts _ s)

theorem voiceUpkeep_within : Within s s.voiceUpkeep := by
  rw [voiceUpkeep_eq]
  exact setWaiting_within s _

theorem syncLane_within (c : CallNo) : Within s (s.syncLane c) := by
  unfold State.syncLane
  split
  · exact Within.refl s
  · exact setLane_within s _ _

theorem derive_within (c : CallNo) : Within s (s.derive_ c) := by
  unfold State.derive_
  split
  · exact setCall_within s c _
  all_goals exact Within.refl s

theorem completeCall_within (l : LaneNo) (x : Expansion) : Within s (s.completeCall l x) := by
  unfold State.completeCall
  split
  · exact setLane_within s _ _
  · exact Within.refl s
  · dsimp only
    split
    · exact (derive_within s _).trans (setLane_within _ _ _)
    · exact setLane_within s _ _

theorem completeCallLane_within (l : LaneNo) : Within s (s.completeCallLane l) := by
  unfold State.completeCallLane
  split
  · exact (atInstant_within s _).trans (completeCall_within _ _ _)
  · exact (atInstant_within s _).trans (completeCall_within _ _ _)
  · exact Within.refl s

theorem leaveWindow_within : Within s s.leaveWindow := by
  unfold State.leaveWindow
  split
  · split
    · exact Within.refl s
    · exact atInstant_within s _
  · exact Within.refl s

theorem askRekey_within (c : CallNo) : Within s (s.askRekey c) := by
  unfold State.askRekey
  dsimp only
  split
  · exact Within.refl s
  · split
    · exact setWaiting_within s _
    · exact setWaiting_within s _

theorem releaseLane_within (c : CallNo) : Within s (s.releaseLane c) := by
  rw [releaseLane_only]
  exact { Within.refl s with }

end

end Sys2Proof.Bounds

namespace Sys2Proof.Bounds

open Sys2Proof Sys2Proof.Machine Sys2Proof.Laws Sys2Proof.Pairs

section

variable (s : State)

/-! ## Calls (chapter 6) -/

theorem drainRing_within (c : CallNo) (r : RingNo) : Within s (s.drainRing c r) :=
  (setRing_within s r _).trans (endRingDrain_within _ r)

/-- An endpoint joins a call that has room for a member (R99). -/
theorem join_within (c : CallNo) (e : EpNo) (r : RingNo) (h : s.calls[c].members.length < 4) :
    Within s (s.join c e r) := by
  have hset := setCall_within s c { s.calls[c] with
    members := s.calls[c].members ++ [{ ep := e, ring := r }] } fun ⟨hdebt, hswitches, _⟩ =>
      ⟨hdebt, hswitches, by
        rw [List.length_append, List.length_singleton]
        exact h⟩
  exact (hset.trans (setEp_within _ _ _)).trans (setRing_within _ _ _)

theorem joinAll_within (c : CallNo) (ms : List (EpNo × RingNo)) (s : State)
    (h : s.calls[c].members.length + ms.length ≤ 4) : Within s (s.joinAll c ms) := by
  induction ms generalizing s with
  | nil => exact Within.refl s
  | cons m ms ih =>
    rw [List.length_cons] at h
    refine (join_within s c m.1 m.2 (by omega)).trans (ih _ ?_)
    rw [join_calls, if_pos rfl, List.length_append, List.length_singleton]
    omega

theorem leave_within (c : CallNo) (e : EpNo) (r : RingNo) : Within s (s.leave c e r) := by
  have hset := setCall_within s c { s.calls[c] with
    members := s.calls[c].members.filter fun m => m.ep ≠ e } fun ⟨hdebt, hswitches, hmembers⟩ =>
      ⟨hdebt, hswitches, (List.length_filter_le _ _).trans hmembers⟩
  exact (hset.trans (setEp_within _ _ _)).trans (drainRing_within _ _ _)

/-- Requests that wait are changed in their places. -/
theorem mapWaiting_within (f : Accepted → Accepted) (p : Port) :
    PortWithin p { p with arrival := p.arrival.map f, hold := p.hold.map f } where
  waiting := by
    rw [List.length_map]
    cases p.arrival <;> exact le_rfl

theorem goClosing_within (c : CallNo) : Within s (s.goClosing c) :=
  ((setCall_within s c { s.calls[c] with state := .closing }).trans (setWaiting_within _ _)).trans
    (setPort_within _ _ (mapWaiting_within _ _))

theorem closeIfEmptied_within (c : CallNo) : Within s (s.closeIfEmptied c) := by
  unfold State.closeIfEmptied
  split
  · exact (goClosing_within s c).trans (raise_within _ _ _ _)
  · exact Within.refl s

theorem removeMember_within (c : CallNo) (e : EpNo) : Within s (s.removeMember c e) := by
  unfold State.removeMember
  split
  · exact Within.refl s
  · exact (leave_within s c e _).trans (closeIfEmptied_within _ c)

theorem clearCalls_within (ms : List Member) (s : State) : Within s (s.clearCalls ms) := by
  rw [(clearCalls_spec ms s).1]
  exact { Within.refl s with }

/-- A call goes FREE with room for its waiting completions (R111). -/
theorem freeCall_within (c : CallNo)
    (h : s.engine.used + (s.calls[c].closeCompletions c).length ≤ 64) :
    Within s (s.freeCall c) := by
  have hwritten := writeAll_within (s.calls[c].closeCompletions c) s h
  rw [freeCall_eq]
  generalize s.writeAll (s.calls[c].closeCompletions c) = u at hwritten
  have hemptied : Within u (emptiedState u c) :=
    Within.trans (u := { u with rings := mapTab (freeOwned c) u.rings }) { Within.refl u with }
      (clearCalls_within _ _)
  exact ((hwritten.trans hemptied).trans (releaseLane_within _ c)).trans
    (setCall_within _ c Call.free fun _ => ⟨by decide, by decide, by decide⟩)

theorem endClose_within (c : CallNo) : Within s (s.endClose c) := by
  unfold State.endClose
  split
  · rename_i h
    exact freeCall_within s c (of_decide_eq_true (Bool.and_eq_true_iff.1 h).2)
  · exact Within.refl s

theorem endCloses_within (cs : List CallNo) (s : State) : Within s (s.endCloses cs) := by
  induction cs generalizing s with
  | nil => exact Within.refl s
  | cons c cs ih => exact (endClose_within s c).trans (ih _)

/-! ### Switches and visits (R105 to R107, R113 to R117) -/

theorem addCheck_room {c : CallNo} {e : EpNo} (h : s.addCheck c e = none) :
    s.calls[c].members.length < 4 := by
  unfold State.addCheck at h
  split at h
  · cases h
  · split at h
    · cases h
    · rename_i hfull
      exact Nat.lt_of_not_le hfull

theorem applyAdd_within (c : CallNo) (w : Switch) (hroom : s.engine.room = true) :
    Within s (s.applyAdd c w) := by
  unfold State.applyAdd
  split
  · rename_i hcheck _
    exact (join_within s c w.ep _ (addCheck_room s hcheck)).trans
      (writeCompletion_within _ _ _ _ _ hroom)
  · exact writeCompletion_within s _ _ _ _ hroom
  · exact writeCompletion_within s _ _ _ _ hroom

theorem endRingDrain_rings (r : RingNo) :
    s.endRingDrain r = { s with rings := (s.endRingDrain r).rings } := by
  unfold State.endRingDrain
  split
  · split <;> rfl
  all_goals rfl

/-- A member that leaves changes its call's member list, its own record and its ring. -/
theorem leave_only (c : CallNo) (e : EpNo) (r : RingNo) : s.leave c e r = { s with
    calls := s.calls.set c { s.calls[c] with
      members := s.calls[c].members.filter fun m => m.ep ≠ e }
    endpoints := (s.leave c e r).endpoints, rings := (s.leave c e r).rings } := by
  unfold State.leave State.drainRing
  dsimp only
  rw [endRingDrain_rings]
  rfl

theorem applyDrop_within (c : CallNo) (w : Switch) (hroom : s.engine.room = true) :
    Within s (s.applyDrop c w) := by
  unfold State.applyDrop
  split
  · exact writeCompletion_within s _ _ _ _ hroom
  · rename_i r _
    have hroom' : (s.leave c w.ep r).engine.room = true := by
      rw [leave_only]
      exact hroom
    exact ((leave_within s c w.ep r).trans (writeCompletion_within _ _ _ _ _ hroom')).trans
      (closeIfEmptied_within _ c)

theorem writeCompletion_calls (b : Block) (p : Bool) (x : Completion) (r : Bool) :
    (s.writeCompletion b p x r).calls = s.calls := by
  obtain ⟨g, q, w, h⟩ := writeCompletion_only s b p x r
  rw [h]

theorem closeIfEmptied_switches (c : CallNo) :
    (s.closeIfEmptied c).calls[c].switches = s.calls[c].switches := by
  unfold State.closeIfEmptied
  split
  · obtain ⟨g, q, w, h⟩ := raise_only (s.goClosing c) .callEmptied (callSubject c) []
    rw [h]
    exact Steps.field_set Call.switches s.calls c { s.calls[c] with state := .closing } rfl c
  · rfl

/-- A switch applied leaves the list of those after it as it is (R105). -/
theorem applyAdd_switches (c : CallNo) (w : Switch) :
    (s.applyAdd c w).calls[c].switches = s.calls[c].switches := by
  unfold State.applyAdd State.writeSwitch
  split
  · rw [writeCompletion_calls, join_calls, if_pos rfl]
  · rw [writeCompletion_calls]
  · rw [writeCompletion_calls]

theorem applyDrop_switches (c : CallNo) (w : Switch) :
    (s.applyDrop c w).calls[c].switches = s.calls[c].switches := by
  unfold State.applyDrop State.writeSwitch
  split
  · rw [writeCompletion_calls]
  · rw [closeIfEmptied_switches, writeCompletion_calls, leave_only]
    exact Steps.field_set Call.switches s.calls c { s.calls[c] with
      members := s.calls[c].members.filter fun m => m.ep ≠ w.ep } rfl c

theorem applySwitches_within (ws : List Switch) (c : CallNo) (s : State)
    (h : ws.length ≤ s.calls[c].switches.length) : Within s (State.applySwitches ws c s) := by
  induction ws generalizing s with
  | nil => exact Within.refl s
  | cons w ws ih =>
    unfold State.applySwitches
    split
    · rename_i hgo
      have hroom := (Bool.and_eq_true_iff.1 hgo).1
      have hset := setCall_within s c { s.calls[c] with switches := ws }
        fun ⟨hdebt, hswitches, hmembers⟩ =>
          ⟨hdebt, ((Nat.le_succ _).trans h).trans hswitches, hmembers⟩
      have hrest : (s.setCall c { s.calls[c] with switches := ws }).calls[c].switches = ws := by
        rw [setCall_get_self]
      dsimp only
      generalize hu : s.setCall c { s.calls[c] with switches := ws } = u at hset hrest
      replace hroom : u.engine.room = true := by rw [← hu]; exact hroom
      split
      · refine (hset.trans (applyAdd_within u c w hroom)).trans (ih _ ?_)
        rw [applyAdd_switches, hrest]
      · refine (hset.trans (applyDrop_within u c w hroom)).trans (ih _ ?_)
        rw [applyDrop_switches, hrest]
    · exact Within.refl s

theorem retire_within (x : Call) (h : CallWithin x) : CallWithin x.retire := by
  unfold Call.retire
  split
  · exact h
  · split <;> exact h

/-- An epoch that advances clears the debt (R114). -/
theorem advance_within (x : Call) (n : Nat) (h : CallWithin x) : CallWithin (x.advance n) := by
  unfold Call.advance
  split
  · exact ⟨Nat.zero_le 8, h.2⟩
  · exact ⟨Nat.zero_le 8, h.2⟩
  all_goals exact h

theorem satSucc_le (max n : Nat) : satSucc max n ≤ max := by
  unfold satSucc
  split <;> omega

theorem rekeyWork_within (c : CallNo) (advanced : Bool) : Within s (s.rekeyWork c advanced) := by
  have hask : ∀ x : Call, (CallWithin s.calls[c] → CallWithin x) →
      Within s (if x.rekeyDue && x.next.isNone then
        ((s.setCall c x).setCall c { x with debt := satSucc 8 x.debt }).askRekey c
      else s.setCall c x) := fun x hx => by
    have hset := setCall_within s c x hx
    split
    · refine (hset.trans (setCall_within _ c _ ?_)).trans (askRekey_within _ c)
      rw [setCall_get_self]
      exact fun ⟨_, hswitches, hmembers⟩ => ⟨satSucc_le 8 _, hswitches, hmembers⟩
    · exact hset
  unfold State.rekeyWork
  cases advanced
  · exact hask _ id
  · exact hask _ id

theorem openSlots_within (f : Word) (n : Half) (ms : List Member) (s : State) :
    Within s (s.openSlots f n ms) := by
  induction ms generalizing s with
  | nil => exact Within.refl s
  | cons m ms ih => exact (setRing_within s _ _).trans (ih _)

theorem examine_within (f : Word) (ms : List Member) (s : State) :
    Within s (s.examine f ms) := by
  induction ms generalizing s with
  | nil => exact Within.refl s
  | cons m ms ih =>
    unfold State.examine
    split
    · exact (setEp_within s _ _).trans (ih _)
    · exact ih s

theorem visitCall_within (c : CallNo) : Within s (s.visitCall c) := by
  unfold State.visitCall
  have hopened := (setCall_within s c (s.calls[c].step12 s.thePlan.rekeyInterval)
    fun h => advance_within _ _ (retire_within _ h)).trans (syncLane_within _ c)
  generalize (s.setCall c (s.calls[c].step12 s.thePlan.rekeyInterval)).syncLane c = u at hopened ⊢
  have hexamined := (hopened.trans (openSlots_within u.calls[c].frame u.calls[c].epoch
    u.calls[c].members u)).trans (examine_within (u.calls[c].frame - 2#32) u.calls[c].members _)
  dsimp only
  generalize (u.openSlots u.calls[c].frame u.calls[c].epoch u.calls[c].members).examine
    (u.calls[c].frame - 2#32) u.calls[c].members = v at hexamined ⊢
  have hswitched := hexamined.trans (applySwitches_within v.calls[c].switches c v le_rfl)
  split
  · exact hswitched.trans (rekeyWork_within _ c _)
  · exact hswitched

theorem passVisit_within (x : Pass) (c : CallNo) : Within s (s.passVisit x c) :=
  (setTimer_within s _).trans (visitCall_within _ c)

theorem visitNext_within : Within s s.visitNext := by
  unfold State.visitNext
  split
  · exact Within.refl s
  · exact passVisit_within s _ _

theorem visitRekey_within : Within s s.visitRekey := by
  unfold State.visitRekey
  split
  · exact Within.refl s
  · split
    · exact passVisit_within s _ _
    · exact Within.refl s

/-! ## Extension admission (chapter 8) -/

/-- A third failure clears the count (R142). -/
theorem countFailure_within (d : EntryNo) : Within s (s.countFailure d) := by
  refine setEntry_within s d _ fun h => ?_
  unfold DirEntry.fail
  split
  · exact h
  · split
    · exact Nat.zero_le 2
    · rename_i hlow
      exact Nat.lt_of_not_le hlow

theorem countSlotFailure_within (m : MboxNo) : Within s (s.countSlotFailure m) := by
  unfold State.countSlotFailure
  split
  · exact Within.refl s
  · exact countFailure_within s _

theorem dropEnded_within (d : EntryNo) (n : Word) :
    Within s (s.setEntry d (s.directory[d].dropEnded n)) := by
  refine setEntry_within s d _ fun h => ?_
  unfold DirEntry.dropEnded
  split <;> exact h

theorem freeSlot_within (m : MboxNo) : Within s (s.freeSlot m) := by
  unfold State.freeSlot State.clearOwner
  split
  · exact setMbox_within s m _
  · exact (setEp_within s _ _).trans (setMbox_within _ m _)

theorem decideSlot_within (m : MboxNo) (v : Verdict) : Within s (s.decideSlot m v) :=
  (setMbox_within s m _).trans (place_within _ _ _ _)

theorem deadmit_within (e : EpNo) (r : Reason) : Within s (s.deadmit e r) := by
  unfold State.deadmit
  split
  · exact Within.refl s
  · exact ((setEp_within s e _).trans (setEntry_within _ _ _)).trans (raise_within _ _ _ _)

theorem ageSlot_within (m : MboxNo) : Within s (s.ageSlot m) :=
  (setMbox_within s m _).trans (place_within _ _ _ _)

theorem ageSlots_within (ms : List MboxNo) (s : State) : Within s (s.ageSlots ms) := by
  induction ms generalizing s with
  | nil => exact Within.refl s
  | cons m ms ih => exact (ageSlot_within s m).trans (ih _)

theorem ageRequests_within : Within s s.ageRequests :=
  (setWaiting_within s _).trans (ageSlots_within _ _)

theorem askCheck_within (m : MboxNo) : Within s (s.askCheck m) := by
  unfold State.askCheck
  split
  · exact Within.refl s
  · split
    · dsimp only
      split
      · exact (setWaiting_within s _).trans (ageSlot_within _ m)
      · exact setWaiting_within s _
    · exact setWaiting_within s _

/-! ### Slot events, self-reads and the comparison (R148 to R155) -/

theorem claimEvent_within (m : MboxNo) (k : Mark) : Within s (s.claimEvent m k) := by
  unfold State.claimEvent
  split
  · exact ((setMbox_within s m _).trans (setEp_within _ _ _)).trans (place_within _ _ _ _)
  · exact Within.refl s

theorem releaseEvent_within (m : MboxNo) : Within s (s.releaseEvent m) := by
  unfold State.releaseEvent
  dsimp only
  split
  · exact ((countSlotFailure_within s m).trans (freeSlot_within _ m)).trans (place_within _ _ _ _)
  · exact (freeSlot_within s m).trans (place_within _ _ _ _)

theorem goRequestEvent_within (m : MboxNo) (g : GoCode) : Within s (s.goRequestEvent m g) :=
  (setMbox_within s m _).trans (place_within _ _ _ _)

theorem goAnswerEvent_within (m : MboxNo) : Within s (s.goAnswerEvent m) :=
  ((setMbox_within s m _).trans (place_within _ _ _ _)).trans (askCheck_within _ m)

theorem mailboxEvent_within (m : MboxNo) : Within s (s.mailboxEvent m) := by
  have hclear : Within s (s.clearMark m) := setMbox_within s m _
  unfold State.mailboxEvent
  split
  · exact Within.refl s
  · dsimp only
    generalize s.clearMark m = u at hclear ⊢
    split
    · exact hclear.trans (claimEvent_within _ m _)
    · split
      · exact hclear.trans (releaseEvent_within _ m)
      · exact hclear
    · split
      · exact hclear.trans (goRequestEvent_within _ m _)
      · exact hclear
    · split
      · exact hclear.trans (goRequestEvent_within _ m _)
      · exact hclear
    · split
      · exact hclear.trans (goAnswerEvent_within _ m)
      · exact hclear

theorem decideResign_within (m : MboxNo) (e : EpNo) : Within s (s.decideResign m e) := by
  unfold State.decideResign
  split
  · exact decideSlot_within s m _
  · exact (deadmit_within s e _).trans (decideSlot_within _ m _)

theorem challengeSlot_within (m : MboxNo) (d : EntryNo) (r : RequestWords) :
    Within s (s.challengeSlot m d r) :=
  Within.trans (u := { s with challengeCtr := s.challengeCtr + 1#16 }) { Within.refl s with }
    ((setMbox_within _ m _).trans (place_within _ _ _ _))

theorem decideAdmit_within (m : MboxNo) (e : EpNo) (r : RequestWords) :
    Within s (s.decideAdmit m e r) := by
  unfold State.decideAdmit
  split
  · exact decideSlot_within s m _
  · rename_i d _
    dsimp only
    split
    · exact decideSlot_within s m _
    · split
      · exact decideSlot_within s m _
      · refine (dropEnded_within s d s.timer.counter).trans ?_
        split
        · exact decideSlot_within _ m _
        · exact challengeSlot_within _ m d r

theorem requestReturn_within (m : MboxNo) (a : Answer) : Within s (s.requestReturn m a) := by
  have hread := setMbox_within s m { s.mailboxes[m] with selfRead := false }
  unfold State.requestReturn
  dsimp only
  split
  · exact hread
  · split
    · exact hread.trans (decideResign_within _ m _)
    · exact hread.trans (decideAdmit_within _ m _ _)
    · exact hread
    · exact hread.trans (decideSlot_within _ m _)
    · exact hread

theorem dropFromExpansions_within (m : MboxNo) : Within s (s.dropFromExpansions m) :=
  { Within.refl s with }

theorem answerReturn_within (m : MboxNo) (a : Answer) : Within s (s.answerReturn m a) := by
  have hread := setMbox_within s m { s.mailboxes[m] with selfRead := false }
  unfold State.answerReturn
  dsimp only
  split
  · exact hread
  · split
    · split
      · exact hread.trans (setMbox_within _ m _)
      · exact (hread.trans (setMbox_within _ m _)).trans (askCheck_within _ m)
    · exact ((hread.trans (setWaiting_within _ _)).trans (dropFromExpansions_within _ m)).trans
        (decideSlot_within _ m _)
    · exact hread

theorem movedState_within (d : EntryNo) (e : EpNo) : Within s (movedState s d e) := by
  unfold movedState
  split
  · exact Within.refl s
  · split
    · exact Within.refl s
    · exact deadmit_within s _ _

/-- An admission clears the entry's fail count (R155). -/
theorem admitOwner_within (m : MboxNo) (d : EntryNo) (e : EpNo) :
    Within s (s.admitOwner m d e) := by
  rw [admitOwner_eq]
  have hmoved := movedState_within s d e
  generalize movedState s d e = u at hmoved ⊢
  exact (((hmoved.trans (decideSlot_within u m _)).trans (setEp_within _ e _)).trans
    (setEntry_within _ d _ fun _ => Nat.zero_le 2)).trans (raise_within _ _ _ _)

theorem compareSlot_within (d : EntryNo) (m : MboxNo) : Within s (s.compareSlot d m) := by
  unfold State.compareSlot
  dsimp only
  split
  · split
    · exact decideSlot_within s m _
    · split
      · exact decideSlot_within s m _
      · have hdrop := dropEnded_within s d s.timer.counter
        generalize s.setEntry d (s.directory[d].dropEnded s.timer.counter) = u at hdrop ⊢
        split
        · split
          · exact (hdrop.trans (countFailure_within u d)).trans (decideSlot_within _ m _)
          · exact (hdrop.trans (countFailure_within u d)).trans (decideSlot_within _ m _)
        · split
          · exact hdrop.trans (decideSlot_within u m _)
          · exact hdrop.trans (admitOwner_within u m d _)
  · exact Within.refl s

theorem compareSlots_within (d : EntryNo) (ms : List MboxNo) (s : State) :
    Within s (s.compareSlots d ms) := by
  induction ms generalizing s with
  | nil => exact Within.refl s
  | cons m ms ih => exact (compareSlot_within s d m).trans (ih _)

theorem completeEntryLane_within (l : LaneNo) : Within s (s.completeEntryLane l) := by
  unfold State.completeEntryLane
  split
  · exact ((atInstant_within s _).trans (compareSlots_within _ _ _)).trans (setLane_within _ _ _)
  · exact Within.refl s

theorem checkSlot_within (m : MboxNo) (n : Word) : Within s (s.checkSlot m n) := by
  unfold State.checkSlot
  split
  · unfold State.expireSlot
    dsimp only
    split
    · exact ((countSlotFailure_within s m).trans (freeSlot_within _ m)).trans (place_within _ _ _ _)
    · exact (freeSlot_within s m).trans (place_within _ _ _ _)
  · exact Within.refl s

theorem passCheck_within (x : Pass) (m : MboxNo) : Within s (s.passCheck x m) :=
  (setTimer_within s _).trans (checkSlot_within _ m _)

theorem checkNext_within : Within s s.checkNext := by
  unfold State.checkNext
  split
  · exact Within.refl s
  · exact passCheck_within s _ _

theorem checkExpiry_within : Within s s.checkExpiry := by
  unfold State.checkExpiry
  split
  · exact Within.refl s
  · split
    · exact passCheck_within s _ _
    · exact Within.refl s

/-! ## Ticks (R122 to R128) -/

theorem expireLocks_within : Within s s.expireLocks := by
  refine mapDirectory_within s _ fun d => ?_
  unfold DirEntry.expire
  split
  · exact le_rfl
  · split <;> exact le_rfl

theorem tick_within (e : Instant) : Within s (s.tick e) := by
  unfold State.tick
  split
  · exact (setTimer_within s _).trans (raise_within _ _ _ _)
  · exact ((setTimer_within s _).trans (ageRequests_within _)).trans (expireLocks_within _)

theorem internalTick_within (e : Instant) : Within s (s.internalTick e) :=
  ((atInstant_within s e).trans (setTimer_within _ _)).trans (tick_within _ e)

theorem guardTick_within (e : Instant) : Within s (s.guardTick e) :=
  (((atInstant_within s e).trans (setTimer_within _ _)).trans (raise_within _ _ _ _)).trans
    (tick_within _ e)

theorem edge_within : Within s s.edge := by
  unfold State.edge
  split
  · dsimp only
    split
    · exact Within.refl s
    · exact (setTimer_within s _).trans (tick_within _ _)
    · split
      · exact ((setTimer_within s _).trans (raise_within _ _ _ _)).trans (tick_within _ _)
      · exact (setTimer_within s _).trans (raise_within _ _ _ _)
  · exact Within.refl s

theorem internalExpiry_within : Within s s.internalExpiry := by
  unfold State.internalExpiry
  split
  · exact Within.refl s
  · exact internalTick_within s _

theorem guardExpiry_within : Within s s.guardExpiry := by
  unfold State.guardExpiry
  split
  · exact Within.refl s
  · exact guardTick_within s _

theorem timerEvent_within (cause : TickCause) : Within s (s.timerEvent cause) := by
  cases cause with
  | internalExpiry => exact internalExpiry_within s
  | guardExpiry => exact guardExpiry_within s
  | fsyncEdge t => exact (atInstant_within s t).trans (edge_within _)

theorem tickArmed_within (cause : TickCause) : Within s (s.tickArmed cause) := by
  unfold State.tickArmed
  split
  · exact timerEvent_within s cause
  · exact Within.refl s

theorem tickBlanking_within (cause : TickCause) : Within s (s.tickBlanking cause) := by
  unfold State.tickBlanking
  split
  · exact timerEvent_within s cause
  · exact Within.refl s

theorem endPass_only : s.endPass = s.setTimer s.endPass.timer := by
  unfold State.endPass
  repeat' split
  all_goals rfl

theorem endPass_within : Within s s.endPass := by
  rw [endPass_only]
  exact setTimer_within s _

end

end Sys2Proof.Bounds

namespace Sys2Proof.Bounds

open Sys2Proof Sys2Proof.Machine Sys2Proof.Laws Sys2Proof.Pairs Sys2Proof.Restart

section

variable (s : State)

/-! ## Orders (chapter 9) -/

/-- An OPEN-CALL names at most four endpoints, and its call starts with no member (R102, R103). -/
theorem doOpenCall_within (q : Half) (c : CallNo) (es : List EpNo) (key : Key) (level : Fin 8)
    (h : es.length ≤ 4) : Within s (s.doOpenCall q c es key level) := by
  unfold State.doOpenCall
  split
  · exact finish_within s _
  · have hopened := setCall_within s c (openedCall s.thePlan.rekeyInterval key level)
      fun _ => ⟨Nat.zero_le 8, Nat.zero_le 2, Nat.zero_le 4⟩
    refine (hopened.trans (joinAll_within c _ _ ?_)).trans (finish_within _ _)
    rw [setCall_get_self, List.length_zip]
    exact (Nat.zero_add _).le.trans ((Nat.min_le_left _ _).trans h)

theorem doSwitch_within (q : Half) (b : Bool) (c : CallNo) (e : EpNo) :
    Within s (s.doSwitch q b c e) := by
  unfold State.doSwitch
  split
  · exact finish_within s _
  · split
    · exact finish_within s _
    · rename_i hfull
      have hset := setCall_within s c { s.calls[c] with
        switches := s.calls[c].switches ++ [{ isAdd := b, ep := e, seq := q }] }
          fun ⟨hdebt, _, hmembers⟩ => ⟨hdebt, by
            rw [List.length_append, List.length_singleton]
            exact Nat.lt_of_not_le hfull, hmembers⟩
      exact hset.trans (endExecution_within _)

theorem doCloseCall_within (q : Half) (c : CallNo) : Within s (s.doCloseCall q c) := by
  unfold State.doCloseCall
  split
  · exact finish_within s _
  · exact ((setCall_within s c _).trans (goClosing_within _ c)).trans (endExecution_within _)

theorem doRekeyNow_within (q : Half) (c : CallNo) (level : Option (Fin 8)) :
    Within s (s.doRekeyNow q c level) := by
  unfold State.doRekeyNow
  split
  · exact finish_within s _
  · exact (setCall_within s c _).trans (finish_within _ _)

theorem doSetEndpoint_within (q n : Half) (role : Role) (bigEndian : Bool) :
    Within s (s.doSetEndpoint q n role bigEndian) := by
  unfold State.doSetEndpoint
  dsimp only
  split
  · exact finish_within s _
  · split
    · exact finish_within s _
    · split
      · exact finish_within s _
      · split
        · exact finish_within s _
        · generalize (if role = .trunk then bigEndian else _) = order
          split
          · exact ((setEp_within s _ _).trans (deadmit_within _ _ _)).trans (finish_within _ _)
          · exact finish_within s _

theorem doSetDirectory_within (q n : Half) (enabled : Bool) (number : Nat) (secret : Key) :
    Within s (s.doSetDirectory q n enabled number secret) := by
  unfold State.doSetDirectory
  dsimp only
  split
  · exact finish_within s _
  · rename_i d _
    split
    · exact finish_within s _
    · split
      · exact finish_within s _
      · have hset := setEntry_within s d { s.directory[d] with
          enabled := enabled, number := number, secret := secret }
        split
        · exact hset.trans (finish_within _ _)
        · exact (hset.trans (deadmit_within _ _ _)).trans (finish_within _ _)

theorem doRevoke_within (q n : Half) : Within s (s.doRevoke q n) := by
  unfold State.doRevoke
  dsimp only
  split
  · exact finish_within s _
  · split
    · exact (deadmit_within s _ _).trans (finish_within _ _)
    · exact ((deadmit_within s _ _).trans (removeMember_within _ _ _)).trans (finish_within _ _)

theorem doUnlock_within (q n : Half) : Within s (s.doUnlock q n) := by
  unfold State.doUnlock
  dsimp only
  split
  · exact finish_within s _
  · exact (setEntry_within s _ _ fun _ => Nat.zero_le 2).trans (finish_within _ _)

/-! ### RESTART (R8, R10) -/

theorem restartCall_within (c : CallNo) : Within s (s.restartCall c) := by
  have hset := setCall_within s c { s.calls[c] with switches := [], closeSeq := none }
    fun ⟨hdebt, _, hmembers⟩ => ⟨hdebt, Nat.zero_le 2, hmembers⟩
  unfold State.restartCall
  dsimp only
  split
  · exact hset.trans (goClosing_within _ c)
  · exact hset

theorem restartCalls_within (cs : List CallNo) (s : State) : Within s (s.restartCalls cs) := by
  induction cs generalizing s with
  | nil => exact Within.refl s
  | cons c cs ih => exact (restartCall_within s c).trans (ih _)

theorem restartSlot_within (m : MboxNo) : Within s (s.restartSlot m) := by
  have hset := setMbox_within s m { s.mailboxes[m] with
    inFlight := s.mailboxes[m].inFlight.map fun k => { k with voided := true } }
  unfold State.restartSlot
  dsimp only
  split
  · exact hset
  · exact (hset.trans (freeSlot_within _ m)).trans (place_within _ _ _ _)

theorem restartSlots_within (ms : List MboxNo) (s : State) : Within s (s.restartSlots ms) := by
  induction ms generalizing s with
  | nil => exact Within.refl s
  | cons m ms ih => exact (restartSlot_within s m).trans (ih _)

theorem doRestart_within (q : Half) : Within s (s.doRestart q) := by
  have hquiescing : Within s ({ s with part := .quiescing }.setEngine
      { s.engine with inExec := some { seq := q, phase := .restart false } }) :=
    { Within.refl s with }
  have hbegun : Within s (restartBegun s q) := hquiescing.trans (restartCalls_within _ _)
  rw [doRestart_eq]
  generalize List.finRange 32 = ms
  exact (hbegun.trans (restartSlots_within ms _)).trans { Within.refl _ with }

/-- Entry to UNPLANNED clears the fail counts and the backlog, and the counts of the rings (R10). -/
theorem enterUnplanned_within : Within s s.enterUnplanned := by
  have hdirectory := mapDirectory_within s DirEntry.unplanned fun d => (Nat.zero_le d.fails :)
  have hport := setPort_within s s.port.voidCounts
    { mapWaiting_within Accepted.voidCount s.port with }
  exact { Within.refl s with
    port := hport.port
    selfQ := hport.selfQ
    responses := hport.responses
    fails := hdirectory.fails
    backlog := fun _ => List.nodup_nil
    completions := fun _ => (by decide : (0#16 - 0#16 : Half).toNat ≤ 64) }

/-! ### The order fetched (R166, R167) -/

theorem mapM_length {α β : Type} (f : α → Option β) (l : List α) (m : List β)
    (h : l.mapM f = some m) : m.length = l.length := by
  induction l generalizing m with
  | nil =>
    obtain rfl : [] = m := by simpa using h
    rfl
  | cons x xs ih =>
    simp only [List.mapM_cons, Option.bind_eq_bind, Option.bind_eq_some_iff, Option.pure_def,
      Option.some.injEq] at h
    obtain ⟨y, -, ys, hys, rfl⟩ := h
    rw [List.length_cons, List.length_cons, ih ys hys]

theorem openCallFields_length {call : Half} {count level : Byte} {eps : List Half} {c : CallNo}
    {es : List EpNo} {lv : Fin 8} (h : openCallFields call count level eps = some (c, es, lv)) :
    es.length ≤ 4 := by
  unfold openCallFields at h
  split at h
  · cases h
  · rename_i hcount
    split at h
    · rename_i hes
      split at h
      · cases h
        have hlen := mapM_length epOf _ _ hes
        rw [List.length_take] at hlen
        simp only [Bool.or_eq_true, decide_eq_true_eq, not_or, not_lt] at hcount
        omega
      · cases h
    · cases h
    · cases h

theorem execute_within (q : Half) (o : Order) : Within s (s.execute q o) := by
  have hbad : Within s (s.badOrder q) := finish_within s _
  cases o with
  | unknown kind => exact hbad
  | openCall call count level e0 e1 e2 e3 key =>
    simp only [State.execute]
    split
    · exact hbad
    · rename_i hfields
      exact doOpenCall_within s q _ _ _ _ (openCallFields_length hfields)
  | addMember call ep =>
    simp only [State.execute]
    split
    · exact doSwitch_within s q true _ _
    · exact hbad
  | dropMember call ep =>
    simp only [State.execute]
    split
    · exact doSwitch_within s q false _ _
    · exact hbad
  | closeCall call =>
    simp only [State.execute]
    split
    · exact doCloseCall_within s q _
    · exact hbad
  | rekeyNow call level =>
    simp only [State.execute]
    split
    · exact doRekeyNow_within s q _ _
    · exact hbad
  | setTiming source period => exact doSetTiming_within s q source period.toNat
  | setEndpoint ep role order =>
    simp only [State.execute]
    split
    · exact hbad
    · split
      · exact hbad
      · exact doSetEndpoint_within s q ep _ _
  | setDirectory index enabled number secret =>
    simp only [State.execute]
    split
    · exact hbad
    · exact doSetDirectory_within s q index _ _ secret
  | revoke ep => exact doRevoke_within s q ep
  | unlock index => exact doUnlock_within s q index
  | report kind first count buffer =>
    exact doReport_within s q kind first.toNat count.toNat buffer.toNat
  | restart => exact doRestart_within s q

theorem fetchReturn_within (o : Order) : Within s (s.fetchReturn o) := by
  unfold State.fetchReturn
  split
  · exact Within.refl s
  · exact (countConsumed_within s).trans (execute_within _ _ o)

theorem fetchAnswer_within (a : Answer) : Within s (s.fetchAnswer a) := by
  cases a with
  | ok ws => exact fetchReturn_within s _
  | notReserved => exact Within.refl s
  | fault =>
    show Within s s.fetchFault
    unfold State.fetchFault
    split
    · exact Within.refl s
    · exact (countConsumed_within s).trans (finish_within _ _)

theorem dropAwaiting_within (i : Nat) :
    Within s (s.setPort { s.port with awaiting := dropAt i s.port.awaiting }) :=
  setPort_within s _ {}

theorem returnOrder_within (o : Order) : Within s (s.returnOrder o) := by
  unfold State.returnOrder
  split
  · exact Within.refl s
  · exact (dropAwaiting_within s _).trans (fetchReturn_within _ o)

theorem returnUnknown_within (kind : Byte) : Within s (s.returnUnknown kind) := by
  unfold State.returnUnknown
  split
  · exact Within.refl s
  · exact returnOrder_within s _

/-! ## The plan validator (chapter 1) -/

theorem startValidation_within : Within s s.startValidation :=
  (setValidator_within s _).trans (place_within _ _ _ _)

theorem takenState_within (p : Plan) : Within s (takenState s p) := by
  have hdirectory := mapDirectory_within s (DirEntry.rebase s.timer.counter) fun _ => le_rfl
  have hport := setPort_within s s.port.voidCounts
    { mapWaiting_within Accepted.voidCount s.port with }
  exact { Within.refl s with
    port := hport.port
    selfQ := hport.selfQ
    responses := hport.responses
    fails := hdirectory.fails
    completions := fun _ => (by decide : (0#16 - 0#16 : Half).toNat ≤ 64) }

theorem makeControls_within (es : List EpNo) (s : State) : Within s (s.makeControls es) := by
  induction es generalizing s with
  | nil => exact Within.refl s
  | cons e es ih => exact ((setEp_within s e _).trans (deadmit_within _ e .role)).trans (ih _)

theorem takePlan_within (p : Plan) : Within s (s.takePlan p) := by
  rw [takePlan_eq]
  exact (((takenState_within s p).trans (removeReservations_within _ _)).trans
    (deliver_within _)).trans (makeControls_within _ _)

theorem endValidation_within (a : Answer) : Within s (s.endValidation a) := by
  have houtcome : ∀ (u : State) (o : PlanOutcome), Within u (u.applyOutcome a o) := fun u o => by
    unfold State.applyOutcome
    split
    · exact takePlan_within u _
    · exact Within.refl u
  have hrestart : ∀ u : State, Within u u.restartValidation := fun u => by
    unfold State.restartValidation
    split
    · exact (setValidator_within u _).trans (startValidation_within _)
    · exact Within.refl u
  exact (((setValidator_within s _).trans (houtcome _ _)).trans (place_within _ _ _ _)).trans
    (hrestart _)

/-! ## Memory's answers (R36) -/

/-- A consumer count in range leaves no more completions to consume than there were (R169). -/
theorem completionCountEvent_within (v : Half) : Within s (s.completionCountEvent v) := by
  unfold State.completionCountEvent
  split
  · rename_i h
    have hrange : (v - s.engine.completionConsumer).toNat ≤
        (s.engine.completionProducer - s.engine.completionConsumer).toNat := of_decide_eq_true h
    refine { Within.refl s with completions := fun hs => ?_ }
    have hused : (s.engine.completionProducer - s.engine.completionConsumer).toNat ≤ 64 := hs
    show (s.engine.completionProducer - v).toNat ≤ 64
    bv_omega
  · exact Within.refl s

theorem orderCountEvent_within (v : Half) : Within s (s.orderCountEvent v) := by
  unfold State.orderCountEvent
  split
  · exact setEngine_within s _
  · exact Within.refl s

theorem signatureEvent_within : Within s s.signatureEvent := by
  unfold State.signatureEvent
  split
  · exact setValidator_within s _
  · exact startValidation_within s

theorem watchAnswered_within (w : Option Watch) (a : Answer) : Within s (s.watchAnswered w a) := by
  have hevent : ∀ w : Watch, Within s (s.watchEvent w) := fun w => by
    cases w with
    | signature => exact signatureEvent_within s
    | orderCount v => exact orderCountEvent_within s v
    | completionCount v => exact completionCountEvent_within s v
    | mailbox m => exact mailboxEvent_within s m
  have hfailed : ∀ w : Watch, Within s (s.watchFailed w) := fun w => by
    cases w with
    | mailbox m => exact setMbox_within s m _
    | _ => exact Within.refl s
  unfold State.watchAnswered
  split
  · exact Within.refl s
  · exact hevent _
  · exact hfailed _
  · exact hfailed _

theorem selfWriteAnswer_within (src : SelfSource) (a : Answer) :
    Within s (s.selfWriteAnswer src a) := by
  unfold State.selfWriteAnswer
  split
  · exact Within.refl s
  · exact Within.refl s
  · unfold State.selfWriteFault
    split
    · exact Within.refl s
    · exact raise_within s _ _ _

theorem selfAnswer_within (src : SelfSource) (a : Answer) : Within s (s.selfAnswer src a) := by
  cases src with
  | anchorRead => exact endValidation_within s a
  | orderFetch => exact fetchAnswer_within s a
  | completionEntry kind restart =>
    show Within s (s.entryAnswer kind restart a)
    unfold State.entryAnswer
    split
    · exact enterUnplanned_within s
    · split
      · exact Within.refl s
      · exact selfWriteAnswer_within s _ a
  | report => exact reportAnswer_within s _
  | requestRead m => exact requestReturn_within s m a
  | answerRead m => exact answerReturn_within s m a
  | _ => exact selfWriteAnswer_within s _ a

theorem answerAt_within (i : Nat) (a : Answer) : Within s (s.answerAt i a) := by
  have hdrop := dropAwaiting_within s i
  unfold State.answerAt
  split
  · exact Within.refl s
  · split
    · unfold State.answerWith
      dsimp only
      split
      · exact (hdrop.trans (respond_within _ _ _)).trans (watchAnswered_within _ _ a)
      · exact hdrop.trans (pieceAnswer_within _ _ _ a)
      · exact hdrop.trans (selfAnswer_within _ _ a)
    · exact Within.refl s

theorem answerSelf_within (src : SelfSource) (a : Answer) : Within s (s.answerSelf src a) := by
  unfold State.answerSelf
  split
  · exact Within.refl s
  · exact answerAt_within s _ a

theorem answerRestart_within (a : Answer) : Within s (s.answerRestart a) := by
  unfold State.answerRestart
  split
  · exact Within.refl s
  · exact answerAt_within s _ a

theorem answerMark_within (i : Nat) (k : MarkKind) : Within s (s.answerMark i k) := by
  unfold State.answerMark
  split
  · exact answerAt_within s i _
  · exact Within.refl s

theorem answerSignature_within (i : Nat) : Within s (s.answerSignature i) := by
  unfold State.answerSignature
  split
  · exact answerAt_within s i _
  · exact Within.refl s

theorem answerOrderCount_within (i : Nat) : Within s (s.answerOrderCount i) := by
  unfold State.answerOrderCount
  split
  · exact answerAt_within s i _
  all_goals exact Within.refl s

theorem answerCompletionCount_within (i : Nat) : Within s (s.answerCompletionCount i) := by
  unfold State.answerCompletionCount
  split
  · exact answerAt_within s i _
  all_goals exact Within.refl s

/-! ## The work of an event at that event -/

theorem settleRings_within : Within s s.settleRings := by
  unfold State.settleRings
  exact ((((((placeWaiting_within s).trans (deliver_within _)).trans (writeHeld_within _)).trans
    (endCloses_within _ _)).trans (writeTimingDone_within _)).trans
      ((endDraining_within _).trans (startFetch_within _))).trans (endPass_within _)

theorem settle_within : Within s s.settle :=
  (((((settleRings_within s).trans (retestArrival_within _)).trans (voiceUpkeep_within _)).trans
    (grantAll_within _)).trans (retestArrival_within _)).trans (setAlert_within _ _)

theorem Within.settled {s u : State} (h : Within s u) : Within s u.settle :=
  h.trans (settle_within u)

/-- An event at an instant, and the work it brings about. -/
theorem Within.event {s u : State} {t : Instant} (h : Within (s.atInstant t) u) :
    Within s u.settle := ((atInstant_within s t).trans h).settled

end

/-! ## Commands -/

/-- Every command but those of the reset pin keeps the bounds. -/
theorem exec_within {c : Instr} (hc : resets c = false) (s : State) :
    ∃ u, exec c s = .next u ∧ Within s u := by
  cases c with
  | hardReset => cases hc
  | resetNRise a b => cases hc
  | read t ep addr len => exact ⟨_, rfl, (offer_within _ _).event⟩
  | write t ep addr data => exact ⟨_, rfl, (offer_within _ _).event⟩
  | readReserve t ep addr len => exact ⟨_, rfl, (offer_within _ _).event⟩
  | writeIfReserved t ep addr data => exact ⟨_, rfl, (offer_within _ _).event⟩
  | transformEntry t => exact ⟨_, rfl, (transformNext_within _).event⟩
  | downstreamGrant t => exact ⟨_, rfl, (grantDown_within _).event⟩
  | memoryAnswer t i a => exact ⟨_, rfl, (answerAt_within _ i a).event⟩
  | responseReturn t ep =>
    exact ⟨_, rfl, (atInstant_within s t).trans (returnResponse_within _ ep)⟩
  | selfTrafficPlacement t => exact ⟨_, rfl, (placeWaiting_within _).event⟩
  | ringDrainEnd t r => exact ⟨_, rfl, (endRingDrain_within _ r).event⟩
  | signatureWrite t i => exact ⟨_, rfl, (answerSignature_within _ i).event⟩
  | anchorSelfReadReturn t a => exact ⟨_, rfl, (answerSelf_within _ _ a).event⟩
  | orderProducerCountWrite t i => exact ⟨_, rfl, (answerOrderCount_within _ i).event⟩
  | completionConsumerCountWrite t i => exact ⟨_, rfl, (answerCompletionCount_within _ i).event⟩
  | claim t i => exact ⟨_, rfl, (answerMark_within _ i _).event⟩
  | release t i => exact ⟨_, rfl, (answerMark_within _ i _).event⟩
  | goAdmit t i => exact ⟨_, rfl, (answerMark_within _ i _).event⟩
  | goResign t i => exact ⟨_, rfl, (answerMark_within _ i _).event⟩
  | goAnswer t i => exact ⟨_, rfl, (answerMark_within _ i _).event⟩
  | requestSelfReadReturn t m a => exact ⟨_, rfl, (answerSelf_within _ _ a).event⟩
  | answerSelfReadReturn t m a => exact ⟨_, rfl, (answerSelf_within _ _ a).event⟩
  | orderFetchStart t => exact ⟨_, rfl, (startFetch_within _).event⟩
  | orderFetchFault t => exact ⟨_, rfl, (answerSelf_within _ _ _).event⟩
  | badOrderKind t kind => exact ⟨_, rfl, (returnUnknown_within _ kind).event⟩
  | openCall t call count level e0 e1 e2 e3 key =>
    exact ⟨_, rfl, (returnOrder_within _ _).event⟩
  | addMember t call ep => exact ⟨_, rfl, (returnOrder_within _ _).event⟩
  | dropMember t call ep => exact ⟨_, rfl, (returnOrder_within _ _).event⟩
  | closeCall t call => exact ⟨_, rfl, (returnOrder_within _ _).event⟩
  | rekeyNow t call level => exact ⟨_, rfl, (returnOrder_within _ _).event⟩
  | setTiming t source period => exact ⟨_, rfl, (returnOrder_within _ _).event⟩
  | setEndpoint t ep role order => exact ⟨_, rfl, (returnOrder_within _ _).event⟩
  | setDirectory t index enabled number secret =>
    exact ⟨_, rfl, (returnOrder_within _ _).event⟩
  | revoke t ep => exact ⟨_, rfl, (returnOrder_within _ _).event⟩
  | unlock t index => exact ⟨_, rfl, (returnOrder_within _ _).event⟩
  | reportEndpoints t first count buffer => exact ⟨_, rfl, (returnOrder_within _ _).event⟩
  | reportCall t call buffer => exact ⟨_, rfl, (returnOrder_within _ _).event⟩
  | reportSummary t buffer => exact ⟨_, rfl, (returnOrder_within _ _).event⟩
  | reportCompletion t => exact ⟨_, rfl, (finishReport_within _).event⟩
  | restart t => exact ⟨_, rfl, (returnOrder_within _ _).event⟩
  | drainingEnd t => exact ⟨_, rfl, (endDraining_within _).event⟩
  | unplannedEntry t a => exact ⟨_, rfl, (answerRestart_within _ a).event⟩
  | noticeDelivery t => exact ⟨_, rfl, (deliver_within _).event⟩
  | heldCompletionWrite t => exact ⟨_, rfl, (writeHeld_within _).event⟩
  | internalExpiry => exact ⟨_, rfl, (internalExpiry_within s).settled⟩
  | guardExpiry => exact ⟨_, rfl, (guardExpiry_within s).settled⟩
  | fsyncEdge t => exact ⟨_, rfl, (edge_within _).event⟩
  | admitAging t => exact ⟨_, rfl, (ageRequests_within _).event⟩
  | lockExpiry t => exact ⟨_, rfl, (expireLocks_within _).event⟩
  | timingChangeTakeEffect cause => exact ⟨_, rfl, (tickArmed_within s cause).settled⟩
  | blankingEnd cause => exact ⟨_, rfl, (tickBlanking_within s cause).settled⟩
  | timingChangeCompletion t => exact ⟨_, rfl, (writeTimingDone_within _).event⟩
  | visit t => exact ⟨_, rfl, (visitNext_within _).event⟩
  | rekeyCountdownExpiry t => exact ⟨_, rfl, (visitRekey_within _).event⟩
  | slotCheck t => exact ⟨_, rfl, (checkNext_within _).event⟩
  | slotDeadlineExpiry t => exact ⟨_, rfl, (checkExpiry_within _).event⟩
  | callCloseEnd t call => exact ⟨_, rfl, (endClose_within _ call).event⟩
  | activationWindowLeave => exact ⟨_, rfl, (leaveWindow_within s).settled⟩
  | callActivationCompletion lane => exact ⟨_, rfl, (completeCallLane_within s lane).settled⟩
  | entryActivationCompletion lane => exact ⟨_, rfl, (completeEntryLane_within s lane).settled⟩

theorem within_of_fresh {s u : State} (h : u.Fresh) : Within s u where
  port _ := Reset.portBounded_of_fresh h
  selfQ _ := Reset.selfQueueBounded_of_fresh h
  starts _ := Reset.startsBounded_of_fresh h
  calls _ := Reset.callsBounded_of_fresh h
  fails _ := Reset.failsBounded_of_fresh h
  backlog _ := Reset.backlogDistinct_of_fresh h
  completions _ := Reset.completionsBounded_of_fresh h
  responses _ := Reset.responsesDistinct_of_fresh h

theorem within_of_exec {c : Instr} {s u : State} (h : exec c s = .next u) : Within s u := by
  cases hc : resets c with
  | false =>
    obtain ⟨v, hv, hwithin⟩ := exec_within hc s
    rw [hv] at h
    cases h
    exact hwithin
  | true =>
    cases c with
    | hardReset => cases h; exact within_of_fresh (Reset.hardReset_fresh s)
    | resetNRise a b => cases h; exact within_of_fresh (Reset.riseReset_fresh s a b)
    | _ => cases hc

theorem within_of_step {s u : State} (h : step s = .next u) : Within s u := by
  unfold step at h
  split at h
  · cases h; exact Within.refl s
  · rename_i c rest _
    have hpop : Within s { s with pending := rest } := { Within.refl s with }
    exact hpop.trans (within_of_exec h)

/-- Settles O57: reset meets the bounds, and every other command keeps them. -/
theorem boundsKept : Obligations.BoundsKept := by
  intro s u h
  obtain ⟨hport, hselfQ, hstarts, hcalls, hfails, hbacklog, hcompletions, hresponses⟩ :=
    within_of_step h
  exact ⟨hport, hselfQ, hstarts, hcalls, hfails, hbacklog, hcompletions, hresponses⟩

end Sys2Proof.Bounds

namespace Sys2Proof.Settling

open Sys2Proof Sys2Proof.Machine Sys2Proof.Laws Sys2Proof.Pairs

/-! ## What the work that follows an event can change (log 7) -/

/-- Only what the work after an event moves differs: the call fields of endpoints, the rings that go
FREE, the calls that close, the lanes and their requests, the timer's pass and change, the engine's
completions and fetch, the self-traffic queue, which only grows at its end, the waiting places and
ALERT. -/
structure Settles (s u : State) : Prop where
  only : u = { s with
    endpoints := u.endpoints, rings := u.rings, calls := u.calls, lanes := u.lanes
    waiting := u.waiting, starts := u.starts, timer := u.timer, engine := u.engine
    port := u.port, alert := u.alert } := by exact rfl
  endpoint : ∀ e : EpNo, u.endpoints[e] =
    { s.endpoints[e] with call := u.endpoints[e].call } := by exact fun _ => rfl
  call : ∀ c : CallNo, s.calls[c].state ≠ .closing →
    u.calls[c] = { s.calls[c] with lane := u.calls[c].lane } := by exact fun _ _ => rfl
  ring : ∀ r : RingNo, u.rings[r] = s.rings[r] ∨ u.rings[r] = Ring.free := by
    exact fun _ => .inl rfl
  timer : u.timer = { s.timer with
    pass := u.timer.pass, pendingTick := u.timer.pendingTick, change := u.timer.change } := by
      exact rfl
  orderProducer : u.engine.orderProducer = s.engine.orderProducer := by exact rfl
  orderConsumed : u.engine.orderConsumed = s.engine.orderConsumed := by exact rfl
  completionConsumer : u.engine.completionConsumer = s.engine.completionConsumer := by exact rfl
  port : u.port = { s.port with
    arrival := u.port.arrival, hold := u.port.hold, selfQ := u.port.selfQ
    waiters := u.port.waiters } := by exact rfl
  waits : u.port.hold ++ u.port.arrival.toList = s.port.hold ++ s.port.arrival.toList := by
    exact rfl
  queue : s.port.selfQ <+: u.port.selfQ := by exact List.prefix_refl _

theorem Settles.refl (s : State) : Settles s s where

theorem Settles.callState {s u : State} (h : Settles s u) {c : CallNo}
    (hc : s.calls[c].state ≠ .closing) : u.calls[c].state = s.calls[c].state := by
  rw [h.call c hc]

theorem Settles.trans {s u v : State} (h : Settles s u) (k : Settles u v) : Settles s v where
  only := by rw [k.only, h.only]
  endpoint e := by rw [k.endpoint e, h.endpoint e]
  call c hc := by rw [k.call c (by rwa [h.callState hc]), h.call c hc]
  ring r := by
    rcases k.ring r with hk | hk
    · exact hk ▸ h.ring r
    · exact .inr hk
  timer := by rw [k.timer, h.timer]
  orderProducer := k.orderProducer.trans h.orderProducer
  orderConsumed := k.orderConsumed.trans h.orderConsumed
  completionConsumer := k.completionConsumer.trans h.completionConsumer
  port := by rw [k.port, h.port]
  waits := k.waits.trans h.waits
  queue := h.queue.trans k.queue

section

variable (s : State)

/-! ### Self traffic and the engine's completions -/

theorem setEngine_settles (g : Engine) (hp : g.orderProducer = s.engine.orderProducer := by rfl)
    (ho : g.orderConsumed = s.engine.orderConsumed := by rfl)
    (hc : g.completionConsumer = s.engine.completionConsumer := by rfl) :
    Settles s (s.setEngine g) :=
  { orderProducer := hp, orderConsumed := ho, completionConsumer := hc }

theorem addSelf_settles (es : List SelfEntry) (w : List Waiter) :
    Settles s (s.setPort { s.port with selfQ := s.port.selfQ ++ es, waiters := w }) :=
  { queue := List.prefix_append _ _ }

theorem setWaiters_settles (w : List Waiter) :
    Settles s (s.setPort { s.port with waiters := w }) := {}

theorem setTimer_settles (x : Timer) (h : x = { s.timer with
    pass := x.pass, pendingTick := x.pendingTick, change := x.change } := by rfl) :
    Settles s (s.setTimer x) := { timer := h }

theorem setAlert_settles (b : Bool) : Settles s { s with alert := b } := {}

theorem place_settles (b : Block) (p : Bool) (es : List SelfEntry) :
    Settles s (s.place b p es) := by
  rw [place_eq]
  split
  · exact addSelf_settles s es s.port.waiters
  · exact setWaiters_settles s _

theorem writeCompletion_settles (b : Block) (p : Bool) (c : Completion) (r : Bool) :
    Settles s (s.writeCompletion b p c r) :=
  (setEngine_settles s _).trans (place_settles _ b p _)

theorem writeAll_settles (cs : List Completion) (s : State) : Settles s (s.writeAll cs) := by
  induction cs generalizing s with
  | nil => exact Settles.refl s
  | cons c cs ih => exact (writeCompletion_settles s _ _ _ _).trans (ih _)

theorem deliverN_settles (n : Nat) (s : State) : Settles s (State.deliverN n s) := by
  induction n generalizing s with
  | zero => exact Settles.refl s
  | succ n ih =>
    unfold State.deliverN
    split
    · exact Settles.refl s
    · split
      · exact ((setEngine_settles s _).trans (writeCompletion_settles _ _ _ _ _)).trans (ih _)
      · exact Settles.refl s

theorem deliver_settles : Settles s s.deliver := deliverN_settles _ s

theorem writeHeld_settles : Settles s s.writeHeld := by
  unfold State.writeHeld
  split
  · exact Settles.refl s
  · split
    · exact (setEngine_settles s _).trans (writeCompletion_settles _ _ _ _ _)
    · exact Settles.refl s

theorem placeReportN_settles (n : Nat) (s : State) : Settles s (State.placeReportN n s) := by
  induction n generalizing s with
  | zero => exact Settles.refl s
  | succ n ih =>
    unfold State.placeReportN
    split
    · split
      · split
        · exact ((addSelf_settles s _ s.port.waiters).trans (setEngine_settles _ _)).trans (ih _)
        · exact setWaiters_settles s _
      · exact Settles.refl s
    all_goals exact Settles.refl s

theorem placeReport_settles : Settles s s.placeReport := placeReportN_settles _ s

theorem placeWaitingN_settles (n : Nat) (s : State) : Settles s (State.placeWaitingN n s) := by
  induction n generalizing s with
  | zero => exact Settles.refl s
  | succ n ih =>
    unfold State.placeWaitingN
    split
    · exact Settles.refl s
    · split
      · exact (addSelf_settles s _ _).trans (ih _)
      · exact Settles.refl s
    · split
      · split
        · exact (((addSelf_settles s _ _).trans (setEngine_settles _ _)).trans
            (placeReport_settles _)).trans (ih _)
        all_goals exact (setWaiters_settles s _).trans (ih _)
      · exact Settles.refl s

theorem placeWaiting_settles : Settles s s.placeWaiting := placeWaitingN_settles _ s

theorem writeTimingDone_settles : Settles s s.writeTimingDone := by
  unfold State.writeTimingDone
  split
  · split
    · exact (setTimer_settles s _).trans (writeCompletion_settles _ _ _ _ _)
    · exact Settles.refl s
  all_goals exact Settles.refl s

theorem endDraining_settles : Settles s s.endDraining := by
  unfold State.endDraining
  split
  · split
    · exact (setEngine_settles s _).trans (writeCompletion_settles _ _ _ _ _)
    · exact Settles.refl s
  all_goals exact Settles.refl s

theorem startFetch_settles : Settles s s.startFetch := by
  unfold State.startFetch
  split
  · exact (setEngine_settles s _).trans (place_settles _ _ _ _)
  · exact Settles.refl s

theorem endPass_settles : Settles s s.endPass := by
  unfold State.endPass
  split
  · exact Settles.refl s
  · split
    · exact Settles.refl s
    · split
      · exact Settles.refl s
      · split
        · exact Settles.refl s
        · split
          · exact setTimer_settles s _
          · exact setTimer_settles s _

/-! ### Ended closes (R111) -/

/-- A CLOSING call's rings go FREE and its members leave it. -/
theorem emptiedState_settles (c : CallNo) : Settles s (emptiedState s c) := by
  have hep : ∀ e : EpNo, (emptiedState s c).endpoints[e] =
      { s.endpoints[e] with call := (emptiedState s c).endpoints[e].call } := fun e => by
    unfold emptiedState
    rw [(clearCalls_spec _ _).2 e]
    split <;> rfl
  have hring := freeOwned_get c s.rings
  rw [emptiedState_only] at hep ⊢
  exact { endpoint := hep, ring := hring }

theorem releaseLane_settles (c : CallNo) : Settles s (s.releaseLane c) := by
  rw [releaseLane_only]
  exact {}

theorem setClosing_settles {c : CallNo} (hc : s.calls[c].state = .closing) (x : Call) :
    Settles s (s.setCall c x) where
  call c' hc' := by
    have hne : c' ≠ c := by
      rintro rfl
      exact hc' hc
    rw [setCall_get_ne _ _ hne]

theorem endClose_settles (c : CallNo) : Settles s (s.endClose c) := by
  unfold State.endClose
  split
  · rename_i h
    obtain ⟨hbusy, -⟩ := Bool.and_eq_true_iff.1 h
    have hc : s.calls[c].state = .closing := of_decide_eq_true (Bool.and_eq_true_iff.1 hbusy).1
    have hwritten := writeAll_settles (s.calls[c].closeCompletions c) s
    have hcalls : (s.writeAll (s.calls[c].closeCompletions c)).calls = s.calls := by
      obtain ⟨g, q, w, hu⟩ := writeAll_only s (s.calls[c].closeCompletions c)
      rw [hu]
    rw [freeCall_eq]
    generalize s.writeAll (s.calls[c].closeCompletions c) = u at hwritten hcalls
    have hreleased := (emptiedState_settles u c).trans (releaseLane_settles _ c)
    have hcalls' : ((emptiedState u c).releaseLane c).calls = s.calls := by
      rw [releaseLane_only, ← hcalls]
      exact emptiedState_calls u c
    exact (hwritten.trans hreleased).trans (setClosing_settles _ (by rw [hcalls']; exact hc) _)
  · exact Settles.refl s

theorem endCloses_settles (cs : List CallNo) (s : State) : Settles s (s.endCloses cs) := by
  induction cs generalizing s with
  | nil => exact Settles.refl s
  | cons c cs ih => exact (endClose_settles s c).trans (ih _)

/-! ### The hold queue and the lane bank -/

theorem lanesOnly_settles {u : State} (h : LanesOnly s u) : Settles s u := by
  obtain ⟨hu, hcalls⟩ := h
  rw [hu]
  exact { call := fun c _ => hcalls c }

theorem retestArrival_settles : Settles s s.retestArrival := by
  have hwaits := retestArrival_hold s
  rw [retestArrival_only] at hwaits ⊢
  exact { waits := hwaits }

theorem settleRings_placed : Settles s.placeWaiting s.settleRings := by
  unfold State.settleRings
  exact (((((deliver_settles _).trans (writeHeld_settles _)).trans
    (endCloses_settles _ _)).trans (writeTimingDone_settles _)).trans
      ((endDraining_settles _).trans (startFetch_settles _))).trans (endPass_settles _)

theorem settleLanes_settles : Settles s s.settleLanes :=
  (((retestArrival_settles s).trans (lanesOnly_settles _ (voiceUpkeep_lanesOnly _))).trans
    (lanesOnly_settles _ (grantAll_lanesOnly _))).trans (retestArrival_settles _)

/-- The work after an event goes on from the state that placing what waits leaves (log 7). -/
theorem settle_placed : Settles s.placeWaiting s.settle :=
  ((settleRings_placed s).trans (settleLanes_settles _)).trans (setAlert_settles _ _)

theorem settle_settles : Settles s s.settle := (placeWaiting_settles s).trans (settle_placed s)

end

/-- Settles O5, stage by stage of the work. -/
theorem settleKeeps : Obligations.SettleKeeps := by
  intro s
  have h := settle_settles s
  generalize s.settle = u at h ⊢
  refine ⟨u, rfl, (congrArg State.now h.only :), (congrArg State.resetLow h.only :),
    (congrArg State.anchorSel h.only :), (congrArg State.bootEp h.only :), (congrArg State.part h.only :), (congrArg State.plan h.only :),
    (congrArg State.validator h.only :), (congrArg State.directory h.only :),
    (congrArg State.mailboxes h.only :), (congrArg State.monitor h.only :),
    (congrArg State.challengeCtr h.only :), (congrArg State.pending h.only :), h.endpoint,
    fun c hc => h.call c (by rw [hc]; simp), fun c hc => h.call c (by rw [hc]; simp), h.ring,
    h.timer, ⟨h.orderProducer, h.orderConsumed, h.completionConsumer⟩, h.port⟩

end Sys2Proof.Settling

namespace Sys2Proof.Offers

open Sys2Proof Sys2Proof.Machine Sys2Proof.Laws

/-! ## Requests offered (R18, R19, R20, R23) -/

theorem satSucc_eq_min (max n : Nat) : satSucc max n = min max (n + 1) := by
  unfold satSucc
  split <;> omega

/-- A violation raises the count of its kind and becomes the last kind (R23). -/
theorem refused_eq (e : EndpointRec) (v : Violation) : e.refused v = { e with
    shapeCount := if v = .shape then min 255 (e.shapeCount + 1) else e.shapeCount
    windowCount := if v = .window then min 255 (e.windowCount + 1) else e.windowCount
    foreignCount := if v = .foreign then min 255 (e.foreignCount + 1) else e.foreignCount
    partialCount := if v = .partialSample then min 255 (e.partialCount + 1) else e.partialCount
    mailboxCount := if v = .mailbox then min 255 (e.mailboxCount + 1) else e.mailboxCount
    lastViolation := some v } := by
  cases v <;> simp [EndpointRec.refused, satSucc_eq_min]

theorem offer_accepted {s : State} {r : Request} (h : s.accepts = true) (h1 : 1 ≤ r.len)
    (h16 : r.len ≤ 16) : s.offer r = (s.enrol r.ep).arrive (s.accepted s.port.nextId r) := by
  unfold State.offer
  rw [if_pos]
  simp [h, lengthOk, h1, h16]

theorem offer_kept_back {s : State} (r : Request) (h : s.accepts ≠ true) : s.offer r = s := by
  unfold State.offer
  rw [if_neg]
  exact fun hgo => h (Bool.and_eq_true_iff.1 hgo).1

/-- Settles O9: the port accepts exactly under R18's conditions, and what it accepts is refused or
stands in the arrival stage. -/
theorem requestAcceptedRefusedOrKeptBack : Obligations.RequestAcceptedRefusedOrKeptBack := by
  intro s c t r hoffer h1 h16
  rw [Reset.exec_of_offers hoffer s]
  refine ⟨fun hlow harrival hhold hresp => ?_, fun hback => ?_⟩
  · have haccepts : (s.atInstant t).accepts = true :=
      (Bounds.accepts_iff _).2 ⟨hlow, harrival, hhold, hresp⟩
    rw [offer_accepted haccepts h1 h16]
    unfold State.arrive
    refine ⟨fun hnone => ?_, fun v hv => ?_⟩
    · have hnone' : ((s.atInstant t).enrol r.ep).arrivalRefusal
          ((s.atInstant t).accepted (s.atInstant t).port.nextId r) = none := hnone
      rw [hnone']
      rfl
    · have hv' : ((s.atInstant t).enrol r.ep).arrivalRefusal
          ((s.atInstant t).accepted (s.atInstant t).port.nextId r) = some v := hv
      rw [hv']
      refine ⟨_, rfl, ?_, fun e he => setEp_get_ne _ _ he, rfl⟩
      rw [← refused_eq]
      exact setEp_get_self _ _ _
  · rw [offer_kept_back]
    intro haccepts
    obtain ⟨hlow, harrival, hhold, hresp⟩ := (Bounds.accepts_iff _).1 haccepts
    rcases hback with h | h | h | h
    · exact absurd (h.symm.trans hlow) (by simp)
    · exact h harrival
    · exact absurd hhold (Nat.not_lt.2 h)
    · exact absurd hresp (Nat.not_lt.2 h)

/-! ## Responses returned (R19) -/

/-- The oldest entry of an endpoint is the one that no entry of it precedes. -/
theorem oldestOf_eq {s : State} {e : EpNo} {pre post : List RespEntry} {r : RespEntry}
    (h : s.port.responses = pre ++ r :: post) (hpre : ∀ x ∈ pre, x.ep ≠ e) (hr : r.ep = e) :
    s.oldestOf e = some r := by
  unfold State.oldestOf
  rw [h, List.find?_append, List.find?_eq_none.2 (by simpa using hpre)]
  simp [hr]

/-- With distinct identities one entry alone leaves the table. -/
theorem filter_id_ne {pre post : List RespEntry} {r : RespEntry}
    (h : ((pre ++ r :: post).map RespEntry.id).Nodup) :
    (pre ++ r :: post).filter (fun y => y.id ≠ r.id) = pre ++ post := by
  rw [List.map_append, List.map_cons, List.nodup_append, List.nodup_cons] at h
  obtain ⟨-, ⟨hpost, -⟩, hpre⟩ := h
  have keep : ∀ l : List RespEntry, (∀ x ∈ l, x.id ≠ r.id) →
      l.filter (fun y => y.id ≠ r.id) = l := fun l hl => List.filter_eq_self.2 (by simpa using hl)
  rw [List.filter_append, List.filter_cons_of_neg (by simp),
    keep pre fun x hx => hpre _ (List.mem_map_of_mem hx) _ List.mem_cons_self,
    keep post fun x hx hid => hpost (hid ▸ List.mem_map_of_mem hx)]

/-- Settles O24: the endpoint's oldest entry alone is returned, once it is decided. -/
theorem responseReturnedInOrder : Obligations.ResponseReturnedInOrder := by
  intro s t e pre post r hresp hpre hr hnodup
  have holdest : (s.atInstant t).oldestOf e = some r := oldestOf_eq (s := s) hresp hpre hr
  have hfilter : s.port.responses.filter (fun y => y.id ≠ r.id) = pre ++ post := by
    rw [hresp] at hnodup ⊢
    exact filter_id_ne hnodup
  refine ⟨fun hnone => ?_, fun x hx => ?_⟩
  · show Host.Outcome.next ((s.atInstant t).returnResponse e) = _
    rw [State.returnResponse, holdest]
    simp only [hnone]
  · show Host.Outcome.next ((s.atInstant t).returnResponse e) = _
    rw [State.returnResponse, holdest, ← hfilter]
    simp only [hx]
    rfl

end Sys2Proof.Offers

namespace Sys2Proof.Holding

open Sys2Proof Sys2Proof.Machine Sys2Proof.Laws Sys2Proof.Settling

/-! ## Holding and entry (R25 to R28, R47) -/

section

variable (s : State) (a : Accepted)

theorem isVoice_iff : a.isVoice = true ↔ a.region = .voice := decide_eq_true_iff

theorem sharesSlot_false_iff (b : Accepted) :
    b.sharesSlot a = false ↔ ∀ k ∈ b.touched, k ∉ a.touched := by
  simp [Accepted.sharesSlot]

/-- No earlier held request of the endpoint (R25). -/
theorem endpointObstacle_false_iff : s.endpointObstacle a = false ↔
    ∀ h ∈ s.port.hold, h.id < a.id → h.req.ep ≠ a.req.ep := by
  simp [State.endpointObstacle]

/-- No earlier VOICE request held or in transform touches a common slot (R26). -/
theorem slotObstacle_false_iff : s.slotObstacle a = false ↔
    (∀ h ∈ s.port.hold, h.region = .voice → h.id < a.id → ∀ k ∈ h.touched, k ∉ a.touched)
    ∧ ∀ x ∈ s.port.xforms, x.acc.id < a.id → ∀ k ∈ x.acc.touched, k ∉ a.touched := by
  simp only [State.slotObstacle, Bool.or_eq_false_iff, List.any_eq_false, Bool.and_eq_true,
    decide_eq_true_eq, isVoice_iff, not_and, and_imp, Bool.not_eq_true, sharesSlot_false_iff]

theorem obstacle_false_iff : s.obstacle a = false ↔
    (∀ h ∈ s.port.hold, h.id < a.id → h.req.ep ≠ a.req.ep)
    ∧ (a.region = .voice →
      (∀ h ∈ s.port.hold, h.region = .voice → h.id < a.id → ∀ k ∈ h.touched, k ∉ a.touched)
      ∧ ∀ x ∈ s.port.xforms, x.acc.id < a.id → ∀ k ∈ x.acc.touched, k ∉ a.touched) := by
  rw [State.obstacle, Bool.or_eq_false_iff, endpointObstacle_false_iff, Bool.and_eq_false_imp,
    isVoice_iff, slotObstacle_false_iff]

/-- The OPEN call of a VOICE request's ring, where the endpoint is a member of it (R27, R47). -/
theorem memberCall_iff (c : CallNo) : s.memberCall a = some c ↔ a.region = .voice
    ∧ ((∃ o, s.rings[a.ring].state = .owned c o) ∨ s.rings[a.ring].state = .draining c)
    ∧ s.calls[c].state = .opened ∧ ∃ m ∈ s.calls[c].members, m.ep = a.req.ep := by
  have hring : s.rings[a.ring].state.call? = some c ↔
      (∃ o, s.rings[a.ring].state = .owned c o) ∨ s.rings[a.ring].state = .draining c := by
    cases s.rings[a.ring].state <;> simp [RingState.call?]
  rw [← hring, ← isVoice_iff]
  unfold State.memberCall
  by_cases hv : a.isVoice = true
  · rw [if_pos hv]
    cases s.rings[a.ring].state.call? with
    | none => simp
    | some c' =>
      by_cases hc : c' = c
      · subst hc
        simp [hv, Call.hasMember]
      · simp [hc]
  · rw [if_neg hv]
    simp [hv]

theorem readyLane_isNone_iff (c : CallNo) : (s.readyLane c).isNone = false ↔
    ∃ l, s.calls[c].lane = some l ∧ s.lanes[l].state = .ready := by
  unfold State.readyLane
  cases s.calls[c].lane with
  | none => simp
  | some l => simp [Lane.isReady]

theorem laneCondition_false_iff : s.laneCondition a = false ↔ ∀ c, s.memberCall a = some c →
    ∃ l, s.calls[c].lane = some l ∧ s.lanes[l].state = .ready := by
  unfold State.laneCondition
  cases s.memberCall a with
  | none => simp
  | some c =>
    simp only [Option.some.injEq, forall_eq']
    exact readyLane_isNone_iff s c

theorem eligible_iff : s.eligible a = true ↔ a.region = .voice
    ∧ (∀ h ∈ s.port.hold, h.id < a.id → h.req.ep ≠ a.req.ep)
    ∧ (∀ h ∈ s.port.hold, h.region = .voice → h.id < a.id → ∀ k ∈ h.touched, k ∉ a.touched)
    ∧ (∀ x ∈ s.port.xforms, x.acc.id < a.id → ∀ k ∈ x.acc.touched, k ∉ a.touched)
    ∧ ∀ c, s.memberCall a = some c →
      ∃ l, s.calls[c].lane = some l ∧ s.lanes[l].state = .ready := by
  rw [State.eligible, Bool.and_eq_true, Bool.and_eq_true, Bool.not_eq_true', Bool.not_eq_true',
    isVoice_iff, obstacle_false_iff, laneCondition_false_iff]
  constructor
  · rintro ⟨⟨hv, hep, hslots⟩, hlane⟩
    exact ⟨hv, hep, (hslots hv).1, (hslots hv).2, hlane⟩
  · rintro ⟨hv, hep, hhold, hxform, hlane⟩
    exact ⟨⟨hv, hep, fun _ => ⟨hhold, hxform⟩⟩, hlane⟩

/-- A request of at most 16 words touches one slot or two neighbours (R24, R26). -/
theorem mem_touched_iff (h1 : 1 ≤ a.req.len) (h16 : a.req.len ≤ 16) (k : Nat) :
    k ∈ a.touched ↔ ∃ i < a.req.len, k = a.voiceWord + 80 * ((a.off + i) / 80) := by
  have hmem : k ∈ a.touched ↔ k = a.voiceWord + 80 * (a.off / 80)
      ∨ k = a.voiceWord + 80 * ((a.off + a.req.len - 1) / 80) := by
    unfold Accepted.touched
    dsimp only
    split
    · rename_i h
      rw [← h]
      simp
    · simp
  rw [hmem]
  constructor
  · rintro (h | h)
    · exact ⟨0, by omega, by simpa using h⟩
    · exact ⟨a.req.len - 1, by omega, by rw [h, Nat.add_sub_assoc h1]⟩
  · rintro ⟨i, hi, rfl⟩
    omega

/-- A request that stays in the arrival stage has nothing to wait for (R20). -/
theorem retestArrival_stays (h : s.retestArrival.port.arrival = some a) :
    s.retestArrival = s ∧ s.obstacle a = false ∧ s.laneCondition a = false
      ∧ (a.region = .voice → s.port.xforms.length < 4) := by
  unfold State.retestArrival at h ⊢
  split
  · rename_i hnone
    simp only [hnone] at h
    exact absurd h (by simp)
  · rename_i b hb
    simp only [hb] at h
    split at h
    · cases h
    · rename_i hgo
      obtain rfl : b = a := Option.some.inj (hb.symm.trans h)
      simp only [Bool.or_eq_true, Bool.and_eq_true, not_or, Bool.not_eq_true, not_and,
        isVoice_iff] at hgo
      obtain ⟨⟨hobs, hlane⟩, hroom⟩ := hgo
      refine ⟨if_neg ?_, hobs, hlane, fun hv => Nat.lt_of_not_le (of_decide_eq_false (hroom hv))⟩
      simp [hobs, hlane]
      exact fun hv => Nat.lt_of_not_le (of_decide_eq_false (hroom ((isVoice_iff b).1 hv)))

theorem earlier_asymm (a b : Accepted) (h : earlier a b = true) : earlier b a = false := by
  simp only [earlier, decide_eq_true_eq, decide_eq_false_iff_not] at *
  omega

theorem earlier_trans (a b c : Accepted) (h : earlier a b = false) (k : earlier b c = false) :
    earlier a c = false := by
  simp only [earlier, decide_eq_false_iff_not] at *
  omega

theorem nextEntry_first {a : Accepted} (h : s.nextEntry = some a) :
    s.port.xforms.length < 4 ∧ a ∈ s.port.hold ++ s.port.arrival.toList ∧ s.eligible a = true
    ∧ ∀ b ∈ s.port.hold ++ s.port.arrival.toList, s.eligible b = true → a.id ≤ b.id := by
  refine ⟨Bounds.nextEntry_room s h, ?_⟩
  unfold State.nextEntry at h
  split at h
  · have hmem := List.mem_filter.1 (firstBy_mem _ _ _ h)
    refine ⟨hmem.1, hmem.2, fun b hb he => ?_⟩
    have hle := firstBy_le earlier earlier_asymm earlier_trans _ _ h b (List.mem_filter.2 ⟨hb, he⟩)
    exact Nat.le_of_not_lt (of_decide_eq_false hle)
  · cases h

theorem nextEntry_none (h : s.nextEntry = none) : 4 ≤ s.port.xforms.length
    ∨ ∀ b ∈ s.port.hold ++ s.port.arrival.toList, s.eligible b = false := by
  unfold State.nextEntry at h
  split at h
  · right
    rw [firstBy_none, List.filter_eq_nil_iff] at h
    exact fun b hb => Bool.eq_false_iff.2 (h b hb)
  · rename_i hroom
    exact .inl (Nat.le_of_not_lt hroom)

/-- The work of an event ends with a retest of the arrival stage (log 19). -/
theorem settle_retested : ∃ v b, s.settle = { State.retestArrival v with alert := b } := ⟨_, _, rfl⟩

end

/-- Settles O10: the last retest of an event leaves no request with an obstacle in the arrival
stage, and the conditions of entry are read off their tests. -/
theorem heldAndEnteredInOrder : Obligations.HeldAndEnteredInOrder := by
  refine ⟨fun s => ?_, fun s => ⟨fun a h => nextEntry_first s h, nextEntry_none s, eligible_iff s,
    memberCall_iff s, mem_touched_iff⟩⟩
  have hwaits := (settle_settles s).waits
  obtain ⟨v, b, hu⟩ := settle_retested s
  generalize s.settle = u at hwaits hu ⊢
  refine ⟨u, rfl, hwaits, fun a ha => ?_⟩
  rw [hu] at ha
  obtain ⟨hsame, hobs, hlane, hroom⟩ := retestArrival_stays v a ha
  obtain ⟨hep, hslots⟩ := (obstacle_false_iff v a).1 hobs
  rw [hu, hsame]
  exact ⟨hep, fun hv =>
    ⟨(hslots hv).1, (hslots hv).2, hroom hv, (laneCondition_false_iff v a).1 hlane⟩⟩

end Sys2Proof.Holding

namespace Sys2Proof.Granting

open Sys2Proof Sys2Proof.Machine Sys2Proof.Laws

/-! ## Grants (R33, R34, R35) -/

/-- The run count after a grant to a forwarded candidate (R34). -/
def runAfter (s : State) : Nat := if s.port.selfQ = [] then 0 else s.port.runCount + 1

/-- The run count gives the turn to a forwarded candidate (R34). -/
def Turn (s : State) : Prop := s.port.selfQ = [] ∨ s.port.runCount < 3

section

variable {s u : State} {c : Candidate}

theorem grantDown_of_high (h : s.resetLow = false) : s.grantDown = s.grantDownN 18 := by
  unfold State.grantDown
  rw [h]
  rfl

theorem exec_grant (h : s.resetLow = false) (t : Instant) :
    exec (.downstreamGrant t) s = .next ((s.atInstant t).grantDownN 18).settle := by
  rw [← grantDown_of_high (s := s.atInstant t) h]
  rfl

theorem grantSelf_eq {e : SelfEntry} {rest : List SelfEntry} (h : s.port.selfQ = e :: rest) :
    s.grantSelf = ((s.setPort { s.port with selfQ := rest }).send e.downstream
      (.self e.src)).setRun 0 := by
  unfold State.grantSelf
  rw [h]

/-- With no forwarded candidate the grant goes to self traffic, where some waits. -/
theorem grantDownN_none (h : s.nextForwarded = none) (n : Nat) :
    s.grantDownN (n + 1) = if s.port.selfQ = [] then s else s.grantSelf := by
  rw [State.grantDownN, h]
  cases s.port.selfQ with
  | nil => rfl
  | cons e rest => rfl

/-- At the run limit the grant goes to self traffic, where some waits. -/
theorem grantDownN_limit (hself : s.port.selfQ ≠ []) (hrun : 3 ≤ s.port.runCount) (n : Nat) :
    s.grantDownN (n + 1) = s.grantSelf := by
  have hwaits : (!s.port.selfQ.isEmpty && decide (Config.runLimit ≤ s.port.runCount)) = true :=
    Bool.and_eq_true_iff.2 ⟨by simpa using hself, decide_eq_true hrun⟩
  have hsome : (!s.port.selfQ.isEmpty) = true := (Bool.and_eq_true_iff.1 hwaits).1
  rw [State.grantDownN]
  cases s.nextForwarded with
  | none => exact if_pos hsome
  | some c => exact if_pos hwaits

/-- In its turn the forwarded candidate is granted: it takes the downstream place, or it is answered
and the next grant follows at once. -/
theorem grantDownN_turn (hc : s.nextForwarded = some c) (hturn : Turn s) (n : Nat) :
    s.grantDownN (n + 1) = if (s.grantForwarded c).2 = true
      then (s.grantForwarded c).1.setRun (runAfter s)
      else (s.grantForwarded c).1.grantDownN n := by
  have hgoes : ¬ (!s.port.selfQ.isEmpty && decide (Config.runLimit ≤ s.port.runCount)) = true := by
    rw [Bool.and_eq_true_iff, decide_eq_true_iff]
    rintro ⟨hself, hrun⟩
    rcases hturn with h | h
    · rw [h] at hself
      exact Bool.noConfusion hself
    · exact Nat.not_lt.2 hrun h
  have hafter : (if (!s.port.selfQ.isEmpty) = true then s.port.runCount + 1 else 0) =
      runAfter s := by
    unfold runAfter
    cases s.port.selfQ <;> rfl
  rw [State.grantDownN, hc]
  refine (if_neg hgoes).trans ?_
  rw [← hafter]
  rcases s.grantForwarded c with ⟨v, _ | _⟩ <;> rfl

theorem grantDownN_sent (hc : s.nextForwarded = some c) (hturn : Turn s)
    (hg : s.grantForwarded c = (u, true)) (n : Nat) :
    s.grantDownN (n + 1) = u.setRun (runAfter s) := by
  rw [grantDownN_turn hc hturn, hg, if_pos rfl]

theorem grantDownN_answered (hc : s.nextForwarded = some c) (hturn : Turn s)
    (hg : s.grantForwarded c = (u, false)) (n : Nat) :
    s.grantDownN (n + 1) = u.grantDownN n := by
  rw [grantDownN_turn hc hturn, hg, if_neg Bool.false_ne_true]

/-- A candidate sent downstream at a grant, with the run count moved. -/
theorem exec_sent (h : s.resetLow = false) (t : Instant)
    (hc : s.nextForwarded = some c) (hturn : s.port.selfQ = [] ∨ s.port.runCount < 3)
    (hg : (s.atInstant t).grantForwarded c = (u, true)) :
    exec (.downstreamGrant t) s = .next (u.setRun (if s.port.selfQ = [] then 0
      else s.port.runCount + 1)).settle := by
  rw [exec_grant h, grantDownN_sent (s := s.atInstant t) hc hturn hg]
  rfl

/-- A grant to a candidate that is no MAILBOX request sends it as it came. -/
theorem grantForwarded_other {a : Accepted} (h : a.region ≠ .mailbox) :
    s.grantForwarded (.request a) =
      ((s.takeOut a).send (a.downstream a.req.kind) (.forwarded a), true) := if_neg h

theorem grantForwarded_mailbox {a : Accepted} (h : a.region = .mailbox) :
    s.grantForwarded (.request a) = (s.takeOut a).grantMailbox a := if_pos h

theorem grantMailbox_read {a : Accepted} (h : a.req.kind = .read) :
    s.grantMailbox a =
      (s.send (a.downstream .read) (.forwarded { a with watch := none }), true) := by
  unfold State.grantMailbox State.monitorAt State.judge
  rw [h]
  rfl

theorem nextPiece_iff {x : Xform} {c : Candidate} : x.nextPiece = some c ↔
    ∃ (p : Piece) (pre post : List Piece), c = .piece x.acc p ∧ x.pieces = pre ++ p :: post
      ∧ p.issued = false ∧ ∀ q ∈ pre, q.issued = true := by
  unfold Xform.nextPiece
  simp only [Option.map_eq_some_iff, List.find?_eq_some_iff_append, Bool.not_eq_true']
  constructor
  · rintro ⟨p, ⟨hp, pre, post, hl, hpre⟩, rfl⟩
    exact ⟨p, pre, post, rfl, hl, hp, fun q hq => by simpa using hpre q hq⟩
  · rintro ⟨p, pre, post, rfl, hl, hp, hpre⟩
    exact ⟨p, ⟨hp, pre, post, hl, fun q hq => by simpa using hpre q hq⟩, rfl⟩

theorem forwardable_iff {a : Accepted} : s.forwardable a = true ↔ a.region ≠ .voice
    ∧ ∀ h ∈ s.port.hold, h.id < a.id → h.req.ep ≠ a.req.ep := by
  rw [← Holding.endpointObstacle_false_iff, Ne, ← Holding.isVoice_iff, State.forwardable]
  simp

theorem mem_candidates_iff : c ∈ s.candidates ↔
    (∃ a ∈ s.port.hold ++ s.port.arrival.toList, c = .request a ∧ a.region ≠ .voice
      ∧ ∀ h ∈ s.port.hold, h.id < a.id → h.req.ep ≠ a.req.ep)
    ∨ ∃ x ∈ s.port.xforms, ∃ (p : Piece) (pre post : List Piece), c = .piece x.acc p
      ∧ x.pieces = pre ++ p :: post ∧ p.issued = false ∧ ∀ q ∈ pre, q.issued = true := by
  unfold State.candidates
  rw [List.mem_append, List.mem_map, List.mem_filterMap]
  refine or_congr ?_ (exists_congr fun x => and_congr_right fun _ => nextPiece_iff)
  simp only [List.mem_filter, forwardable_iff]
  exact ⟨fun ⟨a, ⟨hmem, hgo⟩, hc⟩ => ⟨a, hmem, hc.symm, hgo⟩,
    fun ⟨a, hmem, hc, hgo⟩ => ⟨a, ⟨hmem, hgo⟩, hc.symm⟩⟩

/-- The forwarded candidate that a grant goes to is the earliest accepted one (R35). -/
theorem nextForwarded_first (h : s.nextForwarded = some c) :
    c ∈ s.candidates ∧ ∀ c' ∈ s.candidates, c.id ≤ c'.id := by
  refine ⟨firstBy_mem _ _ _ h, fun c' hc' => ?_⟩
  have hle := firstBy_le _ (fun a b hab => by simp only [decide_eq_true_eq] at hab; simp; omega)
    (fun a b d hab hbd => by simp only [decide_eq_false_iff_not] at hab hbd ⊢; omega) _ _ h c' hc'
  simpa using hle

end

/-- Settles O18: the turn is the run count's, the forwarded candidate is the earliest accepted, and
a grant sends what it goes to. -/
theorem grantsByRunCount : Obligations.GrantsByRunCount := by
  intro s t hhigh
  refine ⟨fun a hc hregion hturn => ?_, fun a hc hregion hkind hturn => ?_,
    fun a p hc hturn => ?_, fun e rest hself hlast => ?_, fun hc hself => ?_,
    fun c hc => nextForwarded_first hc, fun hnone => (firstBy_none _ _).1 hnone,
    fun c => mem_candidates_iff, fun a p => ⟨rfl, rfl⟩⟩
  · exact exec_sent hhigh t hc hturn (grantForwarded_other hregion)
  · exact exec_sent hhigh t hc hturn
      ((grantForwarded_mailbox hregion).trans (grantMailbox_read hkind))
  · rw [exec_sent hhigh t hc hturn (u := _) rfl]
    have hkind : (p.data = []) = (p.data.isEmpty = true) := by simp
    simp only [hkind]
    rfl
  · have hgrant : (s.atInstant t).grantDownN 18 = (s.atInstant t).grantSelf := by
      rcases hlast with hnone | hrun
      · exact (grantDownN_none (s := s.atInstant t) hnone 17).trans
          (if_neg fun hnil : s.port.selfQ = [] => List.cons_ne_nil e rest (hself.symm.trans hnil))
      · exact grantDownN_limit (s := s.atInstant t)
          (fun hnil : s.port.selfQ = [] => List.cons_ne_nil e rest (hself.symm.trans hnil)) hrun 17
    rw [exec_grant hhigh, hgrant, grantSelf_eq (s := s.atInstant t) hself]
    rfl
  · rw [exec_grant hhigh, grantDownN_none (s := s.atInstant t) hc]
    exact congrArg (fun u : State => Host.Outcome.next u.settle) (if_pos hself)

end Sys2Proof.Granting

namespace Sys2Proof.Reserving

open Sys2Proof Sys2Proof.Machine Sys2Proof.Laws Sys2Proof.Granting

/-! ## Reservations at a grant (R39, R143, R144) -/

section

variable (s : State)

theorem send_of_not_write {r : DsRequest} (h : r.kind ≠ .write) (src : DsSource) :
    s.send r src = s.setPort { s.port with
      awaiting := s.port.awaiting ++ [{ req := r, src := src }] } := by
  unfold State.send
  rw [if_neg h]

theorem send_write {r : DsRequest} (h : r.kind = .write) (src : DsSource) :
    s.send r src = (s.clearByWrite r.addr r.data).setPort
      { (s.clearByWrite r.addr r.data).port with
        awaiting := (s.clearByWrite r.addr r.data).port.awaiting
          ++ [{ req := r, src := src }] } := by
  unfold State.send
  rw [if_pos h]

theorem mem_clearByWrite (addr : Nat) (ws : List WriteWord) (x : Reservation) :
    x ∈ (s.clearByWrite addr ws).monitor ↔ x ∈ s.monitor
      ∧ ¬ ∃ j w, ws[j]? = some w ∧ w.en ≠ 0#4 ∧ x.word = addr + j := by
  unfold State.clearByWrite
  rw [(removeReservations_spec s _).1, List.mem_filter, ← mem_writtenWords]
  simp

/-- An endpoint's field is cleared exactly where it held a reservation on a written word. -/
theorem clearByWrite_endpoint (addr : Nat) (ws : List WriteWord) (e : EpNo) :
    ((∃ x ∈ s.monitor, x.ep = e
        ∧ ∃ j w, ws[j]? = some w ∧ w.en ≠ 0#4 ∧ x.word = addr + j) →
      (s.clearByWrite addr ws).endpoints[e] = { s.endpoints[e] with reservation := none })
    ∧ ((∀ x ∈ s.monitor, x.ep = e →
        ¬ ∃ j w, ws[j]? = some w ∧ w.en ≠ 0#4 ∧ x.word = addr + j) →
      (s.clearByWrite addr ws).endpoints[e] = s.endpoints[e]) := by
  have hheld : e ∈ (s.monitor.filter fun r => (writtenWords addr ws).contains r.word).map
      Reservation.ep ↔ ∃ x ∈ s.monitor, x.ep = e
        ∧ ∃ j w, ws[j]? = some w ∧ w.en ≠ 0#4 ∧ x.word = addr + j := by
    simp only [← mem_writtenWords, List.mem_map, List.mem_filter, List.contains_iff_mem]
    exact ⟨fun ⟨x, ⟨hx, hw⟩, he⟩ => ⟨x, hx, he, hw⟩, fun ⟨x, hx, he, hw⟩ => ⟨x, ⟨hx, hw⟩, he⟩⟩
  unfold State.clearByWrite
  rw [(removeReservations_spec s _).2.1 e]
  refine ⟨fun h => if_pos (hheld.2 h), fun h => if_neg fun hmem => ?_⟩
  obtain ⟨x, hx, he, hw⟩ := hheld.1 hmem
  exact h x hx he hw

/-- The reservations of the other endpoints. -/
def others (e : EpNo) : List Reservation := s.monitor.filter fun r => r.ep ≠ e

theorem removeOwn_monitor (e : EpNo) :
    (s.removeReservations fun r => decide (r.ep = e)).monitor = others s e := by
  rw [(removeReservations_spec s _).1]
  simp [others]

theorem removeOwn_endpoint_ne {e e' : EpNo} (h : e' ≠ e) :
    (s.removeReservations fun r => decide (r.ep = e)).endpoints[e'] = s.endpoints[e'] := by
  rw [(removeReservations_spec s _).2.1 e', if_neg]
  simp only [List.mem_map, List.mem_filter, decide_eq_true_eq]
  rintro ⟨x, ⟨-, hx⟩, rfl⟩
  exact h hx

theorem removeOwn_endpoint_self (e : EpNo) (w : Option Nat) :
    { (s.removeReservations fun r => decide (r.ep = e)).endpoints[e] with reservation := w } =
      { s.endpoints[e] with reservation := w } := by
  rw [(removeReservations_spec s _).2.1 e]
  split <;> rfl

/-- The monitor with a place for a new reservation: of 16, the oldest has left (R143). -/
def withPlace : State :=
  if s.monitor.length < Config.reservationPlaces then s
  else
    match s.monitor with
    | [] => s
    | old :: rest => State.clearReservationField { s with monitor := rest } old.ep

theorem withPlace_spec :
    (withPlace s).monitor = (if s.monitor.length < 16 then s.monitor else s.monitor.drop 1)
    ∧ (∀ e, (withPlace s).endpoints[e] =
      if s.monitor.length < 16 ∨ s.monitor.head?.map Reservation.ep ≠ some e then s.endpoints[e]
      else { s.endpoints[e] with reservation := none })
    ∧ ∃ m es, withPlace s = { s with monitor := m, endpoints := es } := by
  unfold withPlace
  by_cases hroom : s.monitor.length < 16
  · simp only [if_pos hroom, if_pos (Or.inl hroom)]
    rw [if_pos (by exact hroom)]
    exact ⟨rfl, fun _ => rfl, _, _, rfl⟩
  · simp only [hroom, false_or]
    rw [if_neg (by exact hroom)]
    split
    · next hnil => exact absurd (by rw [hnil]; decide) hroom
    · next old rest hm =>
      rw [hm]
      refine ⟨rfl, fun e => (setEp_get _ _ _ _).trans ?_, _, _, rfl⟩
      by_cases h : e = old.ep
      · subst h
        rw [if_pos rfl, if_neg (by simp)]
      · rw [if_neg h, if_pos (by simpa using fun hh => h hh.symm)]

theorem reserve_eq (e : EpNo) (w : Nat) (u : State)
    (hu : u = withPlace (s.removeReservations fun r => decide (r.ep = e))) :
    s.reserve e w = State.setEp { u with monitor := u.monitor ++ [{ ep := e, word := w }] } e
      { u.endpoints[e] with reservation := some w } := by
  subst hu
  rfl

/-- What setting a reservation does: the endpoint's own leave, then, of 16, the oldest, and the new
one stands last (R143). -/
theorem reserve_spec (e : EpNo) (w : Nat) :
    (s.reserve e w).monitor = (if (others s e).length < 16 then others s e
      else (others s e).drop 1) ++ [{ ep := e, word := w }]
    ∧ (s.reserve e w).endpoints[e] = { s.endpoints[e] with reservation := some w }
    ∧ (∀ e', e' ≠ e → (s.reserve e w).endpoints[e'] =
      if (others s e).length < 16 ∨ (others s e).head?.map Reservation.ep ≠ some e'
      then s.endpoints[e'] else { s.endpoints[e'] with reservation := none })
    ∧ ∃ m es, s.reserve e w = { s with monitor := m, endpoints := es } := by
  obtain ⟨hmonitor, hfield, m, es, honly⟩ :=
    withPlace_spec (s.removeReservations fun r => decide (r.ep = e))
  rw [removeOwn_monitor] at hmonitor hfield
  rw [reserve_eq s e w _ rfl]
  generalize withPlace (s.removeReservations fun r => decide (r.ep = e)) = u at *
  have hown : (others s e).head?.map Reservation.ep ≠ some e := by
    cases hlist : others s e with
    | nil => exact nofun
    | cons old rest =>
      have hmem : old ∈ others s e := by rw [hlist]; exact List.mem_cons_self
      simpa using (List.mem_filter.1 hmem).2
  refine ⟨?_, (setEp_get_self _ _ _).trans ?_, fun e' he => (setEp_get_ne _ _ he).trans ?_, ?_⟩
  · exact congrArg (fun l => l ++ [({ ep := e, word := w } : Reservation)]) hmonitor
  · rw [hfield e, if_pos (Or.inr hown)]
    exact removeOwn_endpoint_self s e (some w)
  · exact (hfield e').trans (by rw [removeOwn_endpoint_ne s he])
  · rw [honly, (removeReservations_spec s fun r => decide (r.ep = e)).2.2]
    exact ⟨_, _, rfl⟩

theorem hasPlan_iff : s.hasPlan = true ↔ s.part ≠ .unplanned := by
  unfold State.hasPlan
  cases s.part <;> simp

/-- The monitor's part of a grant changes no record but the monitor and the endpoints' fields. -/
theorem monitorAt_only (a : Accepted) :
    ∃ m es, s.monitorAt a = { s with monitor := m, endpoints := es } := by
  unfold State.monitorAt
  cases a.req.kind with
  | read => exact ⟨_, _, rfl⟩
  | write => exact ⟨_, _, rfl⟩
  | readReserve =>
    dsimp only
    split
    · exact (reserve_spec s a.req.ep a.req.addr.toNat).2.2.2
    · exact ⟨_, _, rfl⟩
  | writeIfReserved => exact ⟨_, _, (removeReservations_spec s _).2.2⟩

theorem grantMailbox_readReserve {a : Accepted} (h : a.req.kind = .readReserve) :
    s.grantMailbox a = ((if s.hasPlan = true then s.reserve a.req.ep a.req.addr.toNat else s).send
      (a.downstream .read) (.forwarded { a with watch := none }), true) := by
  unfold State.grantMailbox State.monitorAt State.judge
  rw [h]
  rfl

end

/-- A READ-RESERVE to MAILBOX granted (R143). -/
theorem exec_readReserve {s : State} {a : Accepted} (hhigh : s.resetLow = false) (t : Instant)
    (hc : s.nextForwarded = some (.request a)) (hregion : a.region = .mailbox)
    (hkind : a.req.kind = .readReserve) (hturn : s.port.selfQ = [] ∨ s.port.runCount < 3) :
    exec (.downstreamGrant t) s = .next (((if s.hasPlan = true
      then ((s.atInstant t).takeOut a).reserve a.req.ep a.req.addr.toNat
      else (s.atInstant t).takeOut a).send (a.downstream .read)
        (.forwarded { a with watch := none })).setRun
        (if s.port.selfQ = [] then 0 else s.port.runCount + 1)).settle :=
  exec_sent hhigh t hc hturn
    ((grantForwarded_mailbox hregion).trans (grantMailbox_readReserve _ hkind))

/-- Settles O19: a WRITE clears what it writes, and a READ-RESERVE sets its reservation at its
grant. -/
theorem reservationsSetAndCleared : Obligations.ReservationsSetAndCleared := by
  refine ⟨fun s r src => ⟨s.send r src, rfl, congrArg State.port (send_only s r src),
      fun hkind => ?_, fun hkind => ?_, ?_⟩,
    fun s t a hhigh hpart hc hregion hkind hturn => ?_,
    fun s t a hhigh hpart hc hregion hkind hturn => ?_⟩
  · rw [send_of_not_write s hkind]
    exact ⟨rfl, rfl⟩
  · rw [send_write s hkind]
    refine ⟨mem_clearByWrite s r.addr r.data, ?_, clearByWrite_endpoint s r.addr r.data⟩
    have hmonitor : (s.clearByWrite r.addr r.data).monitor = _ := (removeReservations_spec s _).1
    exact hmonitor ▸ List.filter_sublist
  · exact (send_only s r src).trans
      (congrArg (fun p : Port => { s with port := p, monitor := (s.send r src).monitor
                                          endpoints := (s.send r src).endpoints })
        (congrArg State.port (send_only s r src)).symm)
  · rw [exec_readReserve hhigh t hc hregion hkind hturn,
      if_neg fun h => (hasPlan_iff s).1 h hpart, send_of_not_write _ (by exact nofun)]
    rfl
  · rw [exec_readReserve hhigh t hc hregion hkind hturn, if_pos ((hasPlan_iff s).2 hpart),
      send_of_not_write _ (by exact nofun)]
    obtain ⟨hmonitor, hself, hne, honly⟩ :=
      reserve_spec ((s.atInstant t).takeOut a) a.req.ep a.req.addr.toNat
    refine ⟨_, rfl, hmonitor, hself, hne, ?_⟩
    obtain ⟨m, es, honly⟩ := honly
    rw [honly]
    rfl

end Sys2Proof.Reserving

namespace Sys2Proof.Judging

open Sys2Proof Sys2Proof.Machine Sys2Proof.Laws Sys2Proof.Granting Sys2Proof.Reserving

/-! ## Judgements that answer (R32, R34) -/

section

variable {s u : State} {a : Accepted}

/-- The requests that wait in the hold queue and the arrival stage. -/
def waitingRequests (s : State) : List Accepted := s.port.hold ++ s.port.arrival.toList

theorem takeOut_waiting (s : State) (a : Accepted) : waitingRequests (s.takeOut a) =
    (waitingRequests s).filter fun x => x.id ≠ a.id := by
  have harrival : (s.port.arrival.filter fun x => x.id ≠ a.id).toList =
      s.port.arrival.toList.filter fun x => x.id ≠ a.id := by
    cases s.port.arrival with
    | none => rfl
    | some x => by_cases h : x.id = a.id <;> simp [Option.filter, h]
  exact (congrArg _ harrival).trans (List.filter_append _ _).symm

/-- A request answered at its grant: its response, the monitor and the endpoints' records move. -/
theorem grantMailbox_answered (h : s.grantMailbox a = (u, false)) :
    ∃ m es rs, u = { s with
      monitor := m, endpoints := es, port := { s.port with responses := rs } } := by
  obtain ⟨m, es, honly⟩ := monitorAt_only s a
  unfold State.grantMailbox at h
  rw [honly] at h
  dsimp only at h
  split at h
  · cases h
    exact ⟨_, _, _, rfl⟩
  · cases h
    exact ⟨_, _, _, rfl⟩
  · cases h

/-- Only a MAILBOX request is answered at its grant. -/
theorem grantForwarded_answered {c : Candidate} (h : s.grantForwarded c = (u, false)) :
    ∃ a, c = .request a ∧ (s.takeOut a).grantMailbox a = (u, false) := by
  unfold State.grantForwarded at h
  split at h
  · next a =>
    dsimp only at h
    split at h
    · exact ⟨a, rfl, h⟩
    · cases h
  · cases h

/-- A request answered at its grant no longer waits. -/
theorem answered_waiting (hc : s.nextForwarded = some (.request a))
    (hg : (s.takeOut a).grantMailbox a = (u, false)) :
    (waitingRequests u).length < (waitingRequests s).length := by
  obtain ⟨m, es, rs, rfl⟩ := grantMailbox_answered hg
  have hmem : a ∈ waitingRequests s := by
    rcases mem_candidates_iff.1 (nextForwarded_first hc).1 with
      ⟨b, hb, heq, -⟩ | ⟨x, -, p, _, _, heq, -⟩
    · cases heq
      exact hb
    · cases heq
  have hlen : ((waitingRequests s).filter fun x => x.id ≠ a.id).length <
      (waitingRequests s).length :=
    List.length_filter_lt_length_iff_exists.2 ⟨a, hmem, by simp⟩
  rw [← takeOut_waiting] at hlen
  exact hlen

/-- With more fuel than requests wait, one unit more changes nothing. -/
theorem grantDownN_enough (n : Nat) (s : State) (h : (waitingRequests s).length < n) :
    s.grantDownN n = s.grantDownN (n + 1) := by
  induction n generalizing s with
  | zero => exact absurd h (Nat.not_lt_zero _)
  | succ n ih =>
    cases hc : s.nextForwarded with
    | none => rw [grantDownN_none hc, grantDownN_none hc]
    | some c =>
      by_cases hturn : Turn s
      · rcases hg : s.grantForwarded c with ⟨u, _ | _⟩
        · rw [grantDownN_answered hc hturn hg, grantDownN_answered hc hturn hg]
          obtain ⟨a, rfl, hmailbox⟩ := grantForwarded_answered hg
          exact ih u (Nat.lt_of_lt_of_le (answered_waiting hc hmailbox) (Nat.le_of_lt_succ h))
        · rw [grantDownN_sent hc hturn hg, grantDownN_sent hc hturn hg]
      · obtain ⟨hself, hrun⟩ := not_or.1 hturn
        rw [grantDownN_limit hself (Nat.not_lt.1 hrun), grantDownN_limit hself (Nat.not_lt.1 hrun)]

theorem atInstant_of_le {t : Instant} (h : t ≤ s.now) : s.atInstant t = s := by
  unfold State.atInstant
  rw [Nat.max_eq_left h]

/-- A MAILBOX request answered at its grant: the next grant follows at once, as if it were a grant
of its own. -/
theorem exec_answered (hhigh : s.resetLow = false) (t : Instant)
    (hc : s.nextForwarded = some (.request a)) (hregion : a.region = .mailbox)
    (hturn : s.port.selfQ = [] ∨ s.port.runCount < 3)
    (hg : ((s.atInstant t).takeOut a).grantMailbox a = (u, false)) :
    (s.port.selfQ = [] → u.nextForwarded = none →
      exec (.downstreamGrant t) s = .next u.settle)
    ∧ (s.PortBounded → exec (.downstreamGrant t) s = exec (.downstreamGrant t) u) := by
  have hforwarded : (s.atInstant t).grantForwarded (.request a) = (u, false) :=
    (grantForwarded_mailbox hregion).trans hg
  have hwaiting := answered_waiting (s := s.atInstant t) hc hg
  rw [exec_grant hhigh, grantDownN_answered (s := s.atInstant t) hc hturn hforwarded]
  obtain ⟨m, es, rs, hu⟩ := grantMailbox_answered hg
  have hselfQ : u.port.selfQ = s.port.selfQ := by rw [hu]; rfl
  have hlow : u.resetLow = false := by rw [hu]; exact hhigh
  have hnow : t ≤ u.now := by rw [hu]; exact Nat.le_max_right s.now t
  refine ⟨fun hself hnone => ?_, fun hbounded => ?_⟩
  · rw [grantDownN_none hnone, if_pos (hselfQ.trans hself)]
  · have hroom : (waitingRequests s).length ≤ 16 := by
      unfold waitingRequests
      rw [List.length_append]
      exact hbounded.1
    have hlen : (waitingRequests s).length = (waitingRequests (s.atInstant t)).length := rfl
    rw [exec_grant hlow, atInstant_of_le hnow, grantDownN_enough 17 u (by omega)]

end

end Sys2Proof.Judging

namespace Sys2Proof.Judging

open Sys2Proof Sys2Proof.Machine Sys2Proof.Laws Sys2Proof.Granting Sys2Proof.Reserving

/-! ## Claims (R148) -/

section

variable (s : State)

theorem holdsReservation_iff (e : EpNo) (word : Nat) : s.holdsReservation e word = true ↔
    ∃ r ∈ s.monitor, r.ep = e ∧ r.word = word := by
  simp [State.holdsReservation]

theorem claimOf_false_iff (x : Mbox) (e : EpNo) : x.claimOf e = false ↔
    ∀ k, x.inFlight = some k → k.kind = .claim → k.ep ≠ e := by
  unfold Mbox.claimOf
  cases x.inFlight <;> simp

theorem claimInFlight_false_iff (e : EpNo) : s.claimInFlight e = false ↔
    ∀ m : MboxNo, ∀ k, s.mailboxes[m].inFlight = some k → k.kind = .claim → k.ep ≠ e := by
  have hall := Validations.toList_all_iff s.mailboxes fun x => !x.claimOf e
  rw [List.all_eq_not_any_not] at hall
  simp only [Bool.not_not, Bool.not_eq_true', claimOf_false_iff] at hall
  exact hall

/-- A claim is refused unless it meets every condition of R148. -/
theorem claimRefused_false_iff (m : MboxNo) (e : EpNo) (w : WriteWord) :
    s.claimRefused m e w = false ↔ w.en = 0xF#4 ∧ w.data = BitVec.ofNat 32 (e.val + 1)
      ∧ s.endpoints[e].role = .station ∧ s.mailboxes[m].state = .free
      ∧ s.mailboxes[m].inFlight = none ∧ s.endpoints[e].slot = none
      ∧ (∀ m' : MboxNo, ∀ k, s.mailboxes[m'].inFlight = some k → k.kind = .claim → k.ep ≠ e)
      ∧ s.part ≠ .quiescing := by
  simp only [State.claimRefused, Bool.or_eq_false_iff, decide_eq_false_iff_not, not_not,
    claimInFlight_false_iff, Option.isSome_eq_false_iff, Option.isNone_iff_eq_none, and_assoc]
  exact Iff.rfl

/-- Removing reservations moves no condition of a claim. -/
theorem claimRefused_removeReservations (p : Reservation → Bool) (m : MboxNo) (e : EpNo)
    (w : WriteWord) : (s.removeReservations p).claimRefused m e w = s.claimRefused m e w := by
  obtain ⟨-, hfield, honly⟩ := removeReservations_spec s p
  have hrole : (s.removeReservations p).endpoints[e].role = s.endpoints[e].role := by
    rw [hfield e]
    split <;> rfl
  have hslot : (s.removeReservations p).endpoints[e].slot = s.endpoints[e].slot := by
    rw [hfield e]
    split <;> rfl
  unfold State.claimRefused
  rw [hrole, hslot, honly]
  rfl

theorem judge_unreserved {a : Accepted} (h : a.req.kind = .writeIfReserved) :
    s.judge a false = .notReserved := by
  unfold State.judge
  rw [h]
  rfl

theorem judge_claim {a : Accepted} {m : MboxNo} {k : Nat} {w : WriteWord}
    (h : a.req.kind = .writeIfReserved) (hdata : a.req.data = [w]) (hat : mboxAt a.off = (m, k)) :
    s.judge a true = if k = 0 ∧ s.claimRefused m a.req.ep w = false
      then .allow (some (m, { kind := .claim, ep := a.req.ep, judged := .free, voided := false }))
      else .refuse .mailbox := by
  unfold State.judge
  rw [h, hdata, hat]
  cases k with
  | zero => cases hr : s.claimRefused m a.req.ep w <;> simp [hr]
  | succ k => simp

/-- A WRITE-IF-RESERVED to MAILBOX at its grant: its endpoint's reservations are removed, and the
judgement decides. -/
theorem grantMailbox_claim {a : Accepted} (h : a.req.kind = .writeIfReserved) {u : State}
    (hu : u = s.removeReservations fun r => decide (r.ep = a.req.ep)) : s.grantMailbox a =
    match u.judge a (s.holdsReservation a.req.ep a.req.addr.toNat) with
    | .refuse v => (u.refuse a v, false)
    | .notReserved => (u.respond a.id .notReserved, false)
    | .allow mark => ((u.recordMark mark).send (a.downstream .write)
        (.forwarded { a with watch := mark.map fun x => .mailbox x.1 }), true) := by
  subst hu
  unfold State.grantMailbox State.monitorAt
  rw [h]
  rfl

end

/-- Settles O20: a claim is judged at its grant by its reservation and R148's conditions. -/
theorem claimJudgedAtGrant : Obligations.ClaimJudgedAtGrant := by
  intro s t a m k w hhigh hc hregion hkind hdata hturn hat
  have hgrant := grantMailbox_claim ((s.atInstant t).takeOut a) hkind rfl
  have hreserved : ((s.atInstant t).takeOut a).holdsReservation a.req.ep a.req.addr.toNat = true ↔
      ∃ r ∈ s.monitor, r.ep = a.req.ep ∧ r.word = a.req.addr.toNat :=
    holdsReservation_iff ((s.atInstant t).takeOut a) _ _
  have hjudge := judge_claim (((s.atInstant t).takeOut a).removeReservations fun r =>
    decide (r.ep = a.req.ep)) hkind hdata hat
  rw [claimRefused_removeReservations] at hjudge
  have hfit := claimRefused_false_iff ((s.atInstant t).takeOut a) m a.req.ep w
  refine ⟨fun hnone => ?_, fun hheld hgo => ?_, fun hheld hbad => ?_⟩
  · have hfree : ((s.atInstant t).takeOut a).holdsReservation a.req.ep a.req.addr.toNat = false :=
      Bool.eq_false_iff.2 fun h => by
        obtain ⟨r, hr, hre⟩ := hreserved.1 h
        exact hnone r hr hre
    rw [hfree, judge_unreserved _ hkind] at hgrant
    exact exec_answered hhigh t hc hregion hturn hgrant
  · obtain ⟨hk, hrest⟩ := hgo
    rw [hreserved.2 hheld, hjudge, if_pos ⟨hk, hfit.2 hrest⟩] at hgrant
    rw [exec_sent hhigh t hc hturn ((grantForwarded_mailbox hregion).trans hgrant)]
    have hslot : (((s.atInstant t).takeOut a).removeReservations fun r =>
        decide (r.ep = a.req.ep)).mailboxes = s.mailboxes := by
      rw [(removeReservations_spec _ _).2.2]
      rfl
    unfold State.recordMark
    dsimp only
    rw [hslot]
    rfl
  · rw [hreserved.2 hheld, hjudge, if_neg fun h => hbad ⟨h.1, hfit.1 h.2⟩] at hgrant
    exact exec_answered hhigh t hc hregion hturn hgrant

/-! ## Plain writes (R147, R149, R150) -/

section

variable (s : State) (e : EpNo)

theorem coversClaimAndOther_iff (off len : Nat) : coversClaimAndOther off len = true ↔
    1 < len ∧ ∃ i < len, (off + i) % 16 = 0 := by
  simp [coversClaimAndOther]

/-- The judgement of the word at an offset in MAILBOX, in the slot that it lies in. -/
def wordRefusal (off : Nat) (w : WriteWord) : Option Violation :=
  judgeWord s.mailboxes[(mboxAt off).1] e (off % 16) w

theorem judgeWords_cons (off : Nat) (w : WriteWord) (ws : List WriteWord) :
    s.judgeWords e off (w :: ws) =
      (wordRefusal s e off w).or (s.judgeWords e (off + 1) ws) := by
  rw [State.judgeWords]
  show (match wordRefusal s e off w with | some v => _ | none => _) = _
  cases wordRefusal s e off w <;> rfl

/-- The first word refused gives the burst's refusal. -/
theorem judgeWords_first {ws : List WriteWord} {off j : Nat} {w : WriteWord} {v : Violation}
    (hw : ws[j]? = some w) (hv : wordRefusal s e (off + j) w = some v)
    (hbefore : ∀ j' w', j' < j → ws[j']? = some w' → wordRefusal s e (off + j') w' = none) :
    s.judgeWords e off ws = some v := by
  induction ws generalizing off j with
  | nil => cases hw
  | cons x xs ih =>
    rw [judgeWords_cons]
    cases j with
    | zero =>
      cases hw
      rw [show wordRefusal s e off w = some v from hv]
      rfl
    | succ j =>
      rw [show wordRefusal s e off x = none from hbefore 0 x (Nat.succ_pos j) rfl]
      refine ih (off := off + 1) hw (by rwa [Nat.add_right_comm, Nat.add_assoc])
        fun j' w' hj hx => ?_
      rw [Nat.add_right_comm, Nat.add_assoc]
      exact hbefore (j' + 1) w' (Nat.succ_lt_succ hj) hx

theorem judgeWords_none {ws : List WriteWord} {off : Nat}
    (h : ∀ j w, ws[j]? = some w → wordRefusal s e (off + j) w = none) :
    s.judgeWords e off ws = none := by
  induction ws generalizing off with
  | nil => rfl
  | cons x xs ih =>
    rw [judgeWords_cons, show wordRefusal s e off x = none from h 0 x rfl]
    refine ih fun j w hw => ?_
    rw [Nat.add_right_comm, Nat.add_assoc]
    exact h (j + 1) w hw

/-- A mark as it is recorded on a slot, with the state the slot was judged in. -/
def markOf (m : MboxNo) (g : MarkKind) : Mark :=
  { kind := g, ep := e, judged := s.mailboxes[m].state, voided := false }

theorem writeMark_cons (off : Nat) (w : WriteWord) (ws : List WriteWord) :
    s.writeMark e off (w :: ws) =
      if off % 16 = 0 then some ((mboxAt off).1, markOf s e (mboxAt off).1 .release)
      else if off % 16 = 1 then
        (goMark w.data).map fun g => ((mboxAt off).1, markOf s e (mboxAt off).1 g)
      else s.writeMark e (off + 1) ws := rfl

theorem writeMark_release {off : Nat} {m : MboxNo} (h : mboxAt off = (m, 0)) (w : WriteWord)
    (ws : List WriteWord) : s.writeMark e off (w :: ws) = some (m, markOf s e m .release) := by
  obtain ⟨rfl, hk⟩ := Prod.mk.inj h
  rw [writeMark_cons, if_pos hk]
  rfl

theorem writeMark_go {ws : List WriteWord} {off j : Nat} {m : MboxNo} {w : WriteWord}
    {g : MarkKind} (hw : ws[j]? = some w) (hat : mboxAt (off + j) = (m, 1))
    (hbefore : ∀ j' < j, (off + j') % 16 ≠ 0 ∧ (off + j') % 16 ≠ 1) (hg : goMark w.data = some g) :
    s.writeMark e off ws = some (m, markOf s e m g) := by
  induction ws generalizing off j with
  | nil => cases hw
  | cons x xs ih =>
    rw [writeMark_cons]
    cases j with
    | zero =>
      cases hw
      obtain ⟨rfl, hk⟩ : (mboxAt off).1 = m ∧ off % 16 = 1 := Prod.mk.inj hat
      rw [if_neg fun h0 : off % 16 = 0 => Nat.zero_ne_one (h0.symm.trans hk), if_pos hk, hg]
      rfl
    | succ j =>
      obtain ⟨h0, h1⟩ : off % 16 ≠ 0 ∧ off % 16 ≠ 1 := hbefore 0 (Nat.succ_pos j)
      rw [if_neg h0, if_neg h1]
      refine ih (off := off + 1) hw (by rwa [Nat.add_right_comm, Nat.add_assoc]) fun j' hj => ?_
      rw [Nat.add_right_comm, Nat.add_assoc]
      exact hbefore (j' + 1) (Nat.succ_lt_succ hj)

theorem writeMark_none {ws : List WriteWord} {off : Nat}
    (h : ∀ j w, ws[j]? = some w → (off + j) % 16 ≠ 0 ∧ (off + j) % 16 ≠ 1) :
    s.writeMark e off ws = none := by
  induction ws generalizing off with
  | nil => rfl
  | cons x xs ih =>
    obtain ⟨h0, h1⟩ : off % 16 ≠ 0 ∧ off % 16 ≠ 1 := h 0 x rfl
    rw [writeMark_cons, if_neg h0, if_neg h1]
    refine ih fun j w hw => ?_
    rw [Nat.add_right_comm, Nat.add_assoc]
    exact h (j + 1) w hw

theorem grantMailbox_write {a : Accepted} (h : a.req.kind = .write) : s.grantMailbox a =
    if coversClaimAndOther a.off a.req.len = true then (s.refuse a .mailbox, false)
    else match s.judgeWords a.req.ep a.off a.req.data with
      | some v => (s.refuse a v, false)
      | none => ((s.recordMark (s.writeMark a.req.ep a.off a.req.data)).send (a.downstream .write)
        (.forwarded { a with watch :=
          (s.writeMark a.req.ep a.off a.req.data).map fun x => .mailbox x.1 }), true) := by
  unfold State.grantMailbox State.monitorAt State.judge
  rw [h]
  dsimp only
  cases coversClaimAndOther a.off a.req.len with
  | true => rfl
  | false => cases s.judgeWords a.req.ep a.off a.req.data <;> rfl

end

/-- Settles O22: a burst is refused for its shape or its first refused word; an allowed one goes
downstream with the mark it carries. -/
theorem mailboxWriteGranted : Obligations.MailboxWriteGranted := by
  intro s t a hhigh hc hregion hkind hturn
  have hgrant := grantMailbox_write ((s.atInstant t).takeOut a) hkind
  have hcovers := coversClaimAndOther_iff a.off a.req.len
  refine ⟨fun hmixed => ?_, fun v j w hplain hw hv hbefore => ?_, fun hplain hall => ?_,
    fun v => rfl⟩
  · rw [if_pos (hcovers.2 hmixed)] at hgrant
    exact exec_answered hhigh t hc hregion hturn hgrant
  · rw [if_neg fun h => hplain (hcovers.1 h),
      judgeWords_first ((s.atInstant t).takeOut a) a.req.ep hw hv hbefore] at hgrant
    exact exec_answered hhigh t hc hregion hturn hgrant
  · rw [if_neg fun h => hplain (hcovers.1 h),
      judgeWords_none ((s.atInstant t).takeOut a) a.req.ep hall] at hgrant
    have hsent := exec_sent hhigh t hc hturn ((grantForwarded_mailbox hregion).trans hgrant)
    refine ⟨fun m w hdata hat => ?_, fun m j w g hw hat hbefore hg => ?_, fun hnone => ?_⟩
    · rw [hdata, writeMark_release _ _ hat] at hsent
      exact hsent
    · rw [writeMark_go _ _ hw hat hbefore hg] at hsent
      exact hsent
    · rw [writeMark_none _ _ hnone] at hsent
      exact hsent

end Sys2Proof.Judging

namespace Sys2Proof.Placing

open Sys2Proof Sys2Proof.Machine Sys2Proof.Laws

/-! ## Self traffic placed (R38, R175) -/

section

variable (s : State)

theorem place_room {es : List SelfEntry} (hwait : s.port.waiters = [])
    (hroom : s.port.selfQ.length + es.length ≤ 8) (b : Block) (p : Bool) :
    s.place b p es = s.setPort { s.port with selfQ := s.port.selfQ ++ es } := by
  rw [place_eq, if_pos]
  exact Bool.and_eq_true_iff.2 ⟨List.isEmpty_iff.2 hwait, (Bounds.fits_iff _ _).2 hroom⟩

theorem place_waits {es : List SelfEntry}
    (h : s.port.waiters ≠ [] ∨ 8 < s.port.selfQ.length + es.length) (b : Block) (p : Bool) :
    s.place b p es = s.setPort { s.port with waiters := s.port.waiters ++ [.entries b p es] } := by
  rw [place_eq, if_neg]
  intro hgo
  obtain ⟨hempty, hfits⟩ := Bool.and_eq_true_iff.1 hgo
  rcases h with h | h
  · exact h (List.isEmpty_iff.1 hempty)
  · exact Nat.not_lt.2 ((Bounds.fits_iff _ _).1 hfits) h

theorem placeWaitingN_nil (h : s.port.waiters = []) (n : Nat) : s.placeWaitingN n = s := by
  cases n with
  | zero => rfl
  | succ n => rw [State.placeWaitingN, h]

section

variable {s} {b : Block} {p : Bool} {es : List SelfEntry} {rest : List Waiter}

theorem placeWaitingN_full (h : s.port.waiters = .entries b p es :: rest)
    (hfull : 8 < s.port.selfQ.length + es.length) (n : Nat) : s.placeWaitingN (n + 1) = s := by
  rw [State.placeWaitingN, h]
  exact if_neg fun hfits => Nat.not_lt.2 ((Bounds.fits_iff _ _).1 hfits) hfull

theorem placeWaitingN_entries (h : s.port.waiters = .entries b p es :: rest)
    (hroom : s.port.selfQ.length + es.length ≤ 8) (n : Nat) : s.placeWaitingN (n + 1) =
      (s.setPort { s.port with selfQ := s.port.selfQ ++ es, waiters := rest }).placeWaitingN n := by
  rw [State.placeWaitingN, h]
  exact if_pos ((Bounds.fits_iff _ _).2 hroom)

theorem placeWaitingN_report_full (h : s.port.waiters = .reportWrite :: rest)
    (hfull : 8 ≤ s.port.selfQ.length) (n : Nat) : s.placeWaitingN (n + 1) = s := by
  rw [State.placeWaitingN, h]
  exact if_neg fun hfits => Nat.not_lt.2 ((Bounds.fits_iff _ _).1 hfits) (Nat.lt_succ_of_le hfull)

theorem placeWaitingN_report {q : Half} {job : ReportJob}
    (h : s.port.waiters = .reportWrite :: rest) (hroom : s.port.selfQ.length < 8)
    (hexec : s.engine.inExec = some { seq := q, phase := .report job }) (n : Nat) :
    s.placeWaitingN (n + 1) = (State.placeReport { s with
      port := { s.port with
        selfQ := s.port.selfQ ++ [s.reportEntry job job.placed], waiters := rest }
      engine := { s.engine with inExec := some { seq := q, phase := .report { job with
        placed := job.placed + 1, outstanding := job.outstanding + 1 } } } }).placeWaitingN n := by
  rw [State.placeWaitingN, h]
  refine (if_pos ((Bounds.fits_iff _ _).2 hroom)).trans ?_
  rw [hexec]
  rfl

/-- A record write whose REPORT is no longer in execution leaves the waiting blocks. -/
theorem placeWaitingN_report_gone (h : s.port.waiters = .reportWrite :: rest)
    (hroom : s.port.selfQ.length < 8)
    (hexec : ∀ q job, s.engine.inExec ≠ some { seq := q, phase := .report job }) (n : Nat) :
    s.placeWaitingN (n + 1) = (s.setPort { s.port with waiters := rest }).placeWaitingN n := by
  rw [State.placeWaitingN, h]
  refine (if_pos ((Bounds.fits_iff _ _).2 hroom)).trans ?_
  split
  · next q job hreport => exact absurd hreport (hexec q job)
  all_goals rfl

end

/-! ### The record writes of the REPORT in execution (R175) -/

/-- The state with k more record writes of the REPORT placed, and the blocks that wait then. -/
def withRecords (q : Half) (job : ReportJob) (k : Nat) (w : List Waiter) : State := { s with
  port := { s.port with
    selfQ := s.port.selfQ ++ (List.range k).map fun j => s.reportEntry job (job.placed + j)
    waiters := w }
  engine := { s.engine with inExec := some { seq := q, phase := .report { job with
    placed := job.placed + k, outstanding := job.outstanding + k } } } }

section

variable {s} {q : Half} {job : ReportJob}

theorem withRecords_zero (h : s.engine.inExec = some { seq := q, phase := .report job })
    (w : List Waiter) : withRecords s q job 0 w = s.setPort { s.port with waiters := w } := by
  have hengine :
      { s.engine with inExec := some { seq := q, phase := .report job } } = s.engine := by
    rw [← h]
  unfold withRecords
  rw [List.range_zero, List.map_nil, List.append_nil]
  exact congrArg (fun g => State.setEngine (s.setPort { s.port with waiters := w }) g) hengine

theorem withRecords_succ (k : Nat) (w w' : List Waiter) :
    withRecords (withRecords s q job 1 w') q
      { job with placed := job.placed + 1, outstanding := job.outstanding + 1 } k w =
      withRecords s q job (k + 1) w := by
  have hqueue : (s.port.selfQ ++ [s.reportEntry job job.placed])
        ++ (List.range k).map (fun j => s.reportEntry job (job.placed + 1 + j)) =
      s.port.selfQ ++ (List.range (k + 1)).map fun j => s.reportEntry job (job.placed + j) := by
    rw [List.range_succ_eq_map, List.map_cons, List.map_map, List.append_assoc]
    simp [Function.comp_def, Nat.add_assoc, Nat.add_comm 1]
  have hcount (n : Nat) : n + 1 + k = n + (k + 1) := by omega
  show withRecords _ _ _ _ _ = { s with
    port := { s.port with selfQ := _, waiters := w }, engine := _ }
  rw [← hqueue, ← hcount job.placed, ← hcount job.outstanding]
  rfl

theorem placeReportN_done (h : s.engine.inExec = some { seq := q, phase := .report job })
    (hdone : job.kind.writes ≤ job.placed) (n : Nat) : State.placeReportN n s = s := by
  cases n with
  | zero => rfl
  | succ n =>
    rw [State.placeReportN, h]
    exact if_neg (Nat.not_lt.2 hdone)

/-- A record write that finds the queue full, or other blocks waiting, waits behind them. -/
theorem placeReportN_waits (h : s.engine.inExec = some { seq := q, phase := .report job })
    (hmore : job.placed < job.kind.writes)
    (hback : s.port.waiters ≠ [] ∨ 8 ≤ s.port.selfQ.length) (n : Nat) :
    State.placeReportN (n + 1) s =
      s.setPort { s.port with waiters := s.port.waiters ++ [.reportWrite] } := by
  rw [State.placeReportN, h]
  refine (if_pos hmore).trans (if_neg fun hgo => ?_)
  obtain ⟨hempty, hfits⟩ := Bool.and_eq_true_iff.1 hgo
  rcases hback with hwait | hfull
  · exact hwait (List.isEmpty_iff.1 hempty)
  · exact Nat.not_lt.2 ((Bounds.fits_iff _ _).1 hfits) (Nat.lt_succ_of_le hfull)

theorem placeReportN_room (h : s.engine.inExec = some { seq := q, phase := .report job })
    (hmore : job.placed < job.kind.writes) (hwait : s.port.waiters = [])
    (hroom : s.port.selfQ.length < 8) (n : Nat) :
    State.placeReportN (n + 1) s = State.placeReportN n (withRecords s q job 1 []) := by
  rw [State.placeReportN, h]
  refine (if_pos hmore).trans ((if_pos (Bool.and_eq_true_iff.2
    ⟨List.isEmpty_iff.2 hwait, (Bounds.fits_iff _ _).2 hroom⟩)).trans ?_)
  rw [← hwait]
  rfl

/-- The record writes that the queue has places for are placed, and the next waits (R38, R175). -/
theorem placeReportN_eq (n : Nat) (s : State) (job : ReportJob)
    (h : s.engine.inExec = some { seq := q, phase := .report job }) (hwait : s.port.waiters = [])
    (hfuel : 8 - s.port.selfQ.length < n) (k : Nat)
    (hk : k = min (job.kind.writes - job.placed) (8 - s.port.selfQ.length)) :
    State.placeReportN n s = withRecords s q job k
      (if job.placed + k < job.kind.writes then [.reportWrite] else []) := by
  induction n generalizing s job k with
  | zero => exact absurd hfuel (Nat.not_lt_zero _)
  | succ n ih =>
    by_cases hmore : job.placed < job.kind.writes
    · by_cases hroom : s.port.selfQ.length < 8
      · obtain ⟨j, rfl⟩ : ∃ j, k = j + 1 := ⟨k - 1, by omega⟩
        have hlen : (withRecords s q job 1 []).port.selfQ.length = s.port.selfQ.length + 1 :=
          List.length_append
        rw [placeReportN_room h hmore hwait hroom, ih (withRecords s q job 1 [])
          { job with placed := job.placed + 1, outstanding := job.outstanding + 1 } rfl rfl
          (by omega) j (by rw [hlen]; dsimp only; omega), withRecords_succ]
        dsimp only
        rw [Nat.add_assoc, Nat.add_comm 1 j]
      · have hzero : k = 0 := by omega
        rw [placeReportN_waits h hmore (.inr (Nat.not_lt.1 hroom)), hzero, withRecords_zero h,
          if_pos (by exact hmore), hwait]
        rfl
    · have hzero : k = 0 := by omega
      rw [placeReportN_done h (Nat.not_lt.1 hmore), hzero, withRecords_zero h,
        if_neg (by exact hmore), ← hwait]
      rfl

theorem placeReport_eq (h : s.engine.inExec = some { seq := q, phase := .report job })
    (hwait : s.port.waiters = []) {k : Nat}
    (hk : k = min (job.kind.writes - job.placed) (8 - s.port.selfQ.length)) :
    s.placeReport = withRecords s q job k
      (if job.placed + k < job.kind.writes then [.reportWrite] else []) :=
  placeReportN_eq 17 s job h hwait (by omega) k hk

/-- After the record writes are placed, nothing that waits can be placed. -/
theorem placeReport_placeWaitingN
    (h : s.engine.inExec = some { seq := q, phase := .report job })
    (hwait : s.port.waiters = []) (n : Nat) :
    s.placeReport.placeWaitingN (n + 1) = s.placeReport := by
  rw [placeReport_eq h hwait rfl]
  split
  · next hmore =>
    refine placeWaitingN_report_full rfl ?_ n
    show 8 ≤ (s.port.selfQ ++ _).length
    rw [List.length_append, List.length_map, List.length_range]
    omega
  · exact placeWaitingN_nil _ rfl _

end

/-- What placing leaves in the queue stands there after the work of the event (log 7). -/
theorem placeWaiting_selfQ_prefix : s.placeWaiting.port.selfQ <+: s.settle.port.selfQ :=
  (Settling.settle_placed s).queue

theorem exec_placement (t : Instant) :
    exec (.selfTrafficPlacement t) s = .next ((s.atInstant t).placeWaitingN 9).settle := rfl

end

/-- Settles O25, by the equations of placing at once and of placing what waits. -/
theorem selfTrafficPlaced : Obligations.SelfTrafficPlaced := by
  refine ⟨fun s b p es => ⟨fun hwait hroom => place_room s hwait hroom b p,
      fun h => place_waits s h b p⟩,
    fun s t b p es rest h => ?_, fun s n => ⟨rfl, rfl, fun h => placeWaitingN_nil s h _,
      fun b p es rest h => ⟨fun hfull => placeWaitingN_full h hfull n,
        fun hroom => placeWaitingN_entries h hroom n⟩,
      fun rest h => ⟨fun hfull => placeWaitingN_report_full h hfull n, fun hroom =>
        ⟨fun q job hexec => placeWaitingN_report h hroom hexec n,
          fun hexec => placeWaitingN_report_gone h hroom hexec n⟩⟩⟩,
    fun s t => ⟨rfl, placeWaiting_selfQ_prefix s, fun h => ?_⟩, fun s t q job h hexec => ?_⟩
  · rw [exec_placement]
    refine ⟨fun hfull => ?_, fun hroom hlast => ?_, fun b' p' es' rest' hroom hnext hfull => ?_⟩
    · rw [placeWaitingN_full (s := s.atInstant t) h hfull]
    · rw [placeWaitingN_entries (s := s.atInstant t) h hroom, placeWaitingN_nil _ hlast, hlast]
      rfl
    · have hstop : 8 < (s.port.selfQ ++ es).length + es'.length := by
        rw [List.length_append]
        exact hfull
      rw [placeWaitingN_entries (s := s.atInstant t) h hroom,
        placeWaitingN_full (by exact hnext) (by exact hstop)]
      rfl
  · rw [exec_placement, placeWaitingN_nil (s.atInstant t) h]
  · rw [exec_placement]
    refine ⟨fun hfull => ?_, fun hroom hmore => ?_⟩
    · rw [placeWaitingN_report_full (s := s.atInstant t) h hfull]
    · rw [placeWaitingN_report (s := s.atInstant t) h hroom hexec,
        placeReport_placeWaitingN (q := q) rfl rfl]
      rfl

end Sys2Proof.Placing

namespace Sys2Proof.Reporting

open Sys2Proof Sys2Proof.Machine Sys2Proof.Laws Sys2Proof.Records

/-! ## Bytes of records (10.7) -/

theorem packBytes_cons (b0 b1 b2 b3 : Byte) (rest : List Byte) :
    packBytes (b0 :: b1 :: b2 :: b3 :: rest) = wordOfBytes b0 b1 b2 b3 :: packBytes rest := by
  rw [packBytes]

theorem packBytes_length (bs : List Byte) (h : bs.length % 4 = 0) :
    (packBytes bs).length = bs.length / 4 := by
  induction bs using packBytes.induct with
  | case1 b0 b1 b2 b3 rest ih =>
    rw [List.length_cons, List.length_cons, List.length_cons, List.length_cons] at h ⊢
    rw [packBytes_cons, List.length_cons, ih (by omega)]
    omega
  | case2 => rfl
  | case3 b0 => exact absurd h (Nat.succ_ne_zero _)
  | case4 b0 b1 => exact absurd h (Nat.succ_ne_zero _)
  | case5 b0 b1 b2 => exact absurd h (Nat.succ_ne_zero _)

/-- Word i of packed bytes has the four bytes from 4 * i on. -/
theorem packBytes_get (bs : List Byte) (i : Nat) (b0 b1 b2 b3 : Byte) (h0 : bs[4 * i]? = some b0)
    (h1 : bs[4 * i + 1]? = some b1) (h2 : bs[4 * i + 2]? = some b2)
    (h3 : bs[4 * i + 3]? = some b3) : (packBytes bs)[i]? = some (wordOfBytes b0 b1 b2 b3) := by
  induction i generalizing bs with
  | zero =>
    match bs, h0, h1, h2, h3 with
    | _ :: _ :: _ :: _ :: _, rfl, rfl, rfl, rfl => rw [packBytes_cons]; rfl
  | succ i ih =>
    match bs, h0, h1, h2, h3 with
    | _ :: _ :: _ :: _ :: rest, h0, h1, h2, h3 =>
      rw [packBytes_cons]
      exact ih rest h0 h1 h2 h3

/-- From record j on, the bytes of records of n bytes each are those of the records from j on. -/
theorem drop_flatMap {α : Type} {f : α → List Byte} {n : Nat} (hf : ∀ x, (f x).length = n)
    (l : List α) (j : Nat) : (l.flatMap f).drop (n * j) = (l.drop j).flatMap f := by
  induction j generalizing l with
  | zero => rfl
  | succ j ih =>
    cases l with
    | nil => simp
    | cons x xs =>
      rw [List.flatMap_cons, Nat.mul_succ, Nat.add_comm, ← List.drop_drop, List.drop_left' (hf x)]
      exact ih xs

theorem take_drop_flatMap {α : Type} {f : α → List Byte} {n : Nat} (hf : ∀ x, (f x).length = n)
    {l : List α} {j : Nat} {x : α} (h : l[j]? = some x) :
    ((l.flatMap f).drop (n * j)).take n = f x := by
  obtain ⟨hj, hx⟩ := List.getElem?_eq_some_iff.1 h
  rw [drop_flatMap hf, List.drop_eq_getElem_cons hj, hx, List.flatMap_cons, List.take_left' (hf x)]

theorem length_flatMap {α : Type} {f : α → List Byte} {n : Nat} (hf : ∀ x, (f x).length = n)
    (l : List α) : (l.flatMap f).length = n * l.length := by
  induction l with
  | nil => rfl
  | cons x xs ih =>
    rw [List.flatMap_cons, List.length_append, hf, ih, List.length_cons, Nat.mul_succ, Nat.add_comm]

theorem bytesOfWord_wordOfBytes (b0 b1 b2 b3 : Byte) :
    bytesOfWord (wordOfBytes b0 b1 b2 b3) = [b0, b1, b2, b3] := by
  have h2 : byteOf (wordOfBytes b0 b1 b2 b3) 2 = b2 := by
    ext i hi
    have hb0 : b0.getLsbD (16 + i) = false := BitVec.getLsbD_of_ge _ _ (by omega)
    have hb1 : b1.getLsbD (16 + i - 8) = false := BitVec.getLsbD_of_ge _ _ (by omega)
    have h24 : 16 + i < 24 := by omega
    have h32 : 16 + i < 32 := by omega
    have hi32 : i < 32 := by omega
    simp [byteOf, wordOfBytes, hb0, hb1, h24, h32, hi32, BitVec.getLsbD_eq_getElem hi]
  have h3 : byteOf (wordOfBytes b0 b1 b2 b3) 3 = b3 := by
    ext i hi
    have hb0 : b0.getLsbD (24 + i) = false := BitVec.getLsbD_of_ge _ _ (by omega)
    have hb1 : b1.getLsbD (24 + i - 8) = false := BitVec.getLsbD_of_ge _ _ (by omega)
    have hb2 : b2.getLsbD (24 + i - 16) = false := BitVec.getLsbD_of_ge _ _ (by omega)
    have h32 : 24 + i < 32 := by omega
    have hi32 : i < 32 := by omega
    simp [byteOf, wordOfBytes, hb0, hb1, hb2, h32, hi32, BitVec.getLsbD_eq_getElem hi]
  unfold bytesOfWord
  rw [byteOf_zero_wordOfBytes, byteOf_one_wordOfBytes, h2, h3]

end Sys2Proof.Reporting

namespace Sys2Proof.Reporting

open Sys2Proof Sys2Proof.Machine Sys2Proof.Laws Sys2Proof.Records Sys2Proof.Placing

/-! ## ENDPOINTS records (10.7) -/

theorem role_code {r : Role} {b : Byte}
    (h : (r, b) ∈ [(Role.unused, 0#8), (.station, 1#8), (.trunk, 2#8), (.control, 3#8)]) :
    r.code = b := by
  cases r <;> simp at h <;> exact h.symm

/-- The byte of a last violation, all ones when there is none. -/
def violationByte (o : Option Violation) : Byte :=
  match o with
  | some v => v.code
  | none => 0xFF#8

theorem violation_code {o : Option Violation} {b : Byte}
    (h : (o, b) ∈ [(none, 0xFF#8), (some Violation.shape, 0#8), (some .window, 1#8),
      (some .foreign, 2#8), (some .partialSample, 3#8), (some .mailbox, 4#8)]) :
    violationByte o = b := by
  cases o with
  | none =>
    simp at h
    exact h.symm
  | some v => cases v <;> simp at h <;> exact h.symm

theorem callState_code {x : CallState} {b : Byte}
    (h : (x, b) ∈ [(CallState.free, 0#8), (.opened, 1#8), (.closing, 2#8)]) : x.code = b := by
  cases x <;> simp at h <;> exact h.symm

theorem timingState_code {x : TimingState} {b : Byte}
    (h : (x, b) ∈ [(TimingState.internal, 0#8), (.externalLocked, 1#8), (.externalLost, 2#8)]) :
    x.code = b := by
  cases x <;> simp at h <;> exact h.symm

theorem laneState_code {x : LaneState} {b : Byte}
    (h : (x, b) ∈ [(LaneState.empty, 0#8), (.expanding, 1#8), (.ready, 2#8)]) : x.code = b := by
  cases x <;> simp at h <;> exact h.symm

theorem optHalf_eq {n : Nat} (o : Option (Fin n)) :
    optHalf (o.map Fin.val) = o.elim 0xFFFF#16 fun d => BitVec.ofNat 16 d.val := by
  cases o <;> rfl

theorem optByte_eq {n : Nat} (o : Option (Fin n)) :
    optByte (o.map Fin.val) = o.elim 0xFF#8 fun d => BitVec.ofNat 8 d.val := by
  cases o <;> rfl

theorem endpointRecord_length (x : EndpointRec) : (endpointRecord x).length = 16 := rfl

theorem endpointRecord_eq (x : EndpointRec) {role last : Byte}
    (hrole : (x.role, role) ∈
      [(Role.unused, 0#8), (.station, 1#8), (.trunk, 2#8), (.control, 3#8)])
    (hlast : (x.lastViolation, last) ∈ [(none, 0xFF#8), (some Violation.shape, 0#8),
      (some .window, 1#8), (some .foreign, 2#8), (some .partialSample, 3#8),
      (some .mailbox, 4#8)]) :
    let index : Half := x.admitted.elim 0xFFFF#16 fun d => BitVec.ofNat 16 d.val
    let short : Half := BitVec.ofNat 16 x.shortFrames
    endpointRecord x = [role, if x.admitted.isSome then 1#8 else 0#8, loByte index, hiByte index,
      loByte short, hiByte short, if x.bigEndian then 1#8 else 0#8,
      x.call.elim 0xFF#8 (fun c => BitVec.ofNat 8 c.val),
      x.slot.elim 0xFF#8 (fun m => BitVec.ofNat 8 m.val), last,
      BitVec.ofNat 8 x.shapeCount, BitVec.ofNat 8 x.windowCount, BitVec.ofNat 8 x.foreignCount,
      BitVec.ofNat 8 x.partialCount, BitVec.ofNat 8 x.mailboxCount, 0#8] := by
  rw [← role_code hrole, ← violation_code hlast, ← optHalf_eq, ← optByte_eq, ← optByte_eq]
  rfl

theorem getElem?_toList {α : Type} {n : Nat} (v : Vector α n) (i : Fin n) :
    v.toList[i.val]? = some v[i] := by
  rw [List.getElem?_eq_some_iff]
  exact ⟨by simp, by simp⟩

/-- The records of an ENDPOINTS report's write: up to four, from the endpoint of its number on. -/
theorem endpointRecords_get (s : State) (first n : Nat) {j : Nat} (hj : j < n) {e : EpNo}
    (he : e.val = first + j) :
    ((s.endpoints.toList.drop first).take n)[j]? = some s.endpoints[e] := by
  rw [List.getElem?_take_of_lt hj, List.getElem?_drop, ← he, getElem?_toList]

theorem endpointRecords_length (s : State) {first n : Nat} (h : first + n ≤ 512) :
    (s.endpointRecords first n).length = 16 * n := by
  unfold State.endpointRecords
  rw [length_flatMap endpointRecord_length, List.length_take, List.length_drop,
    Vector.length_toList, Nat.min_eq_left (by omega)]

/-! ## Fields at their places -/

/-- The bytes from place k on are those given. -/
def FieldAt (bytes : List Byte) (k : Nat) (bs : List Byte) : Prop :=
  (bytes.drop k).take bs.length = bs

theorem memberBytes_eq (o : Option Member) : memberBytes o =
    o.elim [0xFF#8, 0xFF#8, 0xFF#8, 0xFF#8] fun m =>
      [loByte (BitVec.ofNat 16 m.ep.val), hiByte (BitVec.ofNat 16 m.ep.val)]
        ++ [BitVec.ofNat 8 m.ring.val, 0#8] := by
  cases o <;> rfl

theorem switchBytes_eq (o : Option Switch) : switchBytes o =
    o.elim (List.replicate 8 0xFF#8) fun w =>
      [if w.isAdd then 1#8 else 2#8, 0#8]
        ++ [loByte (BitVec.ofNat 16 w.ep.val), hiByte (BitVec.ofNat 16 w.ep.val)]
        ++ [loByte w.seq, hiByte w.seq] ++ [0#8, 0#8] := by
  cases o <;> rfl

theorem memberBytes_four (o : Option Member) : ∃ a b c d, memberBytes o = [a, b, c, d] := by
  cases o <;> exact ⟨_, _, _, _, rfl⟩

theorem switchBytes_eight (o : Option Switch) :
    ∃ a b c d e f g h, switchBytes o = [a, b, c, d, e, f, g, h] := by
  cases o <;> exact ⟨_, _, _, _, _, _, _, _, rfl⟩

theorem callRecord_eq (n : CallNo) (x : Call) : callRecord n x =
    [byteN n.val, x.state.code, byteN x.members.length, byteN x.comfort.val]
      ++ bytesOfWord x.frame ++ bytesOfHalf x.epoch
      ++ [flagByte x.prev.isSome, flagByte x.next.isSome]
      ++ bytesOfWord (x.prev.elim 0xFFFFFFFF#32 PrevKey.advance)
      ++ bytesOfHalf (halfN x.countdown) ++ [byteN x.debt, flagByte x.rekeyNow]
      ++ [optByte (x.lane.map Fin.val), flagByte x.closeSeq.isSome]
      ++ bytesOfHalf (x.closeSeq.getD 0xFFFF#16)
      ++ memberBytes x.members[0]? ++ memberBytes x.members[1]?
      ++ memberBytes x.members[2]? ++ memberBytes x.members[3]?
      ++ [byteN x.switches.length, 0#8, 0#8, 0#8]
      ++ switchBytes x.switches[0]? ++ switchBytes x.switches[1]? ++ [0#8, 0#8, 0#8, 0#8] := by
  unfold callRecord
  cases x.prev <;> rfl

/-- The fields of a CALL report, in its 64 bytes. -/
theorem callRecord_fields (n : CallNo) (x : Call) :
    let bytes := callRecord n x
    bytes.length = 64
    ∧ FieldAt bytes 0 ([byteN n.val, x.state.code, byteN x.members.length, byteN x.comfort.val]
      ++ bytesOfWord x.frame)
    ∧ FieldAt bytes 8 (bytesOfHalf x.epoch ++ [flagByte x.prev.isSome, flagByte x.next.isSome])
    ∧ FieldAt bytes 12 (bytesOfWord (x.prev.elim 0xFFFFFFFF#32 PrevKey.advance))
    ∧ FieldAt bytes 16
      (bytesOfHalf (halfN x.countdown) ++ [byteN x.debt, flagByte x.rekeyNow])
    ∧ FieldAt bytes 20 ([optByte (x.lane.map Fin.val), flagByte x.closeSeq.isSome]
      ++ bytesOfHalf (x.closeSeq.getD 0xFFFF#16))
    ∧ (∀ j < 4, FieldAt bytes (24 + 4 * j) (memberBytes x.members[j]?))
    ∧ FieldAt bytes 40 [byteN x.switches.length, 0#8, 0#8, 0#8]
    ∧ (∀ j < 2, FieldAt bytes (44 + 8 * j) (switchBytes x.switches[j]?))
    ∧ FieldAt bytes 60 [0#8, 0#8, 0#8, 0#8] := by
  obtain ⟨a0, a1, a2, a3, ha⟩ := memberBytes_four x.members[0]?
  obtain ⟨b0, b1, b2, b3, hb⟩ := memberBytes_four x.members[1]?
  obtain ⟨c0, c1, c2, c3, hc⟩ := memberBytes_four x.members[2]?
  obtain ⟨d0, d1, d2, d3, hd⟩ := memberBytes_four x.members[3]?
  obtain ⟨e0, e1, e2, e3, e4, e5, e6, e7, he⟩ := switchBytes_eight x.switches[0]?
  obtain ⟨f0, f1, f2, f3, f4, f5, f6, f7, hf⟩ := switchBytes_eight x.switches[1]?
  rw [callRecord_eq, ha, hb, hc, hd, he, hf]
  simp only [bytesOfWord, bytesOfHalf, List.cons_append, List.nil_append]
  refine ⟨rfl, rfl, rfl, rfl, rfl, rfl, fun j hj => ?_, rfl, fun j hj => ?_, rfl⟩
  · match j, hj with
    | 0, _ => rw [ha]; rfl
    | 1, _ => rw [hb]; rfl
    | 2, _ => rw [hc]; rfl
    | 3, _ => rw [hd]; rfl
  · match j, hj with
    | 0, _ => rw [he]; rfl
    | 1, _ => rw [hf]; rfl

/-- The sixteen bytes that a SUMMARY report begins with. -/
def summaryHead (s : State) : List Byte :=
  [s.part.code, s.timer.state.code]
    ++ bytesOfHalf (halfN s.timer.slips)
    ++ bytesOfWord s.timer.counter
    ++ [byteN s.port.hold.length, 0#8]
    ++ bytesOfHalf (halfN s.freeRings.length)
    ++ bytesOfHalf (halfN (s.endpoints.toList.filter fun e => e.admitted.isSome).length)
    ++ [0#8, 0#8]

theorem summaryRecord_eq (s : State) :
    s.summaryRecord = summaryHead s ++ s.lanes.toList.flatMap laneBytes := rfl

theorem laneBytes_length (x : Lane) : (laneBytes x).length = 4 := by
  unfold laneBytes
  split <;> rfl

theorem toList_eq_map {α : Type} {n : Nat} (v : Vector α n) :
    v.toList = (List.finRange n).map fun i => v[i] := by
  apply List.ext_getElem
  · simp
  · intro i _ _
    simp

theorem admitted_count (s : State) :
    (s.endpoints.toList.filter fun e => e.admitted.isSome).length =
      (List.finRange 512).countP fun e => s.endpoints[e].admitted.isSome := by
  rw [← List.countP_eq_length_filter, toList_eq_map, List.countP_map]
  rfl

/-- Lane l has its four bytes in a SUMMARY report. -/
theorem summary_lane (s : State) (l : LaneNo) :
    FieldAt s.summaryRecord (16 + 4 * l.val) (laneBytes s.lanes[l]) := by
  have hhead : (summaryHead s).length = 16 := rfl
  unfold FieldAt
  rw [summaryRecord_eq, ← List.drop_drop, List.drop_left' hhead, laneBytes_length]
  exact take_drop_flatMap laneBytes_length (getElem?_toList s.lanes l)

theorem summary_head (s : State) {k : Nat} {bs : List Byte} (h : FieldAt (summaryHead s) k bs)
    (hk : k + bs.length ≤ 16) : FieldAt s.summaryRecord k bs := by
  have hlen : k ≤ (summaryHead s).length := Nat.le_trans (Nat.le_add_right _ _) hk
  have hroom : bs.length ≤ ((summaryHead s).drop k).length := by
    rw [List.length_drop]
    exact Nat.le_sub_of_add_le (by rw [Nat.add_comm]; exact hk)
  unfold FieldAt at h ⊢
  rw [summaryRecord_eq, List.drop_append_of_le_length hlen, List.take_append_of_le_length hroom]
  exact h

end Sys2Proof.Reporting

namespace Sys2Proof.Reporting

open Sys2Proof Sys2Proof.Machine Sys2Proof.Laws Sys2Proof.Records Sys2Proof.Placing

/-! ## A REPORT in execution (R175) -/

section

variable {s : State} {q : Half} {job : ReportJob}

theorem finished_iff (job : ReportJob) :
    job.finished = true ↔ job.kind.writes ≤ job.placed ∧ job.outstanding = 0 := by
  simp [ReportJob.finished]

theorem finishReport_done (h : s.engine.inExec = some { seq := q, phase := .report job })
    (hplaced : job.kind.writes ≤ job.placed) (hout : job.outstanding = 0) :
    s.finishReport = s.finish (job.completion q) := by
  unfold State.finishReport
  rw [h]
  exact if_pos ((finished_iff job).2 ⟨hplaced, hout⟩)

theorem finishReport_goesOn
    (h : ∀ q job, s.engine.inExec = some { seq := q, phase := .report job } →
      job.placed < job.kind.writes ∨ job.outstanding ≠ 0) : s.finishReport = s := by
  unfold State.finishReport
  split
  · next q job hexec =>
    refine if_neg fun hdone => ?_
    obtain ⟨hplaced, hout⟩ := (finished_iff job).1 hdone
    rcases h q job hexec with hless | hwaits
    · exact Nat.not_lt.2 hplaced hless
    · exact hwaits hout
  all_goals rfl

/-- A record write of the job is answered (R174, R175). -/
def answeredJob (job : ReportJob) (fault : Bool) : ReportJob :=
  { job with outstanding := job.outstanding - 1, faulted := job.faulted || fault }

theorem reportAnswer_eq (h : s.engine.inExec = some { seq := q, phase := .report job })
    (fault : Bool) : s.reportAnswer fault = (s.setEngine { s.engine with
      inExec := some { seq := q, phase := .report (answeredJob job fault) } }).finishReport := by
  unfold State.reportAnswer
  rw [h]
  rfl

theorem reportAnswer_goesOn (h : s.engine.inExec = some { seq := q, phase := .report job })
    (hmore : 1 < job.outstanding ∨ job.placed < job.kind.writes) (fault : Bool) :
    s.reportAnswer fault = s.setEngine { s.engine with
      inExec := some { seq := q, phase := .report (answeredJob job fault) } } := by
  rw [reportAnswer_eq h, finishReport_goesOn]
  intro q' job' heq
  cases heq
  exact hmore.symm.imp_right Nat.sub_ne_zero_of_lt

theorem reportAnswer_ends (h : s.engine.inExec = some { seq := q, phase := .report job })
    (hout : job.outstanding ≤ 1) (hplaced : job.kind.writes ≤ job.placed) (fault : Bool) :
    s.reportAnswer fault = s.finish ((answeredJob job fault).completion q) := by
  rw [reportAnswer_eq h,
    finishReport_done (job := answeredJob job fault) rfl hplaced (Nat.sub_eq_zero_of_le hout)]
  rfl

theorem answeredJob_ok (job : ReportJob) : answeredJob job false =
    { job with outstanding := job.outstanding - 1 } := by
  unfold answeredJob
  rw [Bool.or_false]

theorem answeredJob_fault (job : ReportJob) : answeredJob job true =
    { job with outstanding := job.outstanding - 1, faulted := true } := by
  unfold answeredJob
  rw [Bool.or_true]

/-- Memory answers a record write. -/
theorem exec_reportAnswer {i : Nat} {r : DsRequest}
    (h : s.port.awaiting[i]? = some { req := r, src := .self .report }) (t : Instant) {a : Answer}
    (hfits : r.fits a = true) : exec (.memoryAnswer t i a) s =
      .next ((s.afterAnswer t i).reportAnswer (decide (a = .fault))).settle :=
  congrArg (fun u : State => Host.Outcome.next u.settle) (Answers.answerAt_self h t hfits)

end

/-- Settles O47: placing goes to the queue's end, every record is read field by field, and the last
answer ends the REPORT. -/
theorem reportProgress : Obligations.ReportProgress := by
  refine ⟨fun s q job hexec => ⟨fun hdone => placeReportN_done hexec hdone 17,
      fun hmore hwait => placeReportN_waits hexec hmore (.inl hwait) 16,
      fun _ hwait => placeReport_eq hexec hwait rfl⟩,
    fun bs hlen => ⟨packBytes_length bs hlen, packBytes_get bs⟩,
    fun s first count k hcount hk => ⟨endpointRecords_length s (by omega),
      fun j e role last hj hmore he hrole hlast => ?_⟩,
    fun s n x state w0 w1 w2 w3 a0 a1 a2 a3 hx hstate hframe hadvance => ?_,
    fun s timing c0 c1 c2 c3 htiming hcounter => ?_,
    fun s t i r q job hat hkind hexec => ⟨fun hmore => ?_, fun hout hplaced => ?_⟩,
    fun s t => ⟨fun h => ?_, fun q job hexec hplaced hout => ?_⟩⟩
  · have hget := endpointRecords_get s (first + 4 * k) (n := min 4 (count - 4 * k)) (j := j)
      (by omega) he
    rw [← endpointRecord_eq _ hrole hlast]
    exact take_drop_flatMap endpointRecord_length hget
  · subst hx
    obtain ⟨hlen, h0, h8, h12, h16, h20, h24, h40, h44, h60⟩ := callRecord_fields n s.calls[n]
    rw [← hframe, bytesOfWord_wordOfBytes, callState_code hstate] at h0
    rw [← hadvance, bytesOfWord_wordOfBytes] at h12
    rw [optByte_eq] at h20
    refine ⟨hlen, h0, h8, h12, h16, h20, fun j hj => ?_, h40, fun j hj => ?_, h60⟩
    · exact memberBytes_eq _ ▸ h24 j hj
    · exact switchBytes_eq _ ▸ h44 j hj
  · have hbytes : bytesOfWord s.timer.counter = [c0, c1, c2, c3] := by
      rw [← hcounter, bytesOfWord_wordOfBytes]
    have hhead : summaryHead s = [s.part.code, timing]
        ++ bytesOfHalf (halfN s.timer.slips) ++ [c0, c1, c2, c3]
        ++ [byteN s.port.hold.length, 0#8] ++ bytesOfHalf (halfN s.freeRings.length)
        ++ bytesOfHalf (halfN ((List.finRange 512).countP fun e =>
          s.endpoints[e].admitted.isSome)) ++ [0#8, 0#8] := by
      rw [← hbytes, ← timingState_code htiming, ← admitted_count]
      rfl
    refine ⟨?_, fun hpart => summary_head s ?_ (Nat.le_of_ble_eq_true rfl),
      summary_head s ?_ (Nat.le_of_ble_eq_true rfl), summary_head s ?_ (Nat.le_of_ble_eq_true rfl),
      summary_head s ?_ (Nat.le_of_ble_eq_true rfl), fun l state hstate => ?_⟩
    · show (s.summaryRecord).length = 48
      rw [summaryRecord_eq, List.length_append, length_flatMap laneBytes_length,
        Vector.length_toList]
      rfl
    · rw [hhead, hpart]
      rfl
    · rw [hhead]
      rfl
    · rw [hhead]
      rfl
    · rw [hhead]
      rfl
    · have hlane := summary_lane s l
      unfold laneBytes at hlane
      rw [laneState_code hstate] at hlane
      refine ⟨fun hnone => ?_, fun c hcall => ?_, fun d hentry => ?_⟩
      · rw [hnone] at hlane
        exact hlane
      · rw [hcall] at hlane
        exact hlane
      · rw [hentry] at hlane
        exact hlane
  · have hafter : (s.afterAnswer t i).engine.inExec = some { seq := q, phase := .report job } :=
      hexec
    rw [exec_reportAnswer hat t (Answers.fits_ok_of_write (by rw [hkind]; rfl)),
      exec_reportAnswer hat t rfl, reportAnswer_goesOn hafter hmore,
      reportAnswer_goesOn hafter hmore]
    rw [← answeredJob_ok, ← answeredJob_fault]
    exact ⟨rfl, rfl⟩
  · have hafter : (s.afterAnswer t i).engine.inExec = some { seq := q, phase := .report job } :=
      hexec
    rw [exec_reportAnswer hat t (Answers.fits_ok_of_write (by rw [hkind]; rfl)),
      exec_reportAnswer hat t rfl, reportAnswer_ends hafter hout hplaced,
      reportAnswer_ends hafter hout hplaced]
    refine ⟨?_, ?_⟩
    · rw [show decide (Answer.ok [] = .fault) = false from rfl, answeredJob_ok]
      rfl
    · rw [show decide (Answer.fault = .fault) = true from rfl, answeredJob_fault]
      rfl
  · have hsame : (s.atInstant t).finishReport = s.atInstant t := finishReport_goesOn h
    exact congrArg (fun u : State => Host.Outcome.next u.settle) hsame
  · have hdone : (s.atInstant t).finishReport = (s.atInstant t).finish (job.completion q) :=
      finishReport_done hexec hplaced hout
    exact congrArg (fun u : State => Host.Outcome.next u.settle) hdone

end Sys2Proof.Reporting

namespace Sys2Proof.Arrivals

open Sys2Proof Sys2Proof.Machine Sys2Proof.Laws

/-! ## The checks of an arriving request (R20, R21, R22) -/

theorem isWrite_iff (k : ReqKind) : k.isWrite = true ↔ k = .write ∨ k = .writeIfReserved := by
  cases k <;> simp [ReqKind.isWrite]

theorem isReserve_iff (k : ReqKind) :
    k.isReserve = true ↔ k = .readReserve ∨ k = .writeIfReserved := by
  cases k <;> simp [ReqKind.isReserve]

theorem partialSample_iff (ws : List WriteWord) : partialSample ws = true ↔
    ∃ w ∈ ws, w.en.getLsbD 0 ≠ w.en.getLsbD 1 ∨ w.en.getLsbD 2 ≠ w.en.getLsbD 3 := by
  simp [partialSample]

section

variable (s : State) (a : Accepted)

theorem rightsOk_iff : s.rightsOk a = true ↔
    ∀ i < a.req.len, s.mayAccess a.req.ep a.req.kind.isWrite a.region (a.off + i) = true := by
  simp [State.rightsOk]

theorem rightsOk_false_iff : s.rightsOk a = false ↔
    ∃ i < a.req.len, s.mayAccess a.req.ep a.req.kind.isWrite a.region (a.off + i) = false := by
  rw [← Bool.not_eq_true, rightsOk_iff]
  simp

/-- The last word of a request. -/
def lastWord : Nat := a.req.addr.toNat + a.req.len - 1

/-- A burst leaves the word space or its region (R20). -/
def Leaves : Prop := 1073741824 ≤ lastWord a ∨ s.regionAt (lastWord a) ≠ a.region

/-- A MAILBOX request of a reserve kind that is not one word long (R20). -/
def LongReserve : Prop := a.region = .mailbox ∧ a.req.kind.isReserve = true ∧ a.req.len ≠ 1

/-- A burst over a control region has a word that its endpoint may not access (R15). -/
def Barred : Prop := a.region.isControl = true ∧ s.rightsOk a = false

variable {s a}

theorem arrivalCheck_eq : s.arrivalCheck a =
    if (decide (1073741824 ≤ lastWord a) || decide (s.regionAt (lastWord a) ≠ a.region)) = true
      then some .shape
    else if (decide (a.region = .mailbox) && a.req.kind.isReserve && decide (a.req.len ≠ 1)) = true
      then some .shape
    else if (a.region.isControl && !s.rightsOk a) = true then some .foreign
    else if a.region = .voice then s.voiceCheck a
    else if s.countOutOfRange a = true then some .window
    else none := rfl

theorem leaves_iff : (decide (1073741824 ≤ lastWord a)
    || decide (s.regionAt (lastWord a) ≠ a.region)) = true ↔ Leaves s a := by
  simp [Leaves]

theorem arrivalCheck_of_leaves (h : Leaves s a) : s.arrivalCheck a = some .shape := by
  rw [arrivalCheck_eq, leaves_iff.2 h]
  rfl

theorem arrivalCheck_of_longReserve (h : ¬ Leaves s a) (hlong : LongReserve a) :
    s.arrivalCheck a = some .shape := by
  obtain ⟨hregion, hreserve, hlen⟩ := hlong
  rw [arrivalCheck_eq]
  refine (if_neg fun hl => h (leaves_iff.1 hl)).trans (if_pos ?_)
  simp [hregion, hreserve, hlen]

theorem not_longReserve_cond (h : ¬ LongReserve a) :
    ¬ (decide (a.region = .mailbox) && a.req.kind.isReserve && decide (a.req.len ≠ 1)) = true := by
  simpa [LongReserve] using h

theorem arrivalCheck_of_barred (h : ¬ Leaves s a) (hlong : ¬ LongReserve a) (hbar : Barred s a) :
    s.arrivalCheck a = some .foreign := by
  obtain ⟨hcontrol, hrights⟩ := hbar
  rw [arrivalCheck_eq]
  refine (if_neg fun hl => h (leaves_iff.1 hl)).trans
    ((if_neg (not_longReserve_cond hlong)).trans (if_pos ?_))
  simp [hcontrol, hrights]

/-- With shape, length and rights in order, the checks of VOICE or of a watched count are left. -/
theorem arrivalCheck_of_passed (h : ¬ Leaves s a) (hlong : ¬ LongReserve a) (hbar : ¬ Barred s a) :
    s.arrivalCheck a = if a.region = .voice then s.voiceCheck a
      else if s.countOutOfRange a = true then some .window else none := by
  rw [arrivalCheck_eq]
  refine (if_neg fun hl => h (leaves_iff.1 hl)).trans
    ((if_neg (not_longReserve_cond hlong)).trans (if_neg ?_))
  simpa [Barred] using hbar

theorem voiceCheck_eq : s.voiceCheck a =
    if a.off / 320 ≠ (a.off + a.req.len - 1) / 320 then some .shape
    else if a.req.kind = .readReserve ∨ a.req.kind = .writeIfReserved then some .shape
    else if a.req.kind = .write ∧ s.endpoints[a.req.ep].role = .control then some .foreign
    else if a.req.kind = .write ∧ ∃ w ∈ a.req.data,
        w.en.getLsbD 0 ≠ w.en.getLsbD 1 ∨ w.en.getLsbD 2 ≠ w.en.getLsbD 3 then
      some .partialSample
    else none := by
  unfold State.voiceCheck
  simp only [← partialSample_iff]
  cases a.req.kind <;> simp [ReqKind.isReserve, ReqKind.isWrite]

/-! ## What a request is accepted with (R12, R13, R46) -/

theorem fullWordAt_iff (off : Nat) (ws : List WriteWord) (k : Nat) (w : Word) :
    fullWordAt off ws k = some w ↔
      ∃ j, off + j = k ∧ ws[j]? = some { data := w, en := 0xF#4 } := by
  unfold fullWordAt
  constructor
  · intro h
    split at h
    · cases h
    · next hle =>
      refine ⟨k - off, by omega, ?_⟩
      split at h
      · cases h
      · next x hx =>
        split at h
        · next hen =>
          obtain rfl := Option.some.inj h
          rw [hx, ← hen]
        · cases h
  · rintro ⟨j, rfl, hj⟩
    rw [if_neg (by omega), Nat.add_sub_cancel_left, hj]
    rfl

variable (s) (id : Nat) (r : Request)

theorem accepted_region : (s.accepted id r).region =
    if s.hasPlan = true then s.regionAt r.addr.toNat else .passThrough := rfl

theorem accepted_off : (s.accepted id r).off =
    r.addr.toNat - s.regionWord (s.accepted id r).region := rfl

theorem accepted_watch : (s.accepted id r).watch =
    s.watchOf r (s.accepted id r).region (s.accepted id r).off := rfl

theorem regionAt_ne_passThrough (w : Nat) : s.regionAt w ≠ .passThrough := by
  unfold State.regionAt
  dsimp only
  repeat' split
  all_goals exact nofun

variable (region : Region) (off : Nat)

theorem watchOf_read (h : r.kind.isWrite = false) : s.watchOf r region off = none := by
  unfold State.watchOf
  rw [h]
  rfl

/-- The watched word outside MAILBOX that a write carries, region by region. -/
theorem watchOf_write (h : r.kind.isWrite = true) : s.watchOf r region off =
    match region with
    | .passThrough =>
      if r.ep = s.bootEp && fullWordAt r.addr.toNat r.data s.signatureWord = some Config.signature
      then some .signature else none
    | .anchor => if fullWordAt off r.data 15 = some Config.signature then some .signature else none
    | .order => (fullWordAt off r.data 256).map fun w => .orderCount (loHalf w)
    | .completion => (fullWordAt off r.data 257).map fun w => .completionCount (loHalf w)
    | .mailbox => none
    | .voice => none
    | .openMem => none := by
  unfold State.watchOf
  rw [h]
  rfl

theorem watchOf_signature : s.watchOf r region off = some .signature ↔ r.kind.isWrite = true
    ∧ ((region = .anchor ∧ fullWordAt off r.data 15 = some Config.signature)
      ∨ (region = .passThrough ∧ r.ep = s.bootEp
        ∧ fullWordAt r.addr.toNat r.data s.signatureWord = some Config.signature)) := by
  cases h : r.kind.isWrite with
  | false => simp [watchOf_read s r region off h]
  | true =>
    rw [watchOf_write s r region off h]
    cases region <;> simp

theorem watchOf_orderCount (v : Half) : s.watchOf r region off = some (.orderCount v) ↔
    r.kind.isWrite = true ∧ region = .order
      ∧ ∃ w, fullWordAt off r.data 256 = some w ∧ loHalf w = v := by
  cases h : r.kind.isWrite with
  | false => simp [watchOf_read s r region off h]
  | true =>
    rw [watchOf_write s r region off h]
    cases region <;> simp

theorem watchOf_completionCount (v : Half) : s.watchOf r region off = some (.completionCount v) ↔
    r.kind.isWrite = true ∧ region = .completion
      ∧ ∃ w, fullWordAt off r.data 257 = some w ∧ loHalf w = v := by
  cases h : r.kind.isWrite with
  | false => simp [watchOf_read s r region off h]
  | true =>
    rw [watchOf_write s r region off h]
    cases region <;> simp

theorem watchOf_ne_mailbox (m : MboxNo) : s.watchOf r region off ≠ some (.mailbox m) := by
  cases h : r.kind.isWrite with
  | false => simp [watchOf_read s r region off h]
  | true =>
    rw [watchOf_write s r region off h]
    cases region <;> simp

end

end Sys2Proof.Arrivals

namespace Sys2Proof.Arrivals

open Sys2Proof Sys2Proof.Machine Sys2Proof.Laws

/-! ## The refusal of an arriving request (R7, R20) -/

section

variable {s : State} {a : Accepted}

theorem arrivalRefusal_unplanned (h : s.hasPlan = false) : s.arrivalRefusal a = none :=
  if_neg (Bool.eq_false_iff.1 h)

theorem arrivalRefusal_planned (h : s.hasPlan = true) : s.arrivalRefusal a = s.arrivalCheck a :=
  if_pos h

/-- No watched count out of range (R165, R169). -/
theorem countOutOfRange_false (horder : ∀ v, a.watch ≠ some (.orderCount v))
    (hcompletion : ∀ v, a.watch ≠ some (.completionCount v)) : s.countOutOfRange a = false := by
  unfold State.countOutOfRange
  split
  · next v h => exact absurd h (horder v)
  · next v h => exact absurd h (hcompletion v)
  all_goals rfl

theorem countOutOfRange_order {v : Half} (h : a.watch = some (.orderCount v)) :
    s.countOutOfRange a = true ↔ ¬ (v - s.engine.orderConsumed).toNat ≤ 32 := by
  unfold State.countOutOfRange
  rw [h]
  exact (Bool.not_eq_true' _).to_iff.trans decide_eq_false_iff_not

theorem countOutOfRange_completion {v : Half} (h : a.watch = some (.completionCount v)) :
    s.countOutOfRange a = true ↔ ¬ (v - s.engine.completionConsumer).toNat ≤
      (s.engine.completionProducer - s.engine.completionConsumer).toNat := by
  unfold State.countOutOfRange
  rw [h]
  exact (Bool.not_eq_true' _).to_iff.trans decide_eq_false_iff_not

/-- What the checks come to for a request outside VOICE that passes the earlier ones. -/
theorem arrivalCheck_count (hin : ¬ Leaves s a) (hlong : ¬ LongReserve a) (hbar : ¬ Barred s a)
    (hvoice : a.region ≠ .voice) :
    s.arrivalCheck a = if s.countOutOfRange a = true then some .window else none := by
  rw [arrivalCheck_of_passed hin hlong hbar, if_neg hvoice]

theorem arrivalCheck_none (hin : ¬ Leaves s a) (hlong : ¬ LongReserve a) (hbar : ¬ Barred s a)
    (hvoice : a.region ≠ .voice) (horder : ∀ v, a.watch ≠ some (.orderCount v))
    (hcompletion : ∀ v, a.watch ≠ some (.completionCount v)) : s.arrivalCheck a = none := by
  rw [arrivalCheck_count hin hlong hbar hvoice, countOutOfRange_false horder hcompletion]
  rfl

theorem not_longReserve_of_region (h : a.region ≠ .mailbox) : ¬ LongReserve a := fun hl => h hl.1

theorem not_barred_of_rights (h : ∀ i < a.req.len,
    s.mayAccess a.req.ep a.req.kind.isWrite a.region (a.off + i) = true) : ¬ Barred s a :=
  fun hb => Bool.noConfusion (((rightsOk_iff s a).2 h).symm.trans hb.2)

theorem not_barred_of_data (h : a.region.isControl = false) : ¬ Barred s a :=
  fun hb => Bool.noConfusion (h.symm.trans hb.1)

end

section

variable (s : State) (id : Nat) (r : Request)

/-- A request is watched for an order count only in ORDER, and for a completion count only in
COMPLETION. -/
theorem watch_orderCount_region {v : Half} (h : (s.accepted id r).watch = some (.orderCount v)) :
    (s.accepted id r).region = .order :=
  ((watchOf_orderCount s r _ _ v).1 h).2.1

theorem watch_completionCount_region {v : Half}
    (h : (s.accepted id r).watch = some (.completionCount v)) :
    (s.accepted id r).region = .completion :=
  ((watchOf_completionCount s r _ _ v).1 h).2.1

/-- Its checks refuse no request that carries no count and passes the earlier ones. -/
theorem accepted_unrefused (hin : ¬ Leaves s (s.accepted id r))
    (hlong : ¬ LongReserve (s.accepted id r)) (hbar : ¬ Barred s (s.accepted id r))
    (hvoice : (s.accepted id r).region ≠ .voice)
    (horder : (s.accepted id r).region ≠ .order ∨
      ∀ v, (s.accepted id r).watch ≠ some (.orderCount v))
    (hcompletion : (s.accepted id r).region ≠ .completion ∨
      ∀ v, (s.accepted id r).watch ≠ some (.completionCount v)) :
    s.arrivalCheck (s.accepted id r) = none :=
  arrivalCheck_none hin hlong hbar hvoice
    (fun v hv => horder.elim (fun h => h (watch_orderCount_region s id r hv)) fun h => h v hv)
    (fun v hv => hcompletion.elim (fun h => h (watch_completionCount_region s id r hv))
      fun h => h v hv)

theorem accepted_passThrough_off (h : (s.accepted id r).region = .passThrough) :
    (s.accepted id r).off = r.addr.toNat := by
  rw [accepted_off, h]
  rfl

theorem accepted_arrivalCall (c : CallNo) : (s.accepted id r).arrivalCall = some c ↔
    (s.accepted id r).region = .voice
    ∧ ((∃ o, s.rings[(s.accepted id r).ring].state = .owned c o)
      ∨ s.rings[(s.accepted id r).ring].state = .draining c)
    ∧ s.calls[c].state = .opened ∧ ∃ m ∈ s.calls[c].members, m.ep = r.ep :=
  Holding.memberCall_iff s { s.accepted id r with arrivalCall := none } c

/-- The word of the anchor's base (R1). -/
theorem anchorWord_eq : s.anchorByte / 4 = s.anchorSel.toNat * 4194304 := by
  unfold State.anchorByte
  omega

end

/-- The checks of an arriving request, each made when those before it pass. -/
theorem arrivalRefusal_inOrder (s : State) (id : Nat) (r : Request) (a : Accepted)
    (ha : a = s.accepted id r) (hplan : s.hasPlan = true) (hin : ¬ Leaves s a) :
    (a.region = .mailbox → (r.kind = .readReserve ∨ r.kind = .writeIfReserved) → r.len ≠ 1 →
      s.arrivalRefusal a = some .shape)
    ∧ (a.region.isControl = true →
      (a.region = .mailbox → r.kind = .readReserve ∨ r.kind = .writeIfReserved → r.len = 1) →
      (∃ i < r.len, s.mayAccess r.ep r.kind.isWrite a.region (a.off + i) = false) →
      s.arrivalRefusal a = some .foreign)
    ∧ (a.region = .voice → s.arrivalRefusal a = s.voiceCheck a)
    ∧ (a.region = .openMem → s.arrivalRefusal a = none)
    ∧ ((∀ i < r.len, s.mayAccess r.ep r.kind.isWrite a.region (a.off + i) = true) →
      (a.region = .mailbox → (r.kind = .readReserve ∨ r.kind = .writeIfReserved → r.len = 1) →
        s.arrivalRefusal a = none)
      ∧ (a.region = .anchor → s.arrivalRefusal a = none)
      ∧ (a.region = .order ∨ a.region = .completion →
        s.arrivalRefusal a = if s.countOutOfRange a = true then some .window else none)) := by
  subst ha
  rw [arrivalRefusal_planned hplan]
  have hlong (hone : (s.accepted id r).region = .mailbox →
      r.kind = .readReserve ∨ r.kind = .writeIfReserved → r.len = 1) :
      ¬ LongReserve (s.accepted id r) :=
    fun ⟨hregion, hreserve, hlen⟩ => hlen (hone hregion ((isReserve_iff _).1 hreserve))
  refine ⟨fun hregion hreserve hlen =>
      arrivalCheck_of_longReserve hin ⟨hregion, (isReserve_iff _).2 hreserve, hlen⟩,
    fun hcontrol hone hbar =>
      arrivalCheck_of_barred hin (hlong hone) ⟨hcontrol, (rightsOk_false_iff s _).2 hbar⟩,
    fun hregion => ?_, fun hregion => ?_, fun hrights => ?_⟩
  · rw [arrivalCheck_of_passed hin (not_longReserve_of_region (by rw [hregion]; exact nofun))
      (not_barred_of_data (by rw [hregion]; rfl)), if_pos hregion]
  · exact accepted_unrefused s id r hin
      (not_longReserve_of_region (by rw [hregion]; exact nofun))
      (not_barred_of_data (by rw [hregion]; rfl)) (by rw [hregion]; exact nofun)
      (.inl (by rw [hregion]; exact nofun)) (.inl (by rw [hregion]; exact nofun))
  · have hbar : ¬ Barred s (s.accepted id r) := not_barred_of_rights hrights
    refine ⟨fun hregion hone => accepted_unrefused s id r hin (hlong fun _ => hone) hbar
        (by rw [hregion]; exact nofun) (.inl (by rw [hregion]; exact nofun))
        (.inl (by rw [hregion]; exact nofun)),
      fun hregion => accepted_unrefused s id r hin
        (not_longReserve_of_region (by rw [hregion]; exact nofun)) hbar
        (by rw [hregion]; exact nofun) (.inl (by rw [hregion]; exact nofun))
        (.inl (by rw [hregion]; exact nofun)),
      fun hregion => arrivalCheck_count hin (not_longReserve_of_region ?_) hbar ?_⟩
    · rcases hregion with h | h <;> rw [h] <;> exact nofun
    · rcases hregion with h | h <;> rw [h] <;> exact nofun

/-- Settles O8: the checks in their order, and the record that a request is accepted with. -/
theorem arrivalChecksInOrder : Obligations.ArrivalChecksInOrder := by
  refine ⟨fun s id r a last ha hlast h1 => ⟨arrivalRefusal_unplanned, fun hplan => ?_⟩,
    fun s id r a ha => ?_⟩
  · have hregion : a.region = s.regionAt r.addr.toNat := by
      rw [ha, accepted_region, if_pos hplan]
    have hleaves : Leaves s a ↔
        1073741824 ≤ last ∨ s.regionAt last ≠ s.regionAt r.addr.toNat := by
      unfold Leaves
      rw [hregion, show lastWord a = last by rw [hlast, ha]; rfl]
    refine ⟨fun h => ?_, fun hspace hsame => ?_⟩
    · rw [arrivalRefusal_planned hplan]
      exact arrivalCheck_of_leaves (hleaves.2 h)
    · have hin : ¬ Leaves s a := fun h =>
        (hleaves.1 h).elim (fun h => Nat.not_lt.2 h hspace) fun h => h hsame
      obtain ⟨hlong, hbar, hvoice, hopen, hrest⟩ := arrivalRefusal_inOrder s id r a ha hplan hin
      refine ⟨hlong, hbar, fun hv => ?_, fun v ho hrights hw => ?_, fun v hc hrights hw => ?_,
        hopen, fun hrights => ?_⟩
      · rw [hvoice hv, voiceCheck_eq, ha]
        rfl
      · rw [(hrest hrights).2.2 (.inl ho)]
        simp only [countOutOfRange_order hw, ite_not]
      · rw [(hrest hrights).2.2 (.inr hc)]
        simp only [countOutOfRange_completion hw, ite_not]
      · obtain ⟨hmailbox, hanchor, hcount⟩ := hrest hrights
        refine ⟨hmailbox, hanchor, fun ho hw => ?_, fun hc hw => ?_⟩
        · rw [hcount (.inl ho), countOutOfRange_false hw fun v hv => ?_]
          · rfl
          · subst ha
            exact Region.noConfusion (ho.symm.trans (watch_completionCount_region s id r hv))
        · rw [hcount (.inr hc), countOutOfRange_false (fun v hv => ?_) hw]
          · rfl
          · subst ha
            exact Region.noConfusion (hc.symm.trans (watch_orderCount_region s id r hv))
  · subst ha
    have hwrite := isWrite_iff r.kind
    have hsignature : s.signatureWord = s.anchorSel.toNat * 4194304 + 15 :=
      congrArg (· + 15) (anchorWord_eq s)
    refine ⟨rfl, rfl, rfl, fun hnone => ?_, fun hplan => ?_, accepted_arrivalCall s id r,
      watchOf_ne_mailbox s r _ _, ?_, fun v => ?_, fun v => ?_⟩
    · have hregion : (s.accepted id r).region = .passThrough := by
        rw [accepted_region, hnone]
        rfl
      exact ⟨hregion, accepted_passThrough_off s id r hregion⟩
    · have hregion : (s.accepted id r).region = s.regionAt r.addr.toNat := by
        rw [accepted_region, if_pos hplan]
      refine ⟨hregion, fun h => ?_, fun h => ?_, fun h => ?_, fun h => ?_, fun h => ?_, ?_⟩
      · rw [accepted_off, h]
        rfl
      · rw [accepted_off, h]
        rfl
      · rw [accepted_off, h]
        rfl
      · rw [accepted_off, h]
        rfl
      · rw [accepted_off, h, ← anchorWord_eq]
        rfl
      · rw [hregion]
        exact regionAt_ne_passThrough s _
    · rw [accepted_watch, watchOf_signature, hwrite, fullWordAt_iff, fullWordAt_iff, hsignature]
      refine and_congr_right fun _ => or_congr Iff.rfl (and_congr_right fun hpass => ?_)
      rw [accepted_passThrough_off s id r hpass]
      exact Iff.rfl
    · rw [accepted_watch, watchOf_orderCount, hwrite]
      simp only [fullWordAt_iff]
    · rw [accepted_watch, watchOf_completionCount, hwrite]
      simp only [fullWordAt_iff]

end Sys2Proof.Arrivals

namespace Sys2Proof.Pieces

open Sys2Proof Sys2Proof.Machine Sys2Proof.Laws

/-! ## The samples of a member read (R57, R58, R68) -/

theorem packSamples_cons (be : Bool) (a b : SampleSource) (rest : List SampleSource) :
    packSamples be (a :: b :: rest) =
      wordOfHalves (convertOrder be a.get) (convertOrder be b.get) :: packSamples be rest := by
  rw [packSamples]

/-- A response holds one word for every two samples, the first in its low half (R58). -/
theorem packSamples_values (be : Bool) (vs : List Half) (heven : vs.length % 2 = 0) :
    (packSamples be (vs.map SampleSource.value)).length = vs.length / 2
    ∧ ∀ (i : Nat) (a b : Half), vs[2 * i]? = some a → vs[2 * i + 1]? = some b →
      (packSamples be (vs.map SampleSource.value))[i]? =
        some (wordOfHalves (convertOrder be a) (convertOrder be b)) := by
  match vs, heven with
  | [], _ => exact ⟨rfl, fun i a b h => nomatch h⟩
  | x :: y :: rest, heven =>
    rw [List.length_cons, List.length_cons] at heven
    obtain ⟨hlen, hget⟩ := packSamples_values be rest (by omega)
    rw [List.map_cons, List.map_cons, packSamples_cons, List.length_cons, hlen, List.length_cons,
      List.length_cons]
    refine ⟨by omega, fun i a b ha hb => ?_⟩
    cases i with
    | zero =>
      cases ha
      cases hb
      rfl
    | succ i => exact hget i a b ha hb

theorem resolve_eq (no : Nat) (ws : List Word) : SampleSource.resolve no ws = fun q => match q with
    | .value v => .value v
    | .stored n j z => if n = no then
        .value ((if j % 2 = 0 then loHalf (ws.getD (j / 2) 0#32)
          else hiHalf (ws.getD (j / 2) 0#32)) - z)
      else .stored n j z := by
  funext q
  cases q <;> rfl

/-! ## The pieces of a request as memory answers them (R36) -/

/-- Some other piece was answered FAULT. -/
def OtherFault (ps : List Piece) (no : Nat) : Prop := ∃ q ∈ ps, q.no ≠ no ∧ q.done = some false

section

variable {ps : List Piece} {no : Nat} {ok : Bool}

theorem answered_other {q : Piece} (h : q.no ≠ no) : q.answered no ok = q := if_neg h

theorem answered_self {q : Piece} (h : q.no = no) : q.answered no ok = { q with done := some ok } :=
  if_pos h

/-- A request stays in transform while another piece is unanswered. -/
theorem answered_incomplete (h : ∃ q ∈ ps, q.no ≠ no ∧ q.done = none) :
    ((ps.map (Piece.answered no ok)).all fun p => p.done.isSome) = false := by
  obtain ⟨q, hq, hne, hnone⟩ := h
  rw [List.all_eq_false]
  refine ⟨q, List.mem_map.2 ⟨q, hq, answered_other hne⟩, ?_⟩
  rw [hnone]
  exact Bool.false_ne_true

theorem answered_complete (h : ∀ q ∈ ps, q.no ≠ no → q.done.isSome = true) :
    ((ps.map (Piece.answered no ok)).all fun p => p.done.isSome) = true := by
  rw [List.all_eq_true]
  intro p hp
  obtain ⟨q, hq, rfl⟩ := List.mem_map.1 hp
  by_cases hno : q.no = no
  · rw [answered_self hno]
    rfl
  · rw [answered_other hno]
    exact h q hq hno

/-- With the last answer OK, a FAULT among the answers is another piece's. -/
theorem answered_ok_fault : ((ps.map (Piece.answered no true)).any fun p => p.done = some false) =
    true ↔ OtherFault ps no := by
  rw [List.any_eq_true]
  constructor
  · rintro ⟨p, hp, hfault⟩
    obtain ⟨q, hq, rfl⟩ := List.mem_map.1 hp
    by_cases hno : q.no = no
    · rw [answered_self hno] at hfault
      cases hfault
    · rw [answered_other hno] at hfault
      exact ⟨q, hq, hno, of_decide_eq_true hfault⟩
  · rintro ⟨q, hq, hno, hfault⟩
    exact ⟨q, List.mem_map.2 ⟨q, hq, answered_other hno⟩, decide_eq_true hfault⟩

theorem answered_fault (h : ∃ p ∈ ps, p.no = no) :
    ((ps.map (Piece.answered no false)).any fun p => p.done = some false) = true := by
  obtain ⟨p, hp, hno⟩ := h
  exact List.any_eq_true.2 ⟨_, List.mem_map.2 ⟨p, hp, answered_self hno⟩, rfl⟩

end

section

variable {s : State} {id no : Nat} {x : Xform}

/-- An answer that memory gives to a piece (R36). -/
def ToPiece (a : Answer) : Prop := (∃ ws, a = .ok ws) ∨ a = .fault

theorem answered_pieces (x : Xform) (no : Nat) {a : Answer} (h : ToPiece a) :
    ∃ ok, (x.answered no a).pieces = x.pieces.map (Piece.answered no ok) := by
  rcases h with ⟨ws, rfl⟩ | rfl
  · exact ⟨true, rfl⟩
  · exact ⟨false, rfl⟩

theorem pieceAnswer_goesOn (hx : s.port.xforms.find? (fun y => y.acc.id = id) = some x)
    (hopen : ∃ q ∈ x.pieces, q.no ≠ no ∧ q.done = none) {a : Answer} (ha : ToPiece a) :
    s.pieceAnswer id no a = (s.fillByAnswer x no a).setPort { (s.fillByAnswer x no a).port with
      xforms := (s.fillByAnswer x no a).port.xforms.map fun y =>
        if y.acc.id = id then x.answered no a else y } := by
  obtain ⟨ok, hpieces⟩ := answered_pieces x no ha
  unfold State.pieceAnswer
  rw [hx]
  refine if_neg (Bool.eq_false_iff.1 ?_)
  unfold Xform.complete
  rw [hpieces]
  exact answered_incomplete hopen

theorem pieceAnswer_ends (hx : s.port.xforms.find? (fun y => y.acc.id = id) = some x)
    (hlast : ∀ q ∈ x.pieces, q.no ≠ no → q.done.isSome = true) {a : Answer} (ha : ToPiece a) :
    s.pieceAnswer id no a = (s.fillByAnswer x no a).leaveTransform (x.answered no a)
      ((x.answered no a).response (answerData a)) := by
  obtain ⟨ok, hpieces⟩ := answered_pieces x no ha
  unfold State.pieceAnswer
  rw [hx]
  refine if_pos ?_
  unfold Xform.complete
  rw [hpieces]
  exact answered_complete hlast

/-! ## Fill bits (R54) -/

theorem fillByAnswer_fault (s : State) (x : Xform) (no : Nat) :
    s.fillByAnswer x no .fault = s := rfl

/-- Only the answer of a write piece sets a fill bit. -/
theorem fillByAnswer_other (s : State) (no : Nat) (a : Answer)
    (h : ∀ tk k f, x.course ≠ .memberWrite tk k f) : s.fillByAnswer x no a = s := by
  unfold State.fillByAnswer
  split
  · next hcourse _ => exact absurd hcourse (h _ _ _)
  · rfl

theorem fillByAnswer_write {tk : Ticket} {k : FrameSlotNo} {f : Word} {p : Piece}
    (hcourse : x.course = .memberWrite tk k f) (hp : x.pieces.find? (fun p => p.no = no) = some p)
    (s : State) (ws : List Word) : s.fillByAnswer x no (.ok ws) = s.setFill tk k f p.seg := by
  unfold State.fillByAnswer
  rw [hcourse, hp]

/-- The fill bit is set where the slot still holds the opening the piece was cut for. -/
theorem setFill_set {tk : Ticket} {k : FrameSlotNo} {o : OpenSlot} {owner : EpNo}
    (hring : s.rings[tk.ring].state = .owned tk.call owner)
    (hslot : s.rings[tk.ring].slots[k] = some o) (seg : Fin 8) :
    s.setFill tk k o.frame seg = s.setRing tk.ring { s.rings[tk.ring] with
      slots := s.rings[tk.ring].slots.set k
        (some { o with fill := o.fill ||| (1#8 <<< seg.val) }) } := by
  unfold State.setFill
  rw [hring, hslot]
  exact if_pos (by simp)

theorem setFill_kept {tk : Ticket} {k : FrameSlotNo} {f : Word}
    (h : (∀ owner, s.rings[tk.ring].state ≠ .owned tk.call owner)
      ∨ ∀ o, s.rings[tk.ring].slots[k] = some o → o.frame ≠ f) (seg : Fin 8) :
    s.setFill tk k f seg = s := by
  unfold State.setFill
  split
  · next c owner o hring hslot =>
    refine if_neg fun hgo => ?_
    obtain ⟨hc, hf⟩ := Bool.and_eq_true_iff.1 hgo
    rcases h with h | h
    · exact h owner (of_decide_eq_true hc ▸ hring)
    · exact h o hslot (of_decide_eq_true hf)
  · rfl

end

end Sys2Proof.Pieces

namespace Sys2Proof.Pieces

open Sys2Proof Sys2Proof.Machine Sys2Proof.Laws

/-! ## The end of a request in transform (R43, R55, R58, R59, R95) -/

section

variable (s : State)

theorem setRing_setRing (r : RingNo) (x y : Ring) :
    (s.setRing r x).setRing r y = s.setRing r y := by
  unfold State.setRing
  dsimp only
  rw [Vector.set_set]

theorem setLane_setLane (l : LaneNo) (x y : Lane) :
    (s.setLane l x).setLane l y = s.setLane l y := by
  unfold State.setLane
  dsimp only
  rw [Vector.set_set]

theorem endRingDrain_free {r : RingNo} {c : CallNo} (h : s.rings[r].state = .draining c)
    (hcount : s.rings[r].count = 0) : s.endRingDrain r = s.setRing r Ring.free := by
  unfold State.endRingDrain
  rw [h]
  exact if_pos hcount

theorem endRingDrain_kept {r : RingNo}
    (h : ¬ ((∃ c, s.rings[r].state = .draining c) ∧ s.rings[r].count = 0)) :
    s.endRingDrain r = s := by
  unfold State.endRingDrain
  split
  · next c hdraining => exact if_neg fun hcount => h ⟨⟨c, hdraining⟩, hcount⟩
  all_goals rfl

/-- A ring that a member request leaves: its count falls, and a DRAINING ring whose count falls to 0
goes FREE (R43). -/
def leftRing (x : Ring) : Ring :=
  if (∃ c, x.state = .draining c) ∧ x.count ≤ 1 then
    { state := .free, count := 0, slots := Vector.replicate 4 none }
  else { x with count := x.count - 1 }

theorem leaveRing_eq (r : RingNo) :
    (s.setRing r { s.rings[r] with count := s.rings[r].count - 1 }).endRingDrain r =
      s.setRing r (leftRing s.rings[r]) := by
  have hself := setRing_get_self s r { s.rings[r] with count := s.rings[r].count - 1 }
  by_cases h : (∃ c, s.rings[r].state = .draining c) ∧ s.rings[r].count ≤ 1
  · obtain ⟨⟨c, hdraining⟩, hcount⟩ := h
    rw [endRingDrain_free _ (by rw [hself]; exact hdraining)
      (by rw [hself]; exact Nat.sub_eq_zero_of_le hcount), setRing_setRing, leftRing,
      if_pos ⟨⟨c, hdraining⟩, hcount⟩]
    rfl
  · rw [endRingDrain_kept, leftRing, if_neg h]
    rw [hself]
    exact fun hh => h ⟨hh.1, Nat.sub_eq_zero_iff_le.1 hh.2⟩

/-- A lane that a member request leaves: its count falls and it is stamped (R59, R95). -/
def leftLane (x : Lane) (now : Instant) : Lane := { x with count := x.count - 1, lastUse := now }

theorem leaveLane_eq (l : LaneNo) :
    (s.setLane l { s.lanes[l] with count := s.lanes[l].count - 1 }).stampLane l =
      s.setLane l (leftLane s.lanes[l] s.now) := by
  unfold State.stampLane
  rw [setLane_setLane, setLane_get_self]
  rfl

theorem leaveCounts_eq (tk : Ticket) : s.leaveCounts tk =
    (s.setLane tk.lane (leftLane s.lanes[tk.lane] s.now)).setRing tk.ring
      (leftRing s.rings[tk.ring]) := by
  have hlane := leaveLane_eq
    (s.setRing tk.ring { s.rings[tk.ring] with count := s.rings[tk.ring].count - 1 }) tk.lane
  have hring := leaveRing_eq (s.setLane tk.lane (leftLane s.lanes[tk.lane] s.now)) tk.ring
  unfold State.leaveCounts
  dsimp only
  exact (congrArg (fun u => State.endRingDrain u tk.ring) hlane).trans hring

variable (x : Xform) (r : Response)

/-- The exchange-bus port and the transform places after a request has left transform. -/
def leftPort : Port := { s.port with
  xforms := s.port.xforms.filter fun y => y.acc.id ≠ x.acc.id
  responses := decideResponse x.acc.id r s.port.responses }

theorem leaveTransform_raw (h : x.course = .raw) :
    s.leaveTransform x r = s.setPort (leftPort s x r) := by
  unfold State.leaveTransform
  rw [h]
  rfl

theorem leaveTransform_memberRead {tk : Ticket} {be : Bool} {out : List SampleSource}
    (h : x.course = .memberRead tk be out) : s.leaveTransform x r = { s with
      port := leftPort s x r
      rings := s.rings.set tk.ring (leftRing s.rings[tk.ring])
      lanes := s.lanes.set tk.lane (leftLane s.lanes[tk.lane] s.now) } := by
  unfold State.leaveTransform
  rw [h]
  have hleft := leaveCounts_eq (s.setPort { s.port with
    xforms := s.port.xforms.filter fun y => y.acc.id ≠ x.acc.id }) tk
  exact congrArg (fun u => State.respond u x.acc.id r) hleft

end

section

variable {s : State} {i id no : Nat} {r : DsRequest} {x : Xform}

/-- Memory answers a piece of a request in transform. -/
theorem exec_pieceAnswer (h : s.port.awaiting[i]? = some { req := r, src := .piece id no })
    (t : Instant) {a : Answer} (hfits : r.fits a = true) : exec (.memoryAnswer t i a) s =
      .next ((s.afterAnswer t i).pieceAnswer id no a).settle :=
  congrArg (fun u : State => Host.Outcome.next u.settle) (Answers.answerAt_of_awaiting h t hfits)

theorem exec_goesOn (h : s.port.awaiting[i]? = some { req := r, src := .piece id no })
    (hx : s.port.xforms.find? (fun y => y.acc.id = id) = some x)
    (hopen : ∃ q ∈ x.pieces, q.no ≠ no ∧ q.done = none) (t : Instant) {a : Answer}
    (ha : ToPiece a) (hfits : r.fits a = true) {u : State}
    (hu : (s.afterAnswer t i).fillByAnswer x no a = u) : exec (.memoryAnswer t i a) s =
      .next (u.setPort { u.port with xforms := u.port.xforms.map fun y =>
        if y.acc.id = id then x.answered no a else y }).settle := by
  rw [exec_pieceAnswer h t hfits, pieceAnswer_goesOn (s := s.afterAnswer t i) hx hopen ha, hu]

theorem exec_ends (h : s.port.awaiting[i]? = some { req := r, src := .piece id no })
    (hx : s.port.xforms.find? (fun y => y.acc.id = id) = some x)
    (hlast : ∀ q ∈ x.pieces, q.no ≠ no → q.done.isSome = true) (t : Instant) {a : Answer}
    (ha : ToPiece a) (hfits : r.fits a = true)
    (hcourse : ∀ tk k f, x.course ≠ .memberWrite tk k f) : exec (.memoryAnswer t i a) s =
      .next ((s.afterAnswer t i).leaveTransform (x.answered no a)
        ((x.answered no a).response (answerData a))).settle := by
  rw [exec_pieceAnswer h t hfits, pieceAnswer_ends (s := s.afterAnswer t i) hx hlast ha,
    fillByAnswer_other _ _ _ hcourse]

theorem response_fault (x : Xform) (ws : List Word)
    (h : (x.pieces.any fun p => p.done = some false) = true) : x.response ws = .fault := if_pos h

end

end Sys2Proof.Pieces

namespace Sys2Proof.Pieces

open Sys2Proof Sys2Proof.Machine Sys2Proof.Laws

/-! ## A request in transform after an answer (R36, R48, R57, R58) -/

section

variable {x : Xform} {no : Nat}

theorem answered_raw (h : x.course = .raw) (ws : List Word) : x.answered no (.ok ws) =
    { x with pieces := x.pieces.map (Piece.answered no true) } := by
  show ({ x with course := x.course.resolve no ws, pieces := _ } : Xform) = { x with pieces := _ }
  rw [h]
  rfl

theorem answered_memberRead {tk : Ticket} {be : Bool} {out : List SampleSource}
    (h : x.course = .memberRead tk be out) (ws : List Word) : x.answered no (.ok ws) =
    { x with course := .memberRead tk be (out.map (SampleSource.resolve no ws))
             pieces := x.pieces.map (Piece.answered no true) } := by
  show ({ x with course := x.course.resolve no ws, pieces := _ } : Xform) = _
  rw [h]
  rfl

theorem answered_memberWrite {tk : Ticket} {k : FrameSlotNo} {f : Word}
    (h : x.course = .memberWrite tk k f) (ws : List Word) : x.answered no (.ok ws) =
    { x with pieces := x.pieces.map (Piece.answered no true) } := by
  show ({ x with course := x.course.resolve no ws, pieces := _ } : Xform) = { x with pieces := _ }
  rw [h]
  rfl

/-- The response once memory has answered every piece: FAULT where a piece was answered FAULT. -/
theorem response_eq {a : Response} {ws : List Word}
    [Decidable (∃ q ∈ x.pieces, q.no ≠ no ∧ q.done = some false)]
    (h : (match (x.answered no (.ok ws)).course with
      | .raw => .ok ws
      | .memberRead _ be out => .ok (packSamples be out)
      | .memberWrite _ _ _ => .ok []) = a) :
    (x.answered no (.ok ws)).response ws =
      if ∃ q ∈ x.pieces, q.no ≠ no ∧ q.done = some false then .fault else a := by
  by_cases hfault : ∃ q ∈ x.pieces, q.no ≠ no ∧ q.done = some false
  · rw [if_pos hfault]
    exact response_fault _ ws (answered_ok_fault.2 hfault)
  · rw [if_neg hfault, ← h]
    exact if_neg fun hany => hfault (answered_ok_fault.1 hany)

theorem response_of_fault (h : ∃ p ∈ x.pieces, p.no = no) :
    (x.answered no .fault).response [] = .fault := response_fault _ [] (answered_fault h)

theorem acc_id_of_find {xs : List Xform} {id : Nat}
    (h : xs.find? (fun y => y.acc.id = id) = some x) : x.acc.id = id := by
  simpa using List.find?_some h

end

/-- Settles O17: an answer marks its piece, resolves the samples it holds or sets its fill bit, and
the last one ends the request. -/
theorem piecesAnswered : Obligations.PiecesAnswered := by
  refine ⟨fun s t i id no r x hat hx => ⟨fun hopen => ⟨?_,
      fun ws tk be out hkind hlen hcourse => ?_, fun ws hkind hlen hcourse => ?_, fun tk k f p hkind hcourse hp =>
        ⟨fun o owner hring hslot hframe => ?_, fun hkept => ?_⟩⟩,
      fun hlast => ⟨fun hcourse => ⟨fun ws hkind hlen => ?_, fun hpiece => ?_⟩,
        fun tk be out hcourse => ⟨fun ws hkind hlen => ?_, fun hpiece => ?_⟩⟩⟩,
    fun be vs heven => ?_⟩
  · rw [exec_goesOn hat hx hopen t (.inr rfl) rfl (fillByAnswer_fault _ _ _)]
    rfl
  · rw [exec_goesOn hat hx hopen t (.inl ⟨ws, rfl⟩) (Answers.fits_ok_of_read hkind hlen)
      (fillByAnswer_other _ _ _ (by rw [hcourse]; exact nofun)), answered_memberRead hcourse,
      resolve_eq]
    rfl
  · rw [exec_goesOn hat hx hopen t (.inl ⟨ws, rfl⟩) (Answers.fits_ok_of_read hkind hlen)
      (fillByAnswer_other _ _ _ (by rw [hcourse]; exact nofun)), answered_raw hcourse]
    rfl
  · subst hframe
    have hfill := fillByAnswer_write hcourse hp (s.afterAnswer t i) []
    rw [setFill_set (s := s.afterAnswer t i) hring hslot] at hfill
    rw [exec_goesOn hat hx hopen t (.inl ⟨[], rfl⟩) (Answers.fits_ok_of_write (by rw [hkind]; rfl))
      hfill, answered_memberWrite hcourse]
    rfl
  · have hfill := fillByAnswer_write hcourse hp (s.afterAnswer t i) []
    rw [setFill_kept (s := s.afterAnswer t i) hkept] at hfill
    rw [exec_goesOn hat hx hopen t (.inl ⟨[], rfl⟩) (Answers.fits_ok_of_write (by rw [hkind]; rfl))
      hfill, answered_memberWrite hcourse]
    rfl
  · obtain rfl := acc_id_of_find hx
    have hraw : (x.answered no (.ok ws)).course = .raw := by rw [answered_raw hcourse, hcourse]
    rw [exec_ends hat hx hlast t (.inl ⟨ws, rfl⟩) (Answers.fits_ok_of_read hkind hlen)
      (by rw [hcourse]; exact nofun), leaveTransform_raw _ _ _ hraw]
    rw [show answerData (.ok ws) = ws from rfl, response_eq (by rw [hraw])]
    rfl
  · obtain rfl := acc_id_of_find hx
    have hraw : (x.answered no .fault).course = .raw := hcourse
    rw [exec_ends hat hx hlast t (.inr rfl) rfl (by rw [hcourse]; exact nofun),
      leaveTransform_raw _ _ _ hraw, show answerData .fault = [] from rfl,
      response_of_fault hpiece]
    simp only [ite_self]
    rfl
  · obtain rfl := acc_id_of_find hx
    have hread : (x.answered no (.ok ws)).course =
        .memberRead tk be (out.map (SampleSource.resolve no ws)) := by
      rw [answered_memberRead hcourse]
    rw [exec_ends hat hx hlast t (.inl ⟨ws, rfl⟩) (Answers.fits_ok_of_read hkind hlen)
      (by rw [hcourse]; exact nofun), leaveTransform_memberRead _ _ _ hread]
    rw [show answerData (.ok ws) = ws from rfl, response_eq (by rw [hread]), resolve_eq]
    rfl
  · obtain rfl := acc_id_of_find hx
    have hread : (x.answered no .fault).course = .memberRead tk be out := hcourse
    rw [exec_ends hat hx hlast t (.inr rfl) rfl (by rw [hcourse]; exact nofun),
      leaveTransform_memberRead _ _ _ hread, show answerData .fault = [] from rfl,
      response_of_fault hpiece]
    simp only [ite_self]
    rfl
  · obtain ⟨hlen, hget⟩ := packSamples_values be vs heven
    exact ⟨hlen, fun i a b ha hb => ⟨_, hget i a b ha hb, Records.loHalf_wordOfHalves _ _,
      Records.hiHalf_wordOfHalves _ _⟩⟩

end Sys2Proof.Pieces

namespace Sys2Proof.WritePieces

open Sys2Proof Sys2Proof.Machine Sys2Proof.Laws

/-! ## Where the runs of a request lie (R45, R51) -/

/-- A run lies in its segment of the request's slot, and covers words of the request. -/
structure RunFits (a : Accepted) (run : Run) : Prop where
  slot : run.slot.val = a.ringWord / 80
  place : 10 * run.seg.val + run.first = a.ringWord % 80 + run.skip
  within : run.first + run.len ≤ 10
  covered : run.skip + run.len ≤ a.req.len
  starts : run.seg.val * 10 < a.ringWord % 80 + a.req.len
  ends : a.ringWord % 80 < (run.seg.val + 1) * 10

/-- A request of one slot that stays in its ring. -/
structure OneSlot (a : Accepted) : Prop where
  nonempty : 1 ≤ a.req.len
  slot : (a.ringWord + a.req.len - 1) / 80 = a.ringWord / 80
  ring : a.ringWord + a.req.len ≤ 320

section

variable {a : Accepted}

theorem oneSlot_of (h1 : 1 ≤ a.req.len)
    (hslot : slotOfWord (a.ringWord + a.req.len - 1) = slotOfWord a.ringWord)
    (hring : a.ringWord + a.req.len ≤ 320) : OneSlot a := by
  have hval : (a.ringWord + a.req.len - 1) / 80 % 4 = a.ringWord / 80 % 4 :=
    congrArg Fin.val hslot
  exact ⟨h1, by omega, hring⟩

theorem mem_runsOf_iff {r len : Nat} (h : 1 ≤ len) {run : Run} : run ∈ runsOf r len ↔
    ∃ g, r / 10 ≤ g ∧ g ≤ (r + len - 1) / 10 ∧ runAt r len g = run := by
  unfold runsOf
  rw [List.mem_map]
  constructor
  · rintro ⟨k, hk, rfl⟩
    have hlt := List.mem_range.1 hk
    exact ⟨r / 10 + k, by omega, by omega, rfl⟩
  · rintro ⟨g, hlow, hhigh, rfl⟩
    exact ⟨g - r / 10, List.mem_range.2 (by omega), by rw [Nat.add_sub_cancel' hlow]⟩

/-- The run of segment g of the ring, among the segments of one slot that the request touches. -/
theorem runAt_fits {r n g : Nat} (h1 : 1 ≤ n) (hslot : (r + n - 1) / 80 = r / 80)
    (hring : r + n ≤ 320) (hlow : r / 10 ≤ g) (hhigh : g ≤ (r + n - 1) / 10) :
    g / 8 % 4 = r / 80
    ∧ 10 * (g % 8) + (max r (10 * g) - 10 * g) = r % 80 + (max r (10 * g) - r)
    ∧ max r (10 * g) - 10 * g + (min (r + n) (10 * g + 10) - max r (10 * g)) ≤ 10
    ∧ max r (10 * g) - r + (min (r + n) (10 * g + 10) - max r (10 * g)) ≤ n
    ∧ g % 8 * 10 < r % 80 + n ∧ r % 80 < (g % 8 + 1) * 10 := by
  refine ⟨?_, ?_, ?_, ?_, ?_, ?_⟩ <;> omega

theorem runsOf_fits (ha : OneSlot a) {run : Run} (h : run ∈ runsOf a.ringWord a.req.len) :
    RunFits a run := by
  obtain ⟨g, hlow, hhigh, rfl⟩ := (mem_runsOf_iff ha.nonempty).1 h
  obtain ⟨hs, hplace, hwithin, hcovered, hstarts, hends⟩ :=
    runAt_fits ha.nonempty ha.slot ha.ring hlow hhigh
  exact ⟨hs, hplace, hwithin, hcovered, hstarts, hends⟩

theorem runAt_covers {r n i : Nat} (hi : i < n) (hslot : (r + n - 1) / 80 = r / 80) :
    (r + i) / 10 % 8 = (r % 80 + i) / 10
    ∧ max r (10 * ((r + i) / 10)) - 10 * ((r + i) / 10) ≤ (r % 80 + i) % 10
    ∧ (r % 80 + i) % 10 < max r (10 * ((r + i) / 10)) - 10 * ((r + i) / 10)
      + (min (r + n) (10 * ((r + i) / 10) + 10) - max r (10 * ((r + i) / 10))) := by
  refine ⟨?_, ?_, ?_⟩ <;> omega

/-- Every word of the request lies in the run of its segment. -/
theorem runsOf_covers (ha : OneSlot a) {i : Nat} (hi : i < a.req.len) :
    ∃ run ∈ runsOf a.ringWord a.req.len, run.seg.val = (a.ringWord % 80 + i) / 10
      ∧ run.first ≤ (a.ringWord % 80 + i) % 10
      ∧ (a.ringWord % 80 + i) % 10 < run.first + run.len :=
  ⟨runAt a.ringWord a.req.len ((a.ringWord + i) / 10),
    (mem_runsOf_iff ha.nonempty).2 ⟨_, by omega, by omega, rfl⟩, runAt_covers hi ha.slot⟩

end

/-! ## The words of a piece (R51, R52, R53) -/

theorem enables_bits (b c : Bool) : ∀ h < 2,
    ((if b then 3#4 else 0#4) ||| (if c then 12#4 else 0#4)).getLsbD (2 * h) =
      (if h = 0 then b else c)
    ∧ ((if b then 3#4 else 0#4) ||| (if c then 12#4 else 0#4)).getLsbD (2 * h + 1) =
      (if h = 0 then b else c) := by
  revert b c
  decide

theorem pieceWord_en (lo hi : Option Half) {h : Nat} (hh : h < 2) :
    (pieceWord lo hi).en.getLsbD (2 * h) = (if h = 0 then lo else hi).isSome
    ∧ (pieceWord lo hi).en.getLsbD (2 * h + 1) = (if h = 0 then lo else hi).isSome := by
  rw [apply_ite Option.isSome]
  exact enables_bits lo.isSome hi.isSome h hh

theorem pieceWord_half (lo hi : Option Half) {h : Nat} (hh : h < 2) :
    wordHalf (pieceWord lo hi) h = (if h = 0 then lo else hi).getD 0#16 := by
  match h, hh with
  | 0, _ => exact Records.loHalf_wordOfHalves _ _
  | 1, _ => exact Records.hiHalf_wordOfHalves _ _

/-- The word whose halves f gives: a half is written exactly where f gives a pattern. -/
theorem pieceWord_sample (f : Nat → Option Half) {h : Nat} (hh : h < 2) :
    (pieceWord (f 0) (f 1)).en.getLsbD (2 * h) = (f h).isSome
    ∧ (pieceWord (f 0) (f 1)).en.getLsbD (2 * h + 1) = (f h).isSome
    ∧ wordHalf (pieceWord (f 0) (f 1)) h = (f h).getD 0#16 := by
  have hf : (if h = 0 then f 0 else f 1) = f h := by
    match h, hh with
    | 0, _ => rfl
    | 1, _ => rfl
  rw [(pieceWord_en _ _ hh).1, (pieceWord_en _ _ hh).2, pieceWord_half _ _ hh, hf]
  exact ⟨rfl, rfl, rfl⟩

theorem wordWrites_iff (w : WriteWord) (h : Nat) : wordWrites w h = true ↔
    w.en.getLsbD (2 * h) = true ∧ w.en.getLsbD (2 * h + 1) = true := Bool.and_eq_true_iff

section

variable {t : WriteTaken} {seg : Fin 8}

theorem stored_written {w : WriteWord} {h : Nat} (hw : wordWrites w h = true) (k : Nat) :
    t.stored seg k w h = some (scramble t.key t.frame t.ring (20 * seg.val + 2 * k + h)
      (convertOrder t.bigEndian (wordHalf w h))) := by
  unfold WriteTaken.stored wordSample
  rw [if_pos hw]
  rfl

theorem stored_unwritten {w : WriteWord} {h : Nat} (hw : ¬ wordWrites w h = true) (k : Nat) :
    t.stored seg k w h = none := by
  unfold WriteTaken.stored wordSample
  rw [if_neg hw]
  rfl

theorem plainWords_get (k : Nat) (ws : List WriteWord) (m : Nat) :
    (t.plainWords seg k ws)[m]? = ws[m]?.map fun w =>
      pieceWord (t.stored seg (k + m) w 0) (t.stored seg (k + m) w 1) := by
  induction ws generalizing k m with
  | nil => rfl
  | cons w ws ih =>
    cases m with
    | zero => rfl
    | succ m =>
      have hstep : k + 1 + m = k + (m + 1) := by omega
      rw [← hstep]
      exact ih (k + 1) m

theorem plainWords_length (k : Nat) (ws : List WriteWord) :
    (t.plainWords seg k ws).length = ws.length := by
  induction ws generalizing k with
  | nil => rfl
  | cons w ws ih => exact congrArg Nat.succ (ih (k + 1))

/-- The sample at half h of word k of a widened piece (R52). -/
def widenedSample (t : WriteTaken) (seg : Fin 8) (first : Nat) (ws : List WriteWord) (k h : Nat) :
    Half :=
  ((runWord first k ws).bind fun w => t.stored seg k w h).getD (t.storedComfort seg k h)

theorem widenedWord_eq (first : Nat) (ws : List WriteWord) (k : Nat) :
    t.widenedWord seg first ws k = pieceWord (some (widenedSample t seg first ws k 0))
      (some (widenedSample t seg first ws k 1)) := by
  unfold WriteTaken.widenedWord widenedSample
  cases runWord first k ws <;> rfl

theorem runWord_iff {first k : Nat} {ws : List WriteWord} {w : WriteWord} :
    runWord first k ws = some w ↔ first ≤ k ∧ ws[k - first]? = some w := by
  unfold runWord
  by_cases h : k < first
  · rw [if_pos h]
    simp [Nat.not_le.2 h]
  · rw [if_neg h]
    simp [Nat.not_lt.1 h]

/-- A run that writes its whole segment writes both samples of each of its words. -/
theorem wordWrites_of_writesWhole {ws : List WriteWord} (h : writesWhole ws = true)
    {w : WriteWord} (hw : w ∈ ws) {k : Nat} (hk : k < 2) : wordWrites w k = true := by
  have hall := List.all_eq_true.1 (Bool.and_eq_true_iff.1 h).2 w hw
  obtain ⟨h0, h1⟩ := Bool.and_eq_true_iff.1 hall
  match k, hk with
  | 0, _ => exact h0
  | 1, _ => exact h1

end

/-! ## Pieces in ascending address order (R35, R51) -/

theorem insertPiece_perm (p : Piece) (ps : List Piece) : (insertPiece p ps).Perm (p :: ps) := by
  induction ps with
  | nil => exact List.Perm.refl _
  | cons q qs ih =>
    unfold insertPiece
    split
    · exact List.Perm.refl _
    · exact (ih.cons q).trans (List.Perm.swap p q qs)

theorem insertPiece_sorted (p : Piece) {ps : List Piece}
    (h : ps.Pairwise fun x y => x.addr ≤ y.addr) :
    (insertPiece p ps).Pairwise fun x y => x.addr ≤ y.addr := by
  induction ps with
  | nil => exact List.pairwise_singleton _ _
  | cons q qs ih =>
    obtain ⟨hq, hqs⟩ := List.pairwise_cons.1 h
    unfold insertPiece
    split
    · next hle =>
      refine List.pairwise_cons.2 ⟨fun x hx => ?_, h⟩
      rcases List.mem_cons.1 hx with rfl | hx
      · exact hle
      · exact Nat.le_trans hle (hq x hx)
    · next hlt =>
      refine List.pairwise_cons.2 ⟨fun x hx => ?_, ih hqs⟩
      rcases List.mem_cons.1 ((insertPiece_perm p qs).mem_iff.1 hx) with rfl | hx
      · exact Nat.le_of_lt (Nat.not_le.1 hlt)
      · exact hq x hx

theorem sortPieces_perm (ps : List Piece) : (sortPieces ps).Perm ps := by
  induction ps with
  | nil => exact List.Perm.refl _
  | cons p ps ih => exact (insertPiece_perm p _).trans (ih.cons p)

theorem sortPieces_sorted (ps : List Piece) :
    (sortPieces ps).Pairwise fun p q => p.addr ≤ q.addr := by
  induction ps with
  | nil => exact List.Pairwise.nil
  | cons p ps ih => exact insertPiece_sorted p ih

end Sys2Proof.WritePieces

namespace Sys2Proof.WritePieces

open Sys2Proof Sys2Proof.Machine Sys2Proof.Laws

/-! ## The piece of one run (R51, R52, R53) -/

/-- The data words of a run. -/
def runWords (a : Accepted) (run : Run) : List WriteWord := (a.req.data.drop run.skip).take run.len

/-- The first word address of a run's physical segment (R45). -/
def segBase (a : Accepted) (t : WriteTaken) (run : Run) : Nat :=
  a.segmentWord run.slot (segPlace t.key t.frame t.ring run.seg.val)

/-- The piece of a run covers the whole segment: its fill bit is clear, and the run does not write
every sample (R52). -/
def Widened (a : Accepted) (fill : BitVec 8) (run : Run) : Prop :=
  fill.getLsbD run.seg.val = false ∧ writesWhole (runWords a run) = false

section

variable {a : Accepted} {t : WriteTaken} {fill : BitVec 8} {no : Nat} {run : Run}

theorem runWords_get {m : Nat} {w : WriteWord} : (runWords a run)[m]? = some w ↔
    m < run.len ∧ a.req.data[run.skip + m]? = some w := by
  unfold runWords
  rw [List.getElem?_take, List.getElem?_drop]
  split <;> simp [*]

theorem runWords_length (hfits : RunFits a run) (hdata : a.req.data.length = a.req.len) :
    (runWords a run).length = run.len := by
  unfold runWords
  rw [List.length_take, List.length_drop, hdata]
  exact Nat.min_eq_left (Nat.le_sub_of_add_le (by rw [Nat.add_comm]; exact hfits.covered))

theorem segBase_eq (hfits : RunFits a run) : segBase a t run =
    a.voiceWord + 320 * a.ring.val + 80 * (a.ringWord / 80)
      + 10 * segPlace t.key t.frame t.ring run.seg.val := by
  rw [← hfits.slot]
  rfl

theorem widened_iff : (!fill.getLsbD run.seg.val && !writesWhole (runWords a run)) = true ↔
    Widened a fill run := by
  rw [Bool.and_eq_true, Bool.not_eq_true', Bool.not_eq_true']
  exact Iff.rfl

theorem writePiece_widened (h : Widened a fill run) : a.writePiece t fill no run =
    { no := no, seg := run.seg, addr := segBase a t run, len := 10
      data := (List.range 10).map (t.widenedWord run.seg run.first (runWords a run))
      issued := false, done := none } := if_pos (widened_iff.2 h)

theorem writePiece_plain (h : ¬ Widened a fill run) : a.writePiece t fill no run =
    { no := no, seg := run.seg, addr := segBase a t run + run.first, len := run.len
      data := t.plainWords run.seg run.first (runWords a run)
      issued := false, done := none } := if_neg fun hw => h (widened_iff.1 hw)

theorem widened_get {m : Nat} {y : WriteWord}
    (h : ((List.range 10).map (t.widenedWord run.seg run.first (runWords a run)))[m]? = some y) :
    m < 10 ∧ y = t.widenedWord run.seg run.first (runWords a run) m := by
  obtain ⟨n, hn, rfl⟩ := Option.map_eq_some_iff.1 (List.getElem?_map ▸ h)
  obtain ⟨hm, rfl⟩ := List.getElem?_eq_some_iff.1 hn
  rw [List.length_range] at hm
  rw [List.getElem_range]
  exact ⟨hm, rfl⟩

/-- A piece is as long as its data, and not yet issued or answered. -/
theorem writePiece_fresh (hfits : RunFits a run) (hdata : a.req.data.length = a.req.len) :
    (a.writePiece t fill no run).seg = run.seg
    ∧ (a.writePiece t fill no run).data.length = (a.writePiece t fill no run).len
    ∧ (a.writePiece t fill no run).issued = false ∧ (a.writePiece t fill no run).done = none := by
  by_cases h : Widened a fill run
  · rw [writePiece_widened h]
    exact ⟨rfl, by simp, rfl, rfl⟩
  · rw [writePiece_plain h]
    exact ⟨rfl, (plainWords_length _ _).trans (runWords_length hfits hdata), rfl, rfl⟩

/-- A sample of word k of a run's segment that the request writes stands in the piece (R51, R53). -/
theorem writePiece_carries {k h : Nat} {x : WriteWord} (hlow : run.first ≤ k)
    (hhigh : k < run.first + run.len) (hwithin : run.first + run.len ≤ 10)
    (hx : a.req.data[run.skip + (k - run.first)]? = some x) (hh : h < 2)
    (hw : wordWrites x h = true) :
    ∃ m y, (a.writePiece t fill no run).data[m]? = some y
      ∧ (a.writePiece t fill no run).addr + m = segBase a t run + k
      ∧ y.en.getLsbD (2 * h) = true ∧ y.en.getLsbD (2 * h + 1) = true
      ∧ wordHalf y h = scramble t.key t.frame t.ring (20 * run.seg.val + 2 * k + h)
        (convertOrder t.bigEndian (wordHalf x h)) := by
  have hget : (runWords a run)[k - run.first]? = some x := runWords_get.2 ⟨by omega, hx⟩
  have hstored := stored_written (t := t) (seg := run.seg) hw k
  by_cases hwide : Widened a fill run
  · rw [writePiece_widened hwide]
    have hrun : runWord run.first k (runWords a run) = some x := runWord_iff.2 ⟨hlow, hget⟩
    obtain ⟨hen, hen', hhalf⟩ := pieceWord_sample
      (fun h => some (widenedSample t run.seg run.first (runWords a run) k h)) hh
    refine ⟨k, t.widenedWord run.seg run.first (runWords a run) k, ?_, rfl, ?_⟩
    · rw [List.getElem?_map, List.getElem?_range (by omega)]
      rfl
    · rw [widenedWord_eq]
      refine ⟨hen, hen', hhalf.trans ?_⟩
      unfold widenedSample
      rw [hrun, Option.bind_some, hstored]
      rfl
  · rw [writePiece_plain hwide]
    obtain ⟨hen, hen', hhalf⟩ := pieceWord_sample (fun h => t.stored run.seg k x h) hh
    rw [hstored] at hen hen' hhalf
    refine ⟨k - run.first, pieceWord (t.stored run.seg k x 0) (t.stored run.seg k x 1), ?_, ?_,
      hen, hen', hhalf⟩
    · rw [plainWords_get, hget, Nat.add_sub_cancel' hlow]
      rfl
    · show segBase a t run + run.first + (k - run.first) = _
      omega

/-- What a half of a piece word is: a sample that the request writes, a scrambled comfort sample of
a widened piece, or clear of enables where the fill bit is set (R51, R52). -/
theorem writePiece_words (hfits : RunFits a run) {m h : Nat} {y : WriteWord}
    (hy : (a.writePiece t fill no run).data[m]? = some y) (hh : h < 2) :
    ∃ k < 10, (a.writePiece t fill no run).addr + m = segBase a t run + k
      ∧ ((∃ x, run.first ≤ k ∧ a.req.data[run.skip + (k - run.first)]? = some x
          ∧ wordWrites x h = true)
        ∨ (fill.getLsbD run.seg.val = false ∧ (a.writePiece t fill no run).len = 10
          ∧ y.en.getLsbD (2 * h) = true ∧ y.en.getLsbD (2 * h + 1) = true
          ∧ wordHalf y h = t.storedComfort run.seg k h)
        ∨ (fill.getLsbD run.seg.val = true
          ∧ y.en.getLsbD (2 * h) = false ∧ y.en.getLsbD (2 * h + 1) = false)) := by
  by_cases hwide : Widened a fill run
  · rw [writePiece_widened hwide] at hy ⊢
    obtain ⟨hm, rfl⟩ := widened_get hy
    refine ⟨m, hm, rfl, ?_⟩
    by_cases hwritten : ∃ x, runWord run.first m (runWords a run) = some x ∧ wordWrites x h = true
    · obtain ⟨x, hx, hw⟩ := hwritten
      obtain ⟨hlow, hget⟩ := runWord_iff.1 hx
      exact .inl ⟨x, hlow, (runWords_get.1 hget).2, hw⟩
    · obtain ⟨hen, hen', hhalf⟩ := pieceWord_sample
        (fun h => some (widenedSample t run.seg run.first (runWords a run) m h)) hh
      rw [widenedWord_eq]
      refine .inr (.inl ⟨hwide.1, rfl, hen, hen', hhalf.trans ?_⟩)
      unfold widenedSample
      cases hx : runWord run.first m (runWords a run) with
      | none => rfl
      | some x =>
        rw [Option.bind_some, stored_unwritten fun hw => hwritten ⟨x, hx, hw⟩]
        rfl
  · rw [writePiece_plain hwide] at hy ⊢
    obtain ⟨x, hx, rfl⟩ := Option.map_eq_some_iff.1 (plainWords_get _ _ _ ▸ hy)
    obtain ⟨hm, hdata⟩ := runWords_get.1 hx
    have hwithin := hfits.within
    refine ⟨run.first + m, by omega, Nat.add_assoc _ _ _, ?_⟩
    by_cases hw : wordWrites x h = true
    · refine .inl ⟨x, Nat.le_add_right _ _, ?_, hw⟩
      rw [Nat.add_sub_cancel_left]
      exact hdata
    · obtain ⟨hen, hen', -⟩ := pieceWord_sample (fun h => t.stored run.seg (run.first + m) x h) hh
      rw [stored_unwritten hw] at hen hen'
      refine .inr (.inr ⟨?_, hen, hen'⟩)
      by_contra hfill
      refine hwide ⟨Bool.eq_false_iff.2 hfill, Bool.eq_false_iff.2 fun hwhole => hw ?_⟩
      exact wordWrites_of_writesWhole hwhole (List.mem_of_getElem? hx) hh

/-! ## The pieces of all runs -/

theorem exists_of_mem_writePieces {p : Piece} {no : Nat} {runs : List Run}
    (h : p ∈ a.writePieces t fill no runs) :
    ∃ no', ∃ run ∈ runs, p = a.writePiece t fill no' run := by
  induction runs generalizing no with
  | nil => cases h
  | cons run runs ih =>
    rcases List.mem_cons.1 h with rfl | h
    · exact ⟨no, run, List.mem_cons_self, rfl⟩
    · obtain ⟨no', run', hrun, hp⟩ := ih h
      exact ⟨no', run', List.mem_cons_of_mem _ hrun, hp⟩

theorem exists_mem_writePieces {no : Nat} {runs : List Run} (h : run ∈ runs) :
    ∃ no', a.writePiece t fill no' run ∈ a.writePieces t fill no runs := by
  induction runs generalizing no with
  | nil => cases h
  | cons run' runs ih =>
    rcases List.mem_cons.1 h with rfl | h
    · exact ⟨no, List.mem_cons_self⟩
    · obtain ⟨no', hp⟩ := ih (no := no + 1) h
      exact ⟨no', List.mem_cons_of_mem _ hp⟩

end

theorem ring_geometry {a : Accepted} (hoff : a.off < 81920) (hle : a.off ≤ a.req.addr.toNat) :
    a.ring.val = a.off / 320 ∧ a.ringWord = a.off % 320
    ∧ a.voiceWord + a.off = a.req.addr.toNat ∧ a.off = 320 * a.ring.val + a.ringWord := by
  have hring : a.ring.val = a.off / 320 % 256 := rfl
  have hword : a.ringWord = a.off % 320 := rfl
  exact ⟨by omega, hword, Nat.sub_add_cancel hle, by omega⟩

/-- Settles O13: each run's words stand in its piece, and a piece holds nothing else but comfort. -/
theorem writePiecesCarryTheSamples : Obligations.WritePiecesCarryTheSamples := by
  refine ⟨fun a t fill h1 hdata hring hslot hend => ?_, fun a => ring_geometry,
    fun w hw => Nat.mod_eq_of_lt (Nat.div_lt_of_lt_mul hw),
    fun ps => ⟨sortPieces_perm ps, sortPieces_sorted ps⟩⟩
  have hone := oneSlot_of h1 hslot hend
  refine ⟨fun i x h hx hh hlo hhi => ?_, fun p hp => ?_⟩
  · have hi : i < a.req.len := hdata ▸ (List.getElem?_eq_some_iff.1 hx).1
    obtain ⟨run, hrun, hseg, hfirst, hlast⟩ := runsOf_covers hone hi
    have hfits := runsOf_fits hone hrun
    have hplace := hfits.place
    have hindex : run.skip + ((a.ringWord % 80 + i) % 10 - run.first) = i := by omega
    obtain ⟨no, hmem⟩ := exists_mem_writePieces (a := a) (t := t) (fill := fill) (no := 0) hrun
    obtain ⟨m, y, hy, haddr, hen, hen', hhalf⟩ := writePiece_carries (t := t) (fill := fill)
      (no := no) hfirst hlast hfits.within (by rw [hindex]; exact hx) hh
      ((wordWrites_iff x h).2 ⟨hlo, hhi⟩)
    have hpos : 20 * run.seg.val + 2 * ((a.ringWord % 80 + i) % 10) + h =
        2 * (a.ringWord % 80 + i) + h := by omega
    refine ⟨_, hmem, m, y, hy, ?_, ?_, hen, hen', ?_⟩
    · rw [(writePiece_fresh hfits hdata).1, hseg]
    · rw [haddr, segBase_eq hfits, hseg]
    · rw [hhalf, hpos]
  · obtain ⟨no, run, hrun, rfl⟩ := exists_of_mem_writePieces hp
    have hfits := runsOf_fits hone hrun
    obtain ⟨hseg, hlen, hissued, hdone⟩ :=
      writePiece_fresh (t := t) (fill := fill) (no := no) hfits hdata
    rw [hseg]
    refine ⟨hlen, hissued, hdone, hfits.ends, hfits.starts, fun m y h hy hh => ?_⟩
    obtain ⟨k, hk, haddr, hcase⟩ := writePiece_words hfits hy hh
    refine ⟨k, hk, by rw [haddr, segBase_eq hfits], ?_⟩
    have hplace := hfits.place
    have hpos : 20 * run.seg.val + 2 * k + h = 2 * (10 * run.seg.val + k) + h := by omega
    rcases hcase with ⟨x, hlow, hx, hw⟩ | ⟨hfill, h10, hen, hen', hhalf⟩ | hclear
    · have hindex : 10 * run.seg.val + k - a.ringWord % 80 = run.skip + (k - run.first) := by omega
      obtain ⟨hlo, hhi⟩ := (wordWrites_iff x h).1 hw
      exact .inl ⟨x, by omega, by rw [hindex]; exact hx, hlo, hhi⟩
    · refine .inr (.inl ⟨hfill, h10, hen, hen', ?_⟩)
      rw [hhalf, ← hpos]
      rfl
    · exact .inr (.inr hclear)

end Sys2Proof.WritePieces

namespace Sys2Proof.Entering

open Sys2Proof Sys2Proof.Machine Sys2Proof.Laws

/-! ## The entry of a request into transform (R28, R47) -/

section

variable {s : State} {a : Accepted}

/-- The request that enters leaves its waiting place and takes its course. -/
theorem exec_entry (h : s.nextEntry = some a) (t : Instant) :
    exec (.transformEntry t) s = .next (((s.atInstant t).takeOut a).enter a).settle := by
  have h' : (s.atInstant t).nextEntry = some a := h
  show Host.Outcome.next (s.atInstant t).transformNext.settle = _
  unfold State.transformNext
  rw [h']

/-- A request whose arrival call has gone CLOSING since is refused (log 9). -/
theorem enter_closed (h : a.closedUnder = true) : s.enter a = s.refuse a .foreign := if_pos h

theorem enter_nonMember (hclosed : a.closedUnder = false) (hcall : s.memberCall a = none) :
    s.enter a = s.enterNonMember a := by
  unfold State.enter
  rw [hclosed, hcall]
  rfl

theorem enterNonMember_read (h : a.req.kind = .read) : s.enterNonMember a =
    s.addXform a .raw
      [{ no := 0, seg := 0, addr := a.req.addr.toNat, len := a.req.len, data := [],
         issued := false, done := none }] := by
  unfold State.enterNonMember
  rw [h]

theorem enterNonMember_write (h : a.req.kind = .write) :
    s.enterNonMember a = s.refuse a .foreign := by
  unfold State.enterNonMember
  rw [h]

end

/-- Settles O11: the entry of a request that is no member's, case by case of R48. -/
theorem nonMemberEntry : Obligations.NonMemberEntry := by
  intro s t a hnext
  have hcall : ((s.atInstant t).takeOut a).memberCall a = s.memberCall a := rfl
  rw [exec_entry hnext]
  refine ⟨fun hclosed => ?_, fun hclosed hnone hread => ?_, fun hclosed hnone hwrite => ?_⟩
  · rw [enter_closed hclosed]
  · rw [enter_nonMember hclosed (hcall.trans hnone), enterNonMember_read hread]
    rfl
  · rw [enter_nonMember hclosed (hcall.trans hnone), enterNonMember_write hwrite]

/-! ## A member's entry (R49, R50, R56 to R59) -/

section

variable {s : State} {a : Accepted} {c : CallNo} {l : LaneNo}

theorem enter_member_write (hclosed : a.closedUnder = false) (hcall : s.memberCall a = some c)
    (hlane : s.readyLane c = some l) (hkind : a.req.kind = .write) :
    s.enter a = s.enterWrite a c l := by
  unfold State.enter
  simp only [hclosed, hcall, hlane, hkind]
  rfl

theorem enter_member_read (hclosed : a.closedUnder = false) (hcall : s.memberCall a = some c)
    (hlane : s.readyLane c = some l) (hkind : a.req.kind = .read) :
    s.enter a = s.enterRead a c l := by
  unfold State.enter
  simp only [hclosed, hcall, hlane, hkind]
  rfl

/-- The ring of a member's request is OWNED by the writer exactly where its call gave it to the writer
(R49). -/
theorem ownedBy_iff (hcall : s.memberCall a = some c) :
    s.rings[a.ring].state.ownedBy a.req.ep = true ↔ s.rings[a.ring].state = .owned c a.req.ep := by
  obtain ⟨-, hring, -, -⟩ := (Holding.memberCall_iff s a c).1 hcall
  rcases hring with ⟨o, ho⟩ | hd
  · rw [ho]
    simp [RingState.ownedBy]
  · rw [hd]
    simp [RingState.ownedBy]

theorem takenSlot_iff (s : State) (l : LaneNo) (r : RingNo) (k : FrameSlotNo) (o : OpenSlot)
    (key : Key) : s.takenSlot l r k = some (o, key) ↔
      s.rings[r].slots[k] = some o ∧ s.lanes[l].keys.forTag o.tag = some key := by
  unfold State.takenSlot
  cases s.rings[r].slots[k] with
  | none => simp
  | some o' =>
    simp only [Option.map_eq_some_iff, Prod.mk.injEq, Option.some.injEq]
    constructor
    · rintro ⟨key', hkey, rfl, rfl⟩
      exact ⟨rfl, hkey⟩
    · rintro ⟨rfl, hkey⟩
      exact ⟨key, hkey, rfl, rfl⟩

/-- The key of a tag is the current key for the lane's epoch, the previous key for the one before
(R94). -/
theorem forTag_iff (k : LaneKeys) (tag : Half) (key : Key) : k.forTag tag = some key ↔
    k.epoch = some tag ∧ k.cur = some key ∨ k.epoch = some (tag + 1#16) ∧ k.prev = some key := by
  have hne : tag ≠ tag + 1#16 := by bv_omega
  unfold LaneKeys.forTag
  by_cases hcur : k.epoch = some tag
  · simp [hcur, hne]
  · simp [hcur]

/-! ### The checks of a member write in order (R49) -/

theorem checkWrite_foreign (h : ¬ s.rings[a.ring].state.ownedBy a.req.ep = true) :
    s.checkWrite a c l = .error .foreign := by
  unfold State.checkWrite
  exact if_pos (by simpa using h)

theorem checkWrite_shape (howned : s.rings[a.ring].state.ownedBy a.req.ep = true)
    (h : slotOfWord (a.ringWord + a.req.len - 1) ≠ slotOfWord a.ringWord) :
    s.checkWrite a c l = .error .shape := by
  unfold State.checkWrite
  rw [howned]
  exact if_pos h

/-- Past the first two checks the slot decides (R49, R50). -/
theorem checkWrite_slot (howned : s.rings[a.ring].state.ownedBy a.req.ep = true)
    (h : slotOfWord (a.ringWord + a.req.len - 1) = slotOfWord a.ringWord) :
    s.checkWrite a c l = match s.takenSlot l a.ring (slotOfWord a.ringWord) with
      | none => .error .window
      | some (o, key) =>
        if o.frame = s.calls[c].frame || o.frame = s.calls[c].frame - 1#32 then .ok (o, key)
        else .error .window := by
  unfold State.checkWrite
  rw [howned]
  exact if_neg (not_not.2 h)

theorem enterWrite_refused {v : Violation} (h : s.checkWrite a c l = .error v) :
    s.enterWrite a c l = (s.refuse a v).stampLane l := by
  unfold State.enterWrite
  rw [h]

/-- What a member write takes at its entry, besides its place (R50). -/
def writeTaken (s : State) (a : Accepted) (c : CallNo) (o : OpenSlot) (key : Key) : WriteTaken :=
  { bigEndian := s.endpoints[a.req.ep].bigEndian, frame := o.frame, key := key, ring := a.ring,
    level := s.calls[c].comfort }

theorem enterWrite_taken {o : OpenSlot} {key : Key} (h : s.checkWrite a c l = .ok (o, key)) :
    s.enterWrite a c l = (s.addXform a
      (.memberWrite { call := c, ring := a.ring, lane := l } (slotOfWord a.ringWord) o.frame)
      (a.writePieces (writeTaken s a c o key) o.fill 0 (runsOf a.ringWord a.req.len))).raiseCounts
        { call := c, ring := a.ring, lane := l } := by
  unfold State.enterWrite
  rw [h]
  rfl

/-- A slot of W or W − 1 whose key the lane holds is taken; no other is (R49, R50). -/
theorem checkWrite_window (howned : s.rings[a.ring].state.ownedBy a.req.ep = true)
    (hone : slotOfWord (a.ringWord + a.req.len - 1) = slotOfWord a.ringWord)
    (h : ∀ o, s.rings[a.ring].slots[slotOfWord a.ringWord] = some o →
      (s.lanes[l].keys.forTag o.tag).isSome = true →
        o.frame ≠ s.calls[c].frame ∧ o.frame ≠ s.calls[c].frame - 1#32) :
    s.checkWrite a c l = .error .window := by
  rw [checkWrite_slot howned hone]
  cases htaken : s.takenSlot l a.ring (slotOfWord a.ringWord) with
  | none => rfl
  | some taken =>
    obtain ⟨o, key⟩ := taken
    obtain ⟨hslot, hkey⟩ := (takenSlot_iff s l a.ring _ o key).1 htaken
    obtain ⟨hw, hw'⟩ := h o hslot (hkey ▸ rfl)
    exact if_neg (by simpa using And.intro hw hw')

theorem checkWrite_ok (howned : s.rings[a.ring].state.ownedBy a.req.ep = true)
    (hone : slotOfWord (a.ringWord + a.req.len - 1) = slotOfWord a.ringWord) {o : OpenSlot}
    {key : Key} (htaken : s.takenSlot l a.ring (slotOfWord a.ringWord) = some (o, key))
    (hframe : o.frame = s.calls[c].frame ∨ o.frame = s.calls[c].frame - 1#32) :
    s.checkWrite a c l = .ok (o, key) := by
  rw [checkWrite_slot howned hone, htaken]
  exact if_pos (by simpa using hframe)

end

/-- Settles O12: the checks of R49 in their order, and what a write that passes them takes. -/
theorem memberWriteEntry : Obligations.MemberWriteEntry := by
  refine ⟨fun s t a c l hnext hclosed hcall hlane hwrite => ?_, forTag_iff⟩
  have hcall' : ((s.atInstant t).takeOut a).memberCall a = some c := hcall
  rw [exec_entry hnext, enter_member_write hclosed hcall' hlane hwrite]
  have howned := ownedBy_iff hcall'
  refine ⟨fun hring => ?_, fun hring hshape => ?_, fun hring hone hwindow => ?_,
    fun o key hring hone hslot hkey hframe => ?_⟩
  · rw [enterWrite_refused (checkWrite_foreign (mt howned.1 hring))]
  · rw [enterWrite_refused (checkWrite_shape (howned.2 hring) hshape)]
  · rw [enterWrite_refused (checkWrite_window (howned.2 hring) hone hwindow)]
  · have htaken := (takenSlot_iff ((s.atInstant t).takeOut a) l a.ring _ o key).2 ⟨hslot, hkey⟩
    rw [enterWrite_taken (checkWrite_ok (howned.2 hring) hone htaken hframe)]
    rfl

/-! ## A member read's entry (R56 to R59) -/

section

variable {s : State} {a : Accepted} {c : CallNo} {l : LaneNo} {ss : List SampleSource}

theorem enterRead_answered
    (h : s.readRuns a l s.calls[c].comfort 0 (runsOf a.ringWord a.req.len) = (ss, [])) :
    s.enterRead a c l =
      (s.respond a.id (.ok (packSamples s.endpoints[a.req.ep].bigEndian ss))).stampLane l := by
  unfold State.enterRead
  rw [h]

theorem enterRead_placed {ps : List Piece} (hps : ps ≠ [])
    (h : s.readRuns a l s.calls[c].comfort 0 (runsOf a.ringWord a.req.len) = (ss, ps)) :
    s.enterRead a c l = (s.addXform a (.memberRead { call := c, ring := a.ring, lane := l }
      s.endpoints[a.req.ep].bigEndian ss) ps).raiseCounts
        { call := c, ring := a.ring, lane := l } := by
  obtain ⟨p, ps, rfl⟩ := List.exists_cons_of_ne_nil hps
  unfold State.enterRead
  rw [h]

/-- The samples of a read depend on no instant, and on no request that waits. -/
theorem readRuns_takeOut (t : Instant) (level : Fin 8) (no : Nat) (runs : List Run) :
    ((s.atInstant t).takeOut a).readRuns a l level no runs = s.readRuns a l level no runs := by
  induction runs generalizing no with
  | nil => rfl
  | cons run runs ih =>
    unfold State.readRuns
    rw [ih no, ih (no + 1)]
    rfl

end

/-- Settles O14: a read with no piece is answered at its entry, any other takes a place. -/
theorem memberReadEntry : Obligations.MemberReadEntry := by
  intro s t a c l ss ps hnext hclosed hcall hlane hread hruns
  have hcall' : ((s.atInstant t).takeOut a).memberCall a = some c := hcall
  have hruns' := (readRuns_takeOut t s.calls[c].comfort 0 (runsOf a.ringWord a.req.len)).trans hruns
  rw [exec_entry hnext, enter_member_read hclosed hcall' hlane hread]
  refine ⟨fun hps => ?_, fun hps => ?_⟩
  · subst hps
    rw [enterRead_answered hruns']
    rfl
  · rw [enterRead_placed hps hruns']
    rfl

end Sys2Proof.Entering

namespace Sys2Proof.Reads

open Sys2Proof Sys2Proof.Machine Sys2Proof.Laws

/-! ## The runs of a request, one after another (R45, R57) -/

/-- The runs cover the request's words from word k up to word e, in order and without a gap. -/
def Covers : Nat → List Run → Nat → Prop
  | k, [], e => k = e
  | k, run :: runs, e => run.skip = k ∧ Covers (k + run.len) runs e

/-- Segment g of the ring begins after the words of the request that lie before it. -/
theorem runAt_follows {r len g : Nat} (hlow : r / 10 ≤ g) (hhigh : g < (r + len - 1) / 10 + 1)
    (h1 : 1 ≤ len) :
    max r (10 * g) - r = min (max r (10 * g)) (r + len) - r
    ∧ min (max r (10 * g)) (r + len) - r + (min (r + len) (10 * g + 10) - max r (10 * g)) =
      min (max r (10 * (g + 1))) (r + len) - r := by
  constructor <;> omega

theorem runs_cover {r len : Nat} (h1 : 1 ≤ len) (n g : Nat) (hlow : r / 10 ≤ g)
    (hend : g + n = (r + len - 1) / 10 + 1) :
    Covers (min (max r (10 * g)) (r + len) - r) ((List.range n).map fun k => runAt r len (g + k))
      len := by
  induction n generalizing g with
  | zero =>
    show _ = len
    omega
  | succ n ih =>
    obtain ⟨hskip, hnext⟩ := runAt_follows hlow (by omega) h1
    have hrest := ih (g + 1) (by omega) (by omega)
    rw [List.range_succ_eq_map, List.map_cons, List.map_map]
    refine ⟨hskip, ?_⟩
    rw [show (runAt r len (g + 0)).len = min (r + len) (10 * g + 10) - max r (10 * g) from rfl, hnext]
    simpa only [Function.comp_def, Nat.succ_eq_add_one, Nat.add_assoc, Nat.add_comm 1] using hrest

theorem runsOf_cover {r len : Nat} (h1 : 1 ≤ len) : Covers 0 (runsOf r len) len := by
  have h := runs_cover h1 ((r + len - 1) / 10 + 1 - r / 10) (r / 10) (Nat.le_refl _) (by omega)
  rwa [show min (max r (10 * (r / 10))) (r + len) - r = 0 by omega] at h

/-! ## The samples and the piece of one run (R56, R57) -/

section

variable {s : State} {a : Accepted} {l : LaneNo} {level : Fin 8}

/-- Sample i of a run, whose piece has number no where it has one (R56, R57). -/
def runSample (s : State) (a : Accepted) (l : LaneNo) (level : Fin 8) (no : Nat) (run : Run)
    (i : Nat) : SampleSource :=
  match s.takenSlot l a.ring run.slot with
  | none => .value 0#16
  | some (o, key) =>
    let j := 20 * run.seg.val + 2 * run.first + i
    if s.timer.blanking || !o.fill.getLsbD run.seg.val then
      .value (comfortSample key o.frame j level)
    else .stored no i (sampleOut key o.frame a.ring j)

/-- The piece of a run that goes to memory (R57). -/
def runPiece (a : Accepted) (o : OpenSlot) (key : Key) (no : Nat) (run : Run) : Piece :=
  { no := no, seg := run.seg,
    addr := a.segmentWord run.slot (segPlace key o.frame a.ring run.seg.val) + run.first,
    len := run.len, data := [], issued := false, done := none }

variable {run : Run} {o : OpenSlot} {key : Key}

theorem runSample_silent (h : s.takenSlot l a.ring run.slot = none) (no : Nat) :
    runSample s a l level no run = fun _ => .value 0#16 := by
  funext i
  unfold runSample
  rw [h]

theorem runSample_comfort (h : s.takenSlot l a.ring run.slot = some (o, key))
    (hcomfort : (s.timer.blanking || !o.fill.getLsbD run.seg.val) = true) (no : Nat) :
    runSample s a l level no run = fun i =>
      .value (comfortSample key o.frame (20 * run.seg.val + 2 * run.first + i) level) := by
  funext i
  unfold runSample
  rw [h]
  exact if_pos hcomfort

theorem runSample_stored (h : s.takenSlot l a.ring run.slot = some (o, key))
    (hstored : ¬ (s.timer.blanking || !o.fill.getLsbD run.seg.val) = true) (no : Nat) :
    runSample s a l level no run = fun i =>
      .stored no i (sampleOut key o.frame a.ring (20 * run.seg.val + 2 * run.first + i)) := by
  funext i
  unfold runSample
  rw [h]
  exact if_neg hstored

/-- The first run gives its samples, and a piece where it goes to memory; the others follow. -/
theorem readRuns_cons (no : Nat) (run : Run) (runs : List Run) :
    ∃ no' ps, s.readRuns a l level no (run :: runs) =
      ((List.range (2 * run.len)).map (runSample s a l level no run)
        ++ (s.readRuns a l level no' runs).1, ps ++ (s.readRuns a l level no' runs).2)
      ∧ ∀ o key, s.takenSlot l a.ring run.slot = some (o, key) →
        ¬ (s.timer.blanking || !o.fill.getLsbD run.seg.val) = true →
        runPiece a o key no run ∈ ps := by
  cases htaken : s.takenSlot l a.ring run.slot with
  | none =>
    rw [State.readRuns, htaken, runSample_silent htaken]
    exact ⟨no, [], rfl, nofun⟩
  | some taken =>
    obtain ⟨o, key⟩ := taken
    rw [State.readRuns, htaken]
    by_cases hcomfort : (s.timer.blanking || !o.fill.getLsbD run.seg.val) = true
    · rw [runSample_comfort htaken hcomfort]
      refine ⟨no, [], if_pos hcomfort, fun o' key' h hstored => ?_⟩
      cases h
      exact absurd hcomfort hstored
    · rw [runSample_stored htaken hcomfort]
      refine ⟨no + 1, [runPiece a o key no run], if_neg hcomfort, fun o' key' h _ => ?_⟩
      cases h
      exact List.mem_singleton_self _

/-- Every sample of every run stands at its place in the request, and the runs that go to memory have
their pieces. -/
theorem readRuns_get {runs : List Run} {k e no : Nat} (hcover : Covers k runs e) :
    k ≤ e ∧ (s.readRuns a l level no runs).1.length = 2 * (e - k)
    ∧ ∀ run ∈ runs, k ≤ run.skip ∧ ∃ no',
      (∀ i < 2 * run.len, (s.readRuns a l level no runs).1[2 * (run.skip - k) + i]? =
        some (runSample s a l level no' run i))
      ∧ ∀ o key, s.takenSlot l a.ring run.slot = some (o, key) →
        ¬ (s.timer.blanking || !o.fill.getLsbD run.seg.val) = true →
        runPiece a o key no' run ∈ (s.readRuns a l level no runs).2 := by
  induction runs generalizing k no with
  | nil =>
    obtain rfl : k = e := hcover
    exact ⟨Nat.le_refl _, by simp [State.readRuns], nofun⟩
  | cons first runs ih =>
    obtain ⟨rfl, hrest⟩ := hcover
    obtain ⟨no', ps, heq, hpiece⟩ := readRuns_cons (s := s) (a := a) (l := l) (level := level) no
      first runs
    obtain ⟨hle, hlen, hget⟩ := ih (no := no') hrest
    have hown : ((List.range (2 * first.len)).map (runSample s a l level no first)).length =
        2 * first.len := by simp
    rw [heq]
    refine ⟨by omega, ?_, fun run hrun => ?_⟩
    · rw [List.length_append, hown, hlen]
      omega
    · rcases List.mem_cons.1 hrun with rfl | hrun
      · refine ⟨Nat.le_refl _, no, fun i hi => ?_, fun o key htaken hstored =>
          List.mem_append_left _ (hpiece o key htaken hstored)⟩
        rw [Nat.sub_self, Nat.mul_zero, Nat.zero_add, List.getElem?_append_left (by omega)]
        simp [hi]
      · obtain ⟨hskip, n, hsamples, hmem⟩ := hget run hrun
        refine ⟨by omega, n, fun i hi => ?_, fun o key htaken hstored =>
          List.mem_append_right _ (hmem o key htaken hstored)⟩
        rw [List.getElem?_append_right (by omega), hown,
          show 2 * (run.skip - first.skip) + i - 2 * first.len =
            2 * (run.skip - (first.skip + first.len)) + i by omega]
        exact hsamples i hi

/-- Sample m of a run is sample h of word w of the ring. -/
structure SampleAt (run : Run) (m w h : Nat) : Prop where
  slot : run.slot = slotOfWord w
  seg : run.seg.val = w % 80 / 10 % 8
  place : 20 * run.seg.val + 2 * run.first + m = 2 * (w % 80) + h
  word : run.first + m / 2 = w % 10
  covered : m / 2 < run.len
  half : m % 2 = h

/-- Word i of the request lies in the run of its segment. -/
theorem runAt_word {r len i h : Nat} (hi : i < len) (hh : h < 2) :
    let run := runAt r len ((r + i) / 10)
    run.skip ≤ i ∧ SampleAt run (2 * (i - run.skip) + h) (r + i) h := by
  intro run
  have hfirst : run.first = max r (10 * ((r + i) / 10)) - 10 * ((r + i) / 10) := rfl
  have hlen : run.len =
      min (r + len) (10 * ((r + i) / 10) + 10) - max r (10 * ((r + i) / 10)) := rfl
  have hskip : run.skip = max r (10 * ((r + i) / 10)) - r := rfl
  have hseg : run.seg.val = (r + i) / 10 % 8 := rfl
  have hslot : run.slot.val = (r + i) / 10 / 8 % 4 := rfl
  exact ⟨by omega, Fin.ext (hslot.trans (by show _ = (r + i) / 80 % 4; omega)), by omega, by omega,
    by omega, by omega, by omega⟩

/-- Sample h of word i of a read stands in the run of its segment, whose piece goes to memory where
the slot is taken and the segment written (R56, R57). -/
theorem readRuns_word {ss : List SampleSource} {ps : List Piece} {i h : Nat}
    (hruns : s.readRuns a l level 0 (runsOf a.ringWord a.req.len) = (ss, ps))
    (hi : i < a.req.len) (hh : h < 2) : ∃ run no m, SampleAt run m (a.ringWord + i) h
      ∧ ss[2 * i + h]? = some (runSample s a l level no run m)
      ∧ ∀ o key, s.takenSlot l a.ring run.slot = some (o, key) →
        ¬ (s.timer.blanking || !o.fill.getLsbD run.seg.val) = true →
        runPiece a o key no run ∈ ps := by
  have h1 : 1 ≤ a.req.len := by omega
  obtain ⟨-, -, hget⟩ := readRuns_get (s := s) (a := a) (l := l) (level := level) (no := 0)
    (runsOf_cover (r := a.ringWord) h1)
  rw [hruns] at hget
  obtain ⟨hskip, hat⟩ := runAt_word (r := a.ringWord) hi hh
  obtain ⟨-, no, hsamples, hpieces⟩ := hget _
    ((WritePieces.mem_runsOf_iff h1).2 ⟨(a.ringWord + i) / 10, by omega, by omega, rfl⟩)
  generalize runAt a.ringWord a.req.len ((a.ringWord + i) / 10) = run at *
  have hcovered := hat.covered
  have hsample := hsamples (2 * (i - run.skip) + h) (by omega)
  rw [show 2 * (run.skip - 0) + (2 * (i - run.skip) + h) = 2 * i + h by omega] at hsample
  exact ⟨run, no, _, hat, hsample, hpieces⟩

end

/-- Settles O15: word i lies in the run of its segment, whose samples and piece `readRuns_word`
gives. -/
theorem readSamplesComeFromTheirPlaces : Obligations.ReadSamplesComeFromTheirPlaces := by
  refine ⟨fun s a l level ss ps h1 hring hruns => ⟨?_, fun i h hi hh => ?_⟩, fun a hoff hle => ?_,
    Entering.takenSlot_iff⟩
  · obtain ⟨-, hlen, -⟩ := readRuns_get (s := s) (a := a) (l := l) (level := level) (no := 0)
      (runsOf_cover (r := a.ringWord) h1)
    rwa [hruns] at hlen
  · obtain ⟨run, no, m, hat, hsample, hpieces⟩ := readRuns_word hruns hi hh
    refine ⟨fun hnone => ?_, fun o key htaken => ⟨fun hcomfort => ?_, fun hblank hfill => ?_⟩⟩
    · rw [hsample, runSample_silent (hat.slot ▸ hnone)]
    · have hvalue : (s.timer.blanking || !o.fill.getLsbD run.seg.val) = true := by
        rw [hat.seg]
        rcases hcomfort with h | h <;> simp [h]
      rw [hsample, ← hat.place, runSample_comfort (hat.slot ▸ htaken) hvalue]
    · have hstored : ¬ (s.timer.blanking || !o.fill.getLsbD run.seg.val) = true := by
        rw [hat.seg]
        simp [hblank, hfill]
      have htaken' : s.takenSlot l a.ring run.slot = some (o, key) := hat.slot ▸ htaken
      refine ⟨runPiece a o key no run, hpieces o key htaken' hstored, m, ?_, rfl, hat.covered,
        hat.half, ?_⟩
      · rw [hsample, ← hat.place, runSample_stored htaken' hstored]
        rfl
      · have hword := hat.word
        simp only [runPiece, Accepted.segmentWord, hat.slot, hat.seg]
        omega
  · obtain ⟨hring, hword, hbase, -⟩ := WritePieces.ring_geometry hoff hle
    exact ⟨hring, hword, hbase, fun i => by rw [hword]; rfl⟩

end Sys2Proof.Reads

namespace Sys2Proof.WriteEnds

open Sys2Proof Sys2Proof.Machine Sys2Proof.Laws Sys2Proof.Pieces

/-! ## The last piece of a member write (R43, R54, R55, R59, R95) -/

section

variable {s : State} {tk : Ticket} {k : FrameSlotNo} {f : Word}

theorem leaveTransform_memberWrite (s : State) (x : Xform) (r : Response)
    (h : x.course = .memberWrite tk k f) : s.leaveTransform x r = { s with
      port := leftPort s x r
      rings := s.rings.set tk.ring (leftRing s.rings[tk.ring])
      lanes := s.lanes.set tk.lane (leftLane s.lanes[tk.lane] s.now) } := by
  unfold State.leaveTransform
  rw [h]
  have hleft := leaveCounts_eq (s.setPort { s.port with
    xforms := s.port.xforms.filter fun y => y.acc.id ≠ x.acc.id }) tk
  exact congrArg (fun u => State.respond u x.acc.id r) hleft

/-- The slots of a ring after a write piece is answered OK: the fill bit of its segment is set where the
ring is OWNED by the write's call and the slot still holds the opening the piece was cut for (R54). -/
structure Filled (tk : Ticket) (k : FrameSlotNo) (f : Word) (seg : Fin 8) (x : Ring)
    (slots : Vector (Option OpenSlot) 4) : Prop where
  sets : ∀ o owner, x.state = .owned tk.call owner → x.slots[k] = some o → o.frame = f →
    slots = x.slots.set k (some { o with fill := o.fill ||| (1#8 <<< seg.val) })
  kept : (∀ owner, x.state ≠ .owned tk.call owner) ∨ (∀ o, x.slots[k] = some o → o.frame ≠ f) →
    slots = x.slots

theorem setRing_self (s : State) (r : RingNo) : s.setRing r s.rings[r] = s := by
  simp [State.setRing]

theorem setFill_eq (s : State) (tk : Ticket) (k : FrameSlotNo) (f : Word) (seg : Fin 8) :
    ∃ slots, Filled tk k f seg s.rings[tk.ring] slots
      ∧ s.setFill tk k f seg = s.setRing tk.ring { s.rings[tk.ring] with slots := slots } := by
  by_cases h : ∃ o owner, s.rings[tk.ring].state = .owned tk.call owner
      ∧ s.rings[tk.ring].slots[k] = some o ∧ o.frame = f
  · obtain ⟨o, owner, hring, hslot, rfl⟩ := h
    refine ⟨_, ⟨fun o' owner' _ hslot' _ => ?_, fun hkept => ?_⟩, setFill_set hring hslot seg⟩
    · rw [hslot] at hslot'
      cases hslot'
      rfl
    · rcases hkept with hkept | hkept
      · exact absurd hring (hkept owner)
      · exact absurd rfl (hkept o hslot)
  · have hkept : (∀ owner, s.rings[tk.ring].state ≠ .owned tk.call owner)
        ∨ ∀ o, s.rings[tk.ring].slots[k] = some o → o.frame ≠ f := by
      by_contra hnot
      simp only [not_or, not_forall, not_not] at hnot
      obtain ⟨⟨owner, hring⟩, o, hslot, hframe⟩ := hnot
      exact h ⟨o, owner, hring, hslot, hframe⟩
    refine ⟨s.rings[tk.ring].slots, ⟨fun o owner hring hslot hframe =>
      absurd ⟨o, owner, hring, hslot, hframe⟩ h, fun _ => rfl⟩,
      (setFill_kept hkept seg).trans (setRing_self s tk.ring).symm⟩

/-- The ring of a write that ends, whose last answer left it with the slots given (R43). -/
theorem leftRing_slots {x : Ring} {slots : Vector (Option OpenSlot) 4}
    (h : ¬ ((∃ c, x.state = .draining c) ∧ x.count ≤ 1)) :
    leftRing { x with slots := slots } = { x with count := x.count - 1, slots := slots } :=
  if_neg h

theorem leftRing_slots_drained {x : Ring} {slots : Vector (Option OpenSlot) 4}
    (h : (∃ c, x.state = .draining c) ∧ x.count ≤ 1) : leftRing { x with slots := slots } =
      { state := .free, count := 0, slots := Vector.replicate 4 none } :=
  if_pos h

/-- What becomes of a ring at the last answer OK to a piece of a write (R43, R54, R59). -/
structure WriteEnded (tk : Ticket) (k : FrameSlotNo) (f : Word) (seg : Fin 8) (x y : Ring) : Prop where
  drained : (∃ c, x.state = .draining c) ∧ x.count ≤ 1 →
    y = { state := .free, count := 0, slots := Vector.replicate 4 none }
  stays : ¬ ((∃ c, x.state = .draining c) ∧ x.count ≤ 1) →
    y.state = x.state ∧ y.count = x.count - 1
  sets : ∀ o owner, x.state = .owned tk.call owner → x.slots[k] = some o → o.frame = f →
    y.slots = x.slots.set k (some { o with fill := o.fill ||| (1#8 <<< seg.val) })
  kept : ¬ ((∃ c, x.state = .draining c) ∧ x.count ≤ 1) →
    (∀ owner, x.state ≠ .owned tk.call owner) ∨ (∀ o, x.slots[k] = some o → o.frame ≠ f) →
    y.slots = x.slots

theorem writeEnded_of_filled {seg : Fin 8} {x : Ring} {slots : Vector (Option OpenSlot) 4}
    (h : Filled tk k f seg x slots) :
    WriteEnded tk k f seg x (leftRing { x with slots := slots }) where
  drained := leftRing_slots_drained
  stays hstays := by
    rw [leftRing_slots hstays]
    exact ⟨rfl, rfl⟩
  sets o owner hring hslot hframe := by
    have howned : ¬ ((∃ c, x.state = .draining c) ∧ x.count ≤ 1) := by
      rw [hring]
      rintro ⟨⟨c, hc⟩, -⟩
      cases hc
    rw [leftRing_slots howned]
    exact h.sets o owner hring hslot hframe
  kept hstays hkept := by
    rw [leftRing_slots hstays]
    exact h.kept hkept

/-- A write leaves its ring as its last answer has set it. -/
theorem leftRing_twice (s : State) (r : RingNo) (y : Ring) :
    (s.setRing r y).rings.set r (leftRing (s.setRing r y).rings[r]) =
      s.rings.set r (leftRing y) := by
  rw [setRing_get_self, setRing_rings, Vector.set_set]

variable {i id no : Nat} {r : DsRequest} {x : Xform}

/-- The last answer to a write's pieces ends it, after it has set its fill bit (R54, R55). -/
theorem exec_writeEnds (h : s.port.awaiting[i]? = some { req := r, src := .piece id no })
    (hx : s.port.xforms.find? (fun y => y.acc.id = id) = some x)
    (hlast : ∀ q ∈ x.pieces, q.no ≠ no → q.done.isSome = true)
    (t : Instant) {a : Answer} (ha : ToPiece a) (hfits : r.fits a = true) {u : State}
    (hu : (s.afterAnswer t i).fillByAnswer x no a = u)
    (hcourse : (x.answered no a).course = .memberWrite tk k f) : exec (.memoryAnswer t i a) s =
      .next (State.settle { u with
        port := leftPort u (x.answered no a) ((x.answered no a).response (answerData a))
        rings := u.rings.set tk.ring (leftRing u.rings[tk.ring])
        lanes := u.lanes.set tk.lane (leftLane u.lanes[tk.lane] u.now) }) := by
  rw [exec_pieceAnswer h t hfits, pieceAnswer_ends (s := s.afterAnswer t i) hx hlast ha, hu,
    leaveTransform_memberWrite _ _ _ hcourse]

/-- The last answer OK to a write's pieces (R54, R55). -/
theorem exec_writeEnds_ok (h : s.port.awaiting[i]? = some { req := r, src := .piece x.acc.id no })
    (hkind : r.kind = .write)
    (hx : s.port.xforms.find? (fun y => y.acc.id = x.acc.id) = some x) {p : Piece}
    (hp : x.pieces.find? (fun p => p.no = no) = some p) (hcourse : x.course = .memberWrite tk k f)
    (hlast : ∀ q ∈ x.pieces, q.no ≠ no → q.done.isSome = true) (t : Instant) :
    ∃ y, WriteEnded tk k f p.seg s.rings[tk.ring] y
      ∧ exec (.memoryAnswer t i (.ok [])) s = .next (State.settle { s with
        now := max s.now t
        port := { s.port with
          awaiting := dropAt i s.port.awaiting
          responses := decideResponse x.acc.id
            (if ∃ q ∈ x.pieces, q.no ≠ no ∧ q.done = some false then .fault else .ok [])
            s.port.responses
          xforms := s.port.xforms.filter fun y => y.acc.id ≠ x.acc.id }
        rings := s.rings.set tk.ring y
        lanes := s.lanes.set tk.lane (leftLane s.lanes[tk.lane] (max s.now t)) }) := by
  have hok : (x.answered no (.ok [])).course = .memberWrite tk k f := by
    rw [answered_memberWrite hcourse, hcourse]
  obtain ⟨slots, hfilled, hset⟩ := setFill_eq (s.afterAnswer t i) tk k f p.seg
  have hexec := exec_writeEnds h hx hlast t (.inl ⟨[], rfl⟩)
    (Answers.fits_ok_of_write (by rw [hkind]; rfl))
    ((fillByAnswer_write hcourse hp (s.afterAnswer t i) []).trans hset) hok
  rw [leftRing_twice, show answerData (.ok []) = [] from rfl, response_eq (by rw [hok])] at hexec
  exact ⟨_, writeEnded_of_filled hfilled, hexec⟩

end

/-- Settles O16: the last answer sets its fill bit, and the write leaves its place. -/
theorem lastWritePieceAnswered : Obligations.LastWritePieceAnswered := by
  intro s t i id no r x p tk k f hat hkind hx hp hcourse hlast drained lanes freed
  obtain rfl := acc_id_of_find hx
  refine ⟨?_, ?_⟩
  · obtain ⟨y, hy, hexec⟩ := exec_writeEnds_ok hat hkind hx hp hcourse hlast t
    have hself : (s.rings.set tk.ring y)[tk.ring] = y := setRing_get_self s tk.ring y
    refine ⟨_, hexec, rfl, rfl, rfl, fun h => ?_, fun h => ?_, fun o owner hring hslot hframe => ?_,
      fun h hkept => ?_, fun r' hne => setRing_get_ne s y hne, rfl⟩
    · exact hself.trans (hy.drained h)
    · rw [hself]
      exact hy.stays h
    · rw [hself]
      exact hy.sets o owner hring hslot hframe
    · rw [hself]
      exact hy.kept h hkept
  · have hfault : (x.answered no .fault).course = .memberWrite tk k f := hcourse
    rw [exec_writeEnds hat hx hlast t (.inr rfl) rfl (fillByAnswer_fault _ _ _) hfault,
      show answerData .fault = [] from rfl,
      response_of_fault ⟨p, List.mem_of_find?_eq_some hp, by simpa using List.find?_some hp⟩]
    rfl

end Sys2Proof.WriteEnds

namespace Sys2Proof.CloseOrders

open Sys2Proof Sys2Proof.Machine Sys2Proof.Laws Sys2Proof.Restart

/-! ## CLOSE-CALL at its execution (R110) -/

section

variable {s : State} {c : CallNo} {q : Half}

theorem callOf_of_toNat {n : Half} (h : n.toNat = c.val) : callOf n = some c := by
  unfold callOf
  rw [dif_pos (by omega)]
  exact congrArg some (Fin.ext h)

/-- The return of a fetch with CLOSE-CALL carries the order out (R166). -/
theorem exec_closeCall {i : Nat} (h : s.FetchAt i q) (t : Instant) {call : Half}
    (hcall : call.toNat = c.val) :
    exec (.closeCall t call) s = .next ((s.afterFetch t i).doCloseCall q c).settle := by
  show Host.Outcome.next ((s.atInstant t).returnOrder (.closeCall call)).settle = _
  rw [returnOrder_of_fetchAt h, State.execute, callOf_of_toNat hcall]

theorem doCloseCall_noCall (h : s.calls[c].state ≠ .opened) :
    s.doCloseCall q c = s.finish (orderCompletion q .noCall (callSubject c) []) := if_pos h

/-- An OPEN call goes CLOSING with its completion stored, and loses its waiting request (R110). -/
theorem doCloseCall_open (h : s.calls[c].state = .opened) : s.doCloseCall q c = { s with
    calls := s.calls.set c { s.calls[c] with state := .closing, closeSeq := some q }
    waiting := s.waiting.filter fun r => r.subject ≠ .call c
    engine := { s.engine with inExec := none }
    port := { s.port with
      arrival := s.port.arrival.map (Accepted.close c)
      hold := s.port.hold.map (Accepted.close c) } } := by
  unfold State.doCloseCall
  rw [if_neg (not_not.2 h)]
  unfold State.goClosing
  rw [setCall_get_self, setCall_setCall]
  rfl

/-- A fetch that returns changes no request that waits to be granted. -/
theorem afterFetch_port (s : State) (t : Instant) (i : Nat) :
    (s.afterFetch t i).port.arrival = s.port.arrival ∧ (s.afterFetch t i).port.hold = s.port.hold := by
  obtain ⟨g, y, q, w, h⟩ := afterFetch_only s t i
  rw [h]
  exact ⟨rfl, rfl⟩

end

/-! ## The end of a close (R111) -/

section

variable {s : State} {c : CallNo}

theorem closeCompletions_eq (x : Call) (c : CallNo) : x.closeCompletions c =
    x.switches.map (fun w => orderCompletion w.seq .noCall (callSubject c) [])
      ++ x.closeSeq.toList.map fun q => orderCompletion q .done (callSubject c) [] := by
  unfold Call.closeCompletions
  cases x.closeSeq <;> rfl

theorem closeCompletions_length (x : Call) (c : CallNo) : (x.closeCompletions c).length =
    x.switches.length + if x.closeSeq = none then 0 else 1 := by
  rw [closeCompletions_eq, List.length_append, List.length_map, List.length_map]
  cases x.closeSeq <;> rfl

theorem writeAll_eq_foldl (s : State) (ks : List Completion) :
    s.writeAll ks = ks.foldl (fun x k => x.writeCompletion .callLogic false k) s := by
  induction ks generalizing s with
  | nil => rfl
  | cons k ks ih => exact ih _

/-- A member request of the call is in no transform place (R111). -/
theorem inTransform_false_iff : s.inTransform c = false ↔
    ∀ x ∈ s.port.xforms, ∀ tk, x.course.ticket = some tk → tk.call ≠ c := by
  unfold State.inTransform
  rw [List.any_eq_false]
  refine forall₂_congr fun x _ => ?_
  cases x.course.ticket <;> simp

theorem closeReady_iff : s.closeReady c = true ↔ s.calls[c].state = .closing
    ∧ (∀ x ∈ s.port.xforms, ∀ tk, x.course.ticket = some tk → tk.call ≠ c)
    ∧ (s.engine.completionProducer - s.engine.completionConsumer).toNat
      + (s.calls[c].switches.length + if s.calls[c].closeSeq = none then 0 else 1) ≤ 64 := by
  unfold State.closeReady
  rw [Bool.and_eq_true, Bool.and_eq_true, decide_eq_true_iff, decide_eq_true_iff,
    Bool.not_eq_true', inTransform_false_iff, closeCompletions_length, and_assoc]
  rfl

theorem freeOwned_owned {r : Ring} {e : EpNo} (h : r.state = .owned c e) :
    freeOwned c r = Ring.free := by
  unfold freeOwned
  rw [h]
  exact if_pos rfl

theorem freeOwned_other {r : Ring} (h : ∀ e, r.state ≠ .owned c e) : freeOwned c r = r := by
  unfold freeOwned
  split
  · next c' e hr => exact if_neg fun (hc : c' = c) => h e (hc ▸ hr)
  all_goals rfl

theorem releaseLane_none (h : s.calls[c].lane = none) : s.releaseLane c = s := by
  unfold State.releaseLane
  rw [h]

theorem releaseLane_ready {l : LaneNo} (h : s.calls[c].lane = some l)
    (hstate : s.lanes[l].state = .ready) :
    s.releaseLane c = s.setLane l s.lanes[l].emptied := by
  unfold State.releaseLane
  simp only [h, hstate]

theorem releaseLane_expanding {l : LaneNo} (h : s.calls[c].lane = some l)
    (hstate : s.lanes[l].state = .expanding) :
    s.releaseLane c = s.setLane l { s.lanes[l] with subject := none } := by
  unfold State.releaseLane
  simp only [h, hstate]

/-- The lanes after the lane of a call that goes FREE is released (R96). -/
structure Released (o : Option LaneNo) (v v' : Vector Lane 8) : Prop where
  noLane : o = none → v' = v
  ready : ∀ l, o = some l → v[l].state = .ready → v' = v.set l v[l].emptied
  expanding : ∀ l, o = some l → v[l].state = .expanding →
    v' = v.set l { v[l] with subject := none }

theorem releaseLane_released (s : State) (c : CallNo) :
    Released s.calls[c].lane s.lanes (s.releaseLane c).lanes where
  noLane h := by rw [releaseLane_none h]
  ready l h hstate := by rw [releaseLane_ready h hstate]; rfl
  expanding l h hstate := by rw [releaseLane_expanding h hstate]; rfl

/-- What a call leaves behind when it goes FREE, its completions written (R111, R96). -/
structure Freed (s : State) (c : CallNo) (u : State) : Prop where
  calls : u.calls = s.calls.set c Call.free
  rings : u.rings = mapTab (freeOwned c) s.rings
  endpoints : ∀ e : EpNo, u.endpoints[e] = if e ∈ s.calls[c].members.map Member.ep then
    { s.endpoints[e] with call := none } else s.endpoints[e]
  lanes : Released s.calls[c].lane s.lanes u.lanes
  port : u.port = (s.writeAll (s.calls[c].closeCompletions c)).port
  engine : u.engine = (s.writeAll (s.calls[c].closeCompletions c)).engine
  only : u = { s with
    calls := u.calls, rings := u.rings, endpoints := u.endpoints, lanes := u.lanes
    engine := u.engine, port := { s.port with selfQ := u.port.selfQ, waiters := u.port.waiters } }

theorem emptiedState_endpoints (s : State) (c : CallNo) (e : EpNo) :
    (Pairs.emptiedState s c).endpoints[e] = if e ∈ s.calls[c].members.map Member.ep then
      { s.endpoints[e] with call := none } else s.endpoints[e] := (clearCalls_spec _ _).2 e

theorem freeCall_freed (s : State) (c : CallNo) : Freed s c (s.freeCall c) := by
  obtain ⟨g, q, w, hwritten⟩ := writeAll_only s (s.calls[c].closeCompletions c)
  have hreleased := releaseLane_released
    (Pairs.emptiedState (s.writeAll (s.calls[c].closeCompletions c)) c) c
  have heps := emptiedState_endpoints (s.writeAll (s.calls[c].closeCompletions c)) c
  have honly := Pairs.emptiedState_only (s.writeAll (s.calls[c].closeCompletions c)) c
  rw [Pairs.freeCall_eq, releaseLane_only]
  generalize (Pairs.emptiedState (s.writeAll (s.calls[c].closeCompletions c)) c).releaseLane c = r at *
  generalize Pairs.emptiedState (s.writeAll (s.calls[c].closeCompletions c)) c = d at *
  generalize d.endpoints = eps at *
  subst honly
  have hport := congrArg State.port hwritten
  have hengine := congrArg State.engine hwritten
  generalize s.writeAll (s.calls[c].closeCompletions c) = u at hwritten heps hreleased ⊢
  subst hwritten
  exact ⟨rfl, rfl, heps, hreleased, hport.symm, hengine.symm, rfl⟩

theorem exec_callCloseEnd_waits (h : ¬ s.closeReady c = true) (t : Instant) :
    exec (.callCloseEnd t c) s = .next (s.atInstant t).settle :=
  congrArg (fun u => Host.Outcome.next (State.settle u)) (if_neg h)

theorem exec_callCloseEnd_ends (h : s.closeReady c = true) (t : Instant) :
    exec (.callCloseEnd t c) s = .next ((s.atInstant t).freeCall c).settle :=
  congrArg (fun u => Host.Outcome.next (State.settle u)) (if_pos h)

end

/-- Settles O37: CLOSE-CALL by the call's state, the end of a close by what the call leaves behind, the
end of draining by the ring's count. -/
theorem callsClose : Obligations.CallsClose := by
  refine ⟨fun s t i q call c hfetch hcall => ⟨fun h => ?_, fun h => ?_⟩, fun s t c => ?_,
    fun s t r => ⟨fun c hstate hcount => ?_, fun h => ?_⟩⟩
  · have h' : (s.afterFetch t i).calls[c].state ≠ .opened := h
    rw [exec_closeCall hfetch t hcall, doCloseCall_noCall h']
    rfl
  · have h' : (s.afterFetch t i).calls[c].state = .opened := h
    obtain ⟨harrival, hhold⟩ := afterFetch_port s t i
    rw [exec_closeCall hfetch t hcall, doCloseCall_open h', harrival, hhold]
    rfl
  · intro n subject closings written ready
    have hready : s.closeReady c = true ↔ ready := closeReady_iff
    refine ⟨fun h => exec_callCloseEnd_waits (mt hready.1 h) t, fun h => ?_⟩
    have hfreed := freeCall_freed (s.atInstant t) c
    have hclosings : (s.atInstant t).calls[c].closeCompletions c = closings := closeCompletions_eq _ c
    have hlength : closings.length = n := hclosings ▸ closeCompletions_length _ c
    refine ⟨_, exec_callCloseEnd_ends (hready.2 h) t, hfreed.calls, fun r => ?_, hfreed.endpoints,
      hfreed.lanes.noLane, fun l hl => ⟨hfreed.lanes.ready l hl, hfreed.lanes.expanding l hl⟩, ?_, ?_,
      hfreed.only⟩
    · have hring : ((s.atInstant t).freeCall c).rings[r] = freeOwned c s.rings[r] := by
        rw [hfreed.rings]
        exact mapTab_get _ _ r
      rw [hring]
      exact ⟨fun ⟨e, he⟩ => freeOwned_owned he, freeOwned_other⟩
    · rw [hfreed.port, hclosings, writeAll_eq_foldl]
    · rw [hfreed.engine, hclosings, writeAll_engine, hlength]
      rfl
  · have hend := Pieces.endRingDrain_free (s.atInstant t) hstate hcount
    exact congrArg (fun u => Host.Outcome.next (State.settle u)) hend
  · have hend := Pieces.endRingDrain_kept (s.atInstant t) (r := r)
      (fun ⟨⟨c, hc⟩, hcount⟩ => h.elim (fun h => h c hc) fun h => h hcount)
    exact congrArg (fun u => Host.Outcome.next (State.settle u)) hend

end Sys2Proof.CloseOrders

namespace Sys2Proof.Scrambling

open Sys2Proof Sys2Proof.Machine

/-! ## The exchange of two bytes (R58) -/

theorem swapBytes_toNat (x : Half) : (swapBytes x).toNat = x.toNat % 256 * 256 + x.toNat / 256 := by
  have hhigh : (x <<< 8).toNat = 2 ^ 8 * (x.toNat % 256) := by
    rw [BitVec.toNat_shiftLeft, Nat.shiftLeft_eq]
    omega
  have hlow : (x >>> 8).toNat = x.toNat / 256 := by
    rw [BitVec.toNat_ushiftRight, Nat.shiftRight_eq_div_pow]
  have hx := x.isLt
  unfold swapBytes
  rw [BitVec.toNat_or, hhigh, hlow, ← Nat.two_pow_add_eq_or_of_lt (by omega)]
  omega

theorem swapBytes_swapBytes (x : Half) : swapBytes (swapBytes x) = x := by
  refine BitVec.eq_of_toNat_eq ?_
  rw [swapBytes_toNat, swapBytes_toNat]
  have hx := x.isLt
  omega

theorem convertOrder_convertOrder (be : Bool) (x : Half) :
    convertOrder be (convertOrder be x) = x := by
  cases be
  · rfl
  · exact swapBytes_swapBytes x

/-! ## Scrambling undone (R67, R68) -/

theorem descramble_scramble (k : Key) (f : Word) (r : RingNo) (j : Nat) (x : Half) :
    descramble k f r j (scramble k f r j x) = x := BitVec.add_sub_cancel x _

theorem scramble_descramble (k : Key) (f : Word) (r : RingNo) (j : Nat) (x : Half) :
    scramble k f r j (descramble k f r j x) = x := BitVec.sub_add_cancel x _

/-! ## The ranks of eight values (R69) -/

section

variable (v : Nat → Half) {s u w : Nat}

/-- Value u comes before value s: it is lower, or equal and of a lower index. -/
def Before (u s : Nat) : Prop := v u < v s ∨ v u = v s ∧ u < s

theorem before_irrefl (s : Nat) : ¬ Before v s s := by
  simp [Before]

theorem before_trans (h : Before v u s) (k : Before v s w) : Before v u w := by
  unfold Before at *
  bv_omega

theorem before_total (h : u ≠ s) : Before v u s ∨ Before v s u := by
  unfold Before
  bv_omega

/-- The indices of the eight values that come before value s. -/
def earlierValues (s : Nat) : Finset Nat :=
  ((List.range 8).filter fun u =>
    decide (v u < v s) || (decide (u < s) && decide (v u = v s))).toFinset

theorem mem_earlierValues : u ∈ earlierValues v s ↔ u < 8 ∧ Before v u s := by
  simp [earlierValues, Before, and_comm]

/-- A value's rank is the number of those before it (R69). -/
theorem rankOf_eq_card (s : Nat) : rankOf v s = (earlierValues v s).card :=
  (List.toFinset_card_of_nodup (List.nodup_range.filter _)).symm

theorem rankOf_lt_eight (hs : s < 8) : rankOf v s < 8 := by
  have hsub : earlierValues v s ⊂ Finset.range 8 := by
    refine (Finset.ssubset_iff_of_subset fun u hu =>
      Finset.mem_range.2 ((mem_earlierValues v).1 hu).1).2 ⟨s, Finset.mem_range.2 hs, fun h => ?_⟩
    exact before_irrefl v s ((mem_earlierValues v).1 h).2
  rw [rankOf_eq_card]
  exact (Finset.card_lt_card hsub).trans_eq (Finset.card_range 8)

theorem rankOf_lt_of_before (hs : s < 8) (h : Before v s u) : rankOf v s < rankOf v u := by
  rw [rankOf_eq_card, rankOf_eq_card]
  refine Finset.card_lt_card ((Finset.ssubset_iff_of_subset fun w hw => ?_).2
    ⟨s, (mem_earlierValues v).2 ⟨hs, h⟩, fun hself =>
      before_irrefl v s ((mem_earlierValues v).1 hself).2⟩)
  obtain ⟨hw8, hbefore⟩ := (mem_earlierValues v).1 hw
  exact (mem_earlierValues v).2 ⟨hw8, before_trans v hbefore h⟩

/-- The ranks stand in the order of the values, equal values in the order of their indices (R69). -/
theorem rankOf_lt_iff (hs : s < 8) (hu : u < 8) : rankOf v s < rankOf v u ↔ Before v s u := by
  refine ⟨fun h => ?_, rankOf_lt_of_before v hs⟩
  by_contra hnot
  rcases eq_or_ne s u with rfl | hne
  · exact lt_irrefl _ h
  · exact lt_asymm h (rankOf_lt_of_before v hu ((before_total v hne).resolve_left hnot))

theorem rankOf_eq_iff (hs : s < 8) (hu : u < 8) : rankOf v s = rankOf v u ↔ s = u := by
  refine ⟨fun h => ?_, fun h => h ▸ rfl⟩
  by_contra hne
  rcases before_total v hne with hb | hb
  · exact (rankOf_lt_of_before v hs hb).ne h
  · exact (rankOf_lt_of_before v hu hb).ne h.symm

end

/-! ## Comfort samples (R71) -/

theorem comfortSample_zero (k : Key) (f : Word) (j : Nat) {level : Fin 8} (h : level.val = 0) :
    comfortSample k f j level = 0#16 := if_pos (Fin.ext h)

theorem comfortSample_toInt (k : Key) (f : Word) (j : Nat) {level : Fin 8} (h : level.val ≠ 0) :
    (comfortSample k f j level).toInt =
      (gen k (counter f j) comfortDomain).toInt / 2 ^ (12 - level.val) := by
  unfold comfortSample
  rw [if_neg fun h0 => h (congrArg Fin.val h0), BitVec.toInt_sshiftRight,
    Int.shiftRight_eq_div_pow]
  norm_cast

/-- An output divided by 2^(12 − L) lies within 2^(3 + L) of 0. -/
theorem div_bounds {x : Int} (hlow : -2 ^ 15 ≤ x) (hhigh : x < 2 ^ 15) {l : Nat} (hl : l ≤ 12) :
    -2 ^ (3 + l) ≤ x / 2 ^ (12 - l) ∧ x / 2 ^ (12 - l) < 2 ^ (3 + l) := by
  have hpos : (0 : Int) < 2 ^ (12 - l) := by positivity
  have hsplit : (2 : Int) ^ (3 + l) * 2 ^ (12 - l) = 2 ^ 15 := by
    rw [← pow_add]
    congr 1
    omega
  refine ⟨Int.le_ediv_of_mul_le hpos ?_, Int.ediv_lt_of_lt_mul hpos ?_⟩
  · rwa [neg_mul, hsplit]
  · rwa [hsplit]

theorem comfortSample_bounds (k : Key) (f : Word) (j : Nat) (level : Fin 8) :
    -2 ^ (3 + level.val) ≤ (comfortSample k f j level).toInt
    ∧ (comfortSample k f j level).toInt < 2 ^ (3 + level.val) := by
  by_cases h : level.val = 0
  · rw [comfortSample_zero k f j h, h]
    decide
  · rw [comfortSample_toInt k f j h]
    exact div_bounds (BitVec.le_toInt _) BitVec.toInt_lt (by omega)

/-- Settles O54: each use of the generator by its own rule. -/
theorem usesOfTheGenerator : Obligations.UsesOfTheGenerator := by
  refine ⟨fun k f r j x => ⟨rfl, BitVec.toNat_add x _, descramble_scramble k f r j x,
      scramble_descramble k f r j x⟩,
    fun k f r s hs u hu => ⟨rankOf_lt_eight _ hs, rankOf_lt_iff _ hs hu, rankOf_eq_iff _ hs hu⟩,
    fun k f j level => ⟨comfortSample_zero k f j, comfortSample_toInt k f j,
      comfortSample_bounds k f j level⟩,
    fun k e => rfl, fun k c => rfl,
    fun be x => ⟨convertOrder_convertOrder be x, swapBytes_toNat x⟩⟩

end Sys2Proof.Scrambling

namespace Sys2Proof.Scrambling

open Sys2Proof Sys2Proof.Machine

/-! ## The stages of the generator (R62) -/

/-- Stages 3a and 3b: the full product and sum, reduced once. -/
theorem mul_add_toNat (x c a : Half) :
    (x * c + a).toNat = (x.toNat * c.toNat + a.toNat) % 65536 := by
  rw [BitVec.toNat_add, BitVec.toNat_mul, Nat.mod_add_mod]

/-- Settles O53: stages 1, 2, 3 and 5 by the values of sums, XORs and products, stage 4 by the value of
the exchange. -/
theorem generatorStages : Obligations.GeneratorStages := by
  intro k n d p q P Q Q'
  have branchP : ((n + k.k0) * 40693#16 + k.k2).toNat = P := by
    rw [mul_add_toNat, BitVec.toNat_add]
    rfl
  have branchQ : ((n ^^^ k.k1 ^^^ d) * 36969#16 + k.k3).toNat = Q := by
    rw [mul_add_toNat, BitVec.toNat_xor, BitVec.toNat_xor]
    rfl
  calc (gen k n d).toNat
      = ((n + k.k0) * 40693#16 + k.k2).toNat
        ^^^ (swapBytes ((n ^^^ k.k1 ^^^ d) * 36969#16 + k.k3)).toNat := BitVec.toNat_xor _ _
    _ = P ^^^ Q' := by rw [branchP, swapBytes_toNat, branchQ]

end Sys2Proof.Scrambling

namespace Sys2Proof.LaneBank

-- Theorems that wait in parallel for the kernel each hold a thread's stack.
set_option Elab.async false

open Sys2Proof Sys2Proof.Machine Sys2Proof.Laws Sys2Proof.Steps Sys2Proof.Holding

/-! ## The lane bank's questions (R79 to R88) -/

section

variable (s : State)

theorem waitingFor_isNone_iff (x : Subject) :
    (s.waitingFor x).isNone = true ↔ ∀ r ∈ s.waiting, r.subject ≠ x := by
  simp [State.waitingFor]

theorem expandingFor_iff (x : Subject) : s.expandingFor x = true ↔
    ∃ l : LaneNo, s.lanes[l].state = .expanding ∧ s.lanes[l].subject = some x := by
  simp [State.expandingFor]

theorem not_expandingFor_iff (x : Subject) : ¬ s.expandingFor x = true ↔
    ∀ l : LaneNo, ¬ (s.lanes[l].state = .expanding ∧ s.lanes[l].subject = some x) := by
  rw [expandingFor_iff, not_exists]

/-! ### The lane a request would start on (R87, R88) -/

/-- Of elements that do not precede each other the first in the list is chosen. -/
theorem firstBy_earliest {α : Type} (before R : α → α → Prop) [DecidableRel before] {l : List α}
    (hl : l.Pairwise R) {a : α} (h : firstBy (fun x y => decide (before x y)) l = some a) :
    ∀ b ∈ l, ¬ before a b → a = b ∨ R a b := by
  induction l generalizing a with
  | nil => cases h
  | cons x xs ih =>
    obtain ⟨hx, hxs⟩ := List.pairwise_cons.1 hl
    unfold firstBy at h
    intro b hb hab
    split at h
    · rename_i hnone
      cases h
      rw [firstBy_none] at hnone
      subst hnone
      exact .inl (List.mem_singleton.1 hb).symm
    · rename_i y hy
      split at h
      · rename_i hyx
        cases h
        rcases List.mem_cons.1 hb with rfl | hb
        · exact absurd (of_decide_eq_true hyx) hab
        · exact ih hxs hy b hb hab
      · cases h
        rcases List.mem_cons.1 hb with rfl | hb
        · exact .inl rfl
        · exact .inr (hx b hb)

/-- A free lane is the lowest EMPTY one, or, where there is none, the evictable one longest unused, the
lowest of equals. -/
theorem freeLane_spec {l : LaneNo} (h : s.freeLane = some l) :
    (s.lanes[l].state = .empty ∧ ∀ l', l' < l → s.lanes[l'].state ≠ .empty)
      ∨ ((∀ l' : LaneNo, s.lanes[l'].state ≠ .empty) ∧ s.evictable l = true
        ∧ ∀ l' : LaneNo, s.evictable l' = true → s.lanes[l].lastUse < s.lanes[l'].lastUse
          ∨ s.lanes[l].lastUse = s.lanes[l'].lastUse ∧ l ≤ l') := by
  unfold State.freeLane at h
  split at h
  · rename_i l' hfind
    cases h
    refine .inl ⟨by simpa using List.find?_some hfind, fun l' hl => ?_⟩
    obtain ⟨-, i, hi, hget, hlow⟩ := List.find?_eq_some_iff_getElem.1 hfind
    rw [List.getElem_finRange] at hget
    have := hlow l'.val (by rw [← hget] at hl; exact hl)
    simpa using this
  · rename_i hfind
    have hmem := List.mem_filter.1 (firstBy_mem _ _ _ h)
    refine .inr ⟨fun l' => by simpa using List.find?_eq_none.1 hfind l' (List.mem_finRange l'),
      hmem.2, fun l' hl' => ?_⟩
    have hlist : l' ∈ (List.finRange 8).filter s.evictable :=
      List.mem_filter.2 ⟨List.mem_finRange l', hl'⟩
    have hsorted : ((List.finRange 8).filter s.evictable).Pairwise (· < ·) :=
      (List.pairwise_lt_finRange 8).filter _
    have hle := firstBy_le _ (fun a b hab => ?_) (fun a b c hab hbc => ?_) _ _ h l' hlist
    have hfirst := firstBy_earliest (fun a b : LaneNo => s.lanes[a].lastUse < s.lanes[b].lastUse)
      (· < ·) hsorted h l' hlist
    · have hle' := of_decide_eq_false hle
      by_cases hlt : s.lanes[l].lastUse < s.lanes[l'].lastUse
      · exact .inl hlt
      · exact .inr ⟨Nat.le_antisymm (Nat.le_of_not_lt hle') (Nat.le_of_not_lt hlt),
          (hfirst hlt).elim le_of_eq le_of_lt⟩
    · simp only [decide_eq_true_eq, decide_eq_false_iff_not, Instant] at *
      omega
    · simp only [decide_eq_false_iff_not, Instant] at *
      omega

/-- A lane is free where one is EMPTY or evictable. -/
theorem freeLane_isSome (h : ∃ l : LaneNo, s.lanes[l].state = .empty ∨ s.evictable l = true) :
    ∃ l, s.freeLane = some l := by
  obtain ⟨l, hl⟩ := h
  unfold State.freeLane
  split
  · exact ⟨_, rfl⟩
  · rename_i hfind
    have hempty : s.lanes[l].state ≠ .empty := by
      simpa using List.find?_eq_none.1 hfind l (List.mem_finRange l)
    refine Option.ne_none_iff_exists'.1 fun hnone => ?_
    rw [firstBy_none] at hnone
    exact List.not_mem_nil
      (hnone ▸ List.mem_filter.2 ⟨List.mem_finRange l, hl.resolve_left hempty⟩)

variable {s}
variable {r : ActRequest} {l : LaneNo}

theorem startLane_entry {d : EntryNo} (h : r.subject = .entry d) : s.startLane r =
    if s.expandingFor r.subject then none else s.freeLane.map fun l => (l, false) := by
  unfold State.startLane
  rw [h]

theorem startLane_call {c : CallNo} (h : r.subject = .call c) (hc : s.calls[c].lane = none) :
    s.startLane r =
      if s.expandingFor r.subject then none else s.freeLane.map fun l => (l, false) := by
  unfold State.startLane
  simp only [h, hc]

/-- A request for a call that holds a lane can start in place alone (R91). -/
theorem startLane_held {c : CallNo} {k : LaneNo} (h : r.subject = .call c)
    (hc : s.calls[c].lane = some k) : s.startLane r =
      if s.expandingFor r.subject then none
      else if r.derive_ && s.lanes[k].isReady then some (k, true) else none := by
  unfold State.startLane
  simp only [h, hc]

/-- A start in place is on the READY lane of the request's call (R91). -/
theorem startLane_inPlace_iff : s.startLane r = some (l, true) ↔
    ∃ c, r.subject = .call c ∧ s.calls[c].lane = some l ∧ s.lanes[l].state = .ready
      ∧ r.derive_ = true
      ∧ ∀ l' : LaneNo, ¬ (s.lanes[l'].state = .expanding ∧ s.lanes[l'].subject = some (.call c)) := by
  cases hr : r.subject with
  | entry d => simp [startLane_entry hr]
  | call c =>
    simp only [Subject.call.injEq, exists_eq_left', ← not_expandingFor_iff]
    cases hc : s.calls[c].lane with
    | none => simp [startLane_call hr hc]
    | some k =>
      rw [startLane_held hr hc, hr]
      simp only [Option.ite_none_left_eq_some, Option.ite_none_right_eq_some, Option.some.injEq,
        Prod.mk.injEq, and_true, Bool.and_eq_true, Lane.isReady, decide_eq_true_eq]
      constructor
      · rintro ⟨hexp, ⟨hderive, hready⟩, rfl⟩
        exact ⟨rfl, hready, hderive, hexp⟩
      · rintro ⟨rfl, hready, hderive, hexp⟩
        exact ⟨hexp, ⟨hderive, hready⟩, rfl⟩

/-- A start on a new lane takes the free lane, for a subject that has none (R89, R90). -/
theorem startLane_taken_iff : s.startLane r = some (l, false) ↔
    (∀ l' : LaneNo, ¬ (s.lanes[l'].state = .expanding ∧ s.lanes[l'].subject = some r.subject))
      ∧ (∀ c, r.subject = .call c → s.calls[c].lane = none) ∧ s.freeLane = some l := by
  rw [← not_expandingFor_iff]
  cases hr : r.subject with
  | entry d => simp [startLane_entry hr, hr]
  | call c =>
    cases hc : s.calls[c].lane with
    | none => simp [startLane_call hr hc, hr, hc, -Fin.getElem_fin]
    | some k => simp [startLane_held hr hc, hc, -Fin.getElem_fin]

/-! ### An activation's start (R89, R90, R91) -/

/-- The expansion that a start begins (R79). -/
def begun (s : State) (r : ActRequest) : Expansion :=
  { start := s.now, finish := s.now + 1500, derives := r.derive_, slots := r.slots }

/-- A lane whose activation has started on it anew (R90). -/
def taken (s : State) (r : ActRequest) (x : Lane) : Lane :=
  { x with
    state := .expanding, subject := some r.subject, keys := LaneKeys.blank, count := 0,
    expansion := some (begun s r) }

variable (s r l)

theorem start_inPlace : s.start r l true = { s with
    waiting := s.waiting.filter fun r' => r'.subject ≠ r.subject
    starts := addStart s.starts s.now
    lanes := s.lanes.set l { s.lanes[l] with
      state := .expanding, expansion := some (begun s r) } } := rfl

theorem evict_only : s.evict l = { s with calls := (s.evict l).calls } := by
  unfold State.evict
  split <;> rfl

theorem evict_calls (c : CallNo) : (s.evict l).calls[c] = { s.calls[c] with
    lane := if s.lanes[l].subject = some (.call c) then none else s.calls[c].lane } := by
  unfold State.evict
  split
  · rename_i c' h
    rw [setCall_get, h]
    by_cases hc : c = c'
    · subst hc; simp
    · simp [hc, Ne.symm hc]
  · rename_i h; simp [h, -Fin.getElem_fin]
  · rename_i h; simp [h, -Fin.getElem_fin]

theorem evict_with (w : List ActRequest) (v : List Instant) :
    State.evict { s with waiting := w, starts := v } l =
      { s with waiting := w, starts := v, calls := (s.evict l).calls } := by
  unfold State.evict
  dsimp only
  split <;> rfl

/-- A start on a new lane, but for the lane field of the request's call (R89, R90). -/
def started (s : State) (r : ActRequest) (l : LaneNo) : State :=
  { s with
    waiting := s.waiting.filter fun r' => r'.subject ≠ r.subject
    starts := addStart s.starts s.now
    lanes := s.lanes.set l (taken s r s.lanes[l])
    calls := (s.evict l).calls }

variable {s r l}

theorem start_taken_entry {d : EntryNo} (h : r.subject = .entry d) :
    s.start r l false = started s r l := by
  have hevict := evict_with s l (s.waiting.filter fun r' => r'.subject ≠ r.subject)
    (addStart s.starts s.now)
  rw [h] at hevict
  unfold State.start started taken
  simp only [Bool.false_eq_true, if_false, State.withdraw, State.setWaiting, h, hevict]
  rfl

theorem start_taken_call {c : CallNo} (h : r.subject = .call c) :
    s.start r l false = (started s r l).setCall c
      { (s.evict l).calls[c] with lane := some l } := by
  have hevict := evict_with s l (s.waiting.filter fun r' => r'.subject ≠ r.subject)
    (addStart s.starts s.now)
  rw [h] at hevict
  unfold State.start started taken
  simp only [Bool.false_eq_true, if_false, State.withdraw, State.setWaiting, h, hevict]
  rfl

variable (s r l)

theorem start_taken_only : s.start r l false = { s with
    waiting := s.waiting.filter fun r' => r'.subject ≠ r.subject
    starts := addStart s.starts s.now
    lanes := s.lanes.set l (taken s r s.lanes[l])
    calls := (s.start r l false).calls } := by
  cases h : r.subject with
  | call c => rw [start_taken_call h, ← h]; rfl
  | entry d => rw [start_taken_entry h, ← h]; rfl

theorem start_taken_lanes :
    (s.start r l false).lanes = s.lanes.set l (taken s r s.lanes[l]) := by
  rw [start_taken_only]

/-- The lane's former call loses it, and the request's call takes it (R89, R90). -/
theorem start_taken_calls (c : CallNo) : (s.start r l false).calls[c] = { s.calls[c] with
    lane := if r.subject = .call c then some l
      else if s.lanes[l].subject = some (.call c) then none else s.calls[c].lane } := by
  cases h : r.subject with
  | entry d =>
    rw [start_taken_entry h, if_neg (by simp)]
    exact evict_calls s l c
  | call c' =>
    rw [start_taken_call h, setCall_get]
    by_cases hc : c = c'
    · subst hc
      rw [if_pos rfl, if_pos rfl, evict_calls]
    · rw [if_neg hc, if_neg fun h => hc (Subject.call.inj h).symm]
      exact evict_calls s l c

/-! ### Grants (R87) -/

variable {s}

/-- What holds before the grants of an event and survives each of them holds after them (R87). -/
theorem grantN_induction {P : State → Prop} (n : Nat) (s : State) (h : P s)
    (hstart : ∀ u r l b, P u → u.nextGrant = some r → u.startLane r = some (l, b) →
      P (u.start r l b)) : P (s.grantN n) := by
  induction n generalizing s with
  | zero => exact h
  | succ n ih =>
    unfold State.grantN
    split
    · split
      · exact h
      · rename_i r hr
        split
        · exact h
        · rename_i l b hl
          exact ih _ (hstart s r l b h hr hl)
    · exact h

end

end Sys2Proof.LaneBank

namespace Sys2Proof.LanePairs

-- Theorems that wait in parallel for the kernel each hold a thread's stack.
set_option Elab.async false

open Sys2Proof Sys2Proof.Machine Sys2Proof.Laws Sys2Proof.Steps Sys2Proof.LaneBank

/-! ## Calls and key lanes, and what leaves their pairs alone (R79, R99) -/

/-- Calls and lanes stand as they were, and no call has a waiting request that had none. -/
structure SameLanes (s u : State) : Prop where
  call : ∀ c : CallNo, u.calls[c].state = s.calls[c].state := by exact fun _ => rfl
  lane : ∀ c : CallNo, u.calls[c].lane = s.calls[c].lane := by exact fun _ => rfl
  state : ∀ l : LaneNo, u.lanes[l].state = s.lanes[l].state := by exact fun _ => rfl
  subject : ∀ l : LaneNo, u.lanes[l].subject = s.lanes[l].subject := by exact fun _ => rfl
  asked : ∀ r ∈ u.waiting, ∀ c, r.subject = .call c → ∃ r' ∈ s.waiting, r'.subject = .call c := by
    exact fun r hr _ h => ⟨r, hr, h⟩

/-- An operation that keeps the pairs of calls and lanes. -/
def Kept (s u : State) : Prop := s.LanesPaired → u.LanesPaired

theorem SameLanes.trans {s u v : State} (h : SameLanes s u) (k : SameLanes u v) :
    SameLanes s v where
  call c := (k.call c).trans (h.call c)
  lane c := (k.lane c).trans (h.lane c)
  state l := (k.state l).trans (h.state l)
  subject l := (k.subject l).trans (h.subject l)
  asked r hr c hc := by
    obtain ⟨r', hr', hc'⟩ := k.asked r hr c hc
    exact h.asked r' hr' c hc'

theorem SameLanes.refl (s : State) : SameLanes s s := {}

theorem Kept.trans {s u v : State} (h : Kept s u) (k : Kept u v) : Kept s v := k ∘ h

theorem SameLanes.kept {s u : State} (h : SameLanes s u) : Kept s u := by
  intro ⟨hpair, hentry, hlane, hfree, hasked⟩
  refine ⟨fun c l => ?_, fun d l l' hl hl' => ?_, fun l => ?_, fun c hc => ?_, fun r hr c hc => ?_⟩
  · rw [h.lane, h.subject]; exact hpair c l
  · rw [h.subject] at hl hl'; exact hentry d l l' hl hl'
  · rw [h.state, h.subject]; exact hlane l
  · rw [h.lane]; exact hfree c ((h.call c).symm.trans hc)
  · obtain ⟨r', hr', hc'⟩ := h.asked r hr c hc
    exact (h.call c).trans (hasked r' hr' c hc')

theorem Kept.same {s u v : State} (h : Kept s u) (k : SameLanes u v) : Kept s v := h.trans k.kept

section

variable (s : State)

/-! ### Updates of one record -/

theorem setCall_same (c : CallNo) (x : Call) (hstate : x.state = s.calls[c].state := by rfl)
    (hlane : x.lane = s.calls[c].lane := by rfl) : SameLanes s (s.setCall c x) :=
  { call := field_set Call.state s.calls c x hstate
    lane := field_set Call.lane s.calls c x hlane }

theorem setLane_same (l : LaneNo) (x : Lane) (hstate : x.state = s.lanes[l].state := by rfl)
    (hsubject : x.subject = s.lanes[l].subject := by rfl) : SameLanes s (s.setLane l x) :=
  { state := field_set Lane.state s.lanes l x hstate
    subject := field_set Lane.subject s.lanes l x hsubject }

/-- Requests for entries may join, and requests change but for their subjects. -/
theorem setWaiting_same (w : List ActRequest)
    (h : ∀ r ∈ w, ∀ c, r.subject = .call c → ∃ r' ∈ s.waiting, r'.subject = .call c) :
    SameLanes s (s.setWaiting w) := { asked := h }

theorem engineOnly_same {s u : State} (h : EngineOnly s u) : SameLanes s u := by
  obtain ⟨g, q, w, rfl⟩ := h
  exact {}

theorem setEp_same (e : EpNo) (x : EndpointRec) : SameLanes s (s.setEp e x) := {}
theorem setEntry_same (d : EntryNo) (x : DirEntry) : SameLanes s (s.setEntry d x) := {}
theorem setMbox_same (m : MboxNo) (x : Mbox) : SameLanes s (s.setMbox m x) := {}
theorem setRing_same (r : RingNo) (x : Ring) : SameLanes s (s.setRing r x) := {}
theorem setPort_same (p : Port) : SameLanes s (s.setPort p) := {}
theorem setEngine_same (g : Engine) : SameLanes s (s.setEngine g) := {}
theorem setAlert_same (b : Bool) : SameLanes s { s with alert := b } := {}
theorem setTimer_same (x : Timer) : SameLanes s (s.setTimer x) := {}
theorem atInstant_same (t : Instant) : SameLanes s (s.atInstant t) := {}

theorem place_same (b : Block) (p : Bool) (es : List SelfEntry) : SameLanes s (s.place b p es) := {}

theorem writeCompletion_same (b : Block) (p : Bool) (c : Completion) (r : Bool) :
    SameLanes s (s.writeCompletion b p c r) := {}

theorem raise_same (k : CompKind) (x : CompSubject) (d : List Byte) :
    SameLanes s (s.raise k x d) := engineOnly_same (raise_only s k x d)

theorem finish_same (c : Completion) : SameLanes s (s.finish c) := engineOnly_same (finish_only s c)

theorem endPass_same : SameLanes s s.endPass := by
  rw [Bounds.endPass_only]
  exact {}

theorem writeTimingDone_same : SameLanes s s.writeTimingDone := by
  unfold State.writeTimingDone
  split
  · split
    · exact (setTimer_same s _).trans (writeCompletion_same _ _ _ _ _)
    · exact {}
  all_goals exact {}

/-! ### The ports (chapter 2) -/

theorem removeReservations_same (p : Reservation → Bool) : SameLanes s (s.removeReservations p) := by
  rw [(removeReservations_spec s p).2.2]
  exact {}

theorem send_same (r : DsRequest) (src : DsSource) : SameLanes s (s.send r src) := by
  rw [send_only]
  exact {}

theorem refuse_same (a : Accepted) (v : Violation) : SameLanes s (s.refuse a v) := {}

theorem respond_same (id : Nat) (r : Response) : SameLanes s (s.respond id r) := {}

theorem takeOut_same (a : Accepted) : SameLanes s (s.takeOut a) := {}

theorem offer_same (r : Request) : SameLanes s (s.offer r) := by
  unfold State.offer State.arrive
  split
  · split <;> exact {}
  · exact {}

theorem returnResponse_same (e : EpNo) : SameLanes s (s.returnResponse e) := by
  unfold State.returnResponse
  split
  · exact {}
  · split <;> exact {}

theorem retestArrival_same : SameLanes s s.retestArrival := by
  rw [retestArrival_only]
  exact {}

theorem reserve_same (e : EpNo) (w : Nat) : SameLanes s (s.reserve e w) := by
  have hown := removeReservations_same s fun r => decide (r.ep = e)
  unfold State.reserve
  dsimp only
  split
  · exact { hown with }
  · split <;> exact { hown with }

theorem monitorAt_same (a : Accepted) : SameLanes s (s.monitorAt a) := by
  unfold State.monitorAt
  split
  · split
    · exact reserve_same s _ _
    · exact {}
  · exact removeReservations_same s _
  all_goals exact {}

theorem recordMark_same (o : Option (MboxNo × Mark)) : SameLanes s (s.recordMark o) := by
  cases o <;> exact {}

theorem grantMailbox_same (a : Accepted) : SameLanes s (s.grantMailbox a).1 := by
  have hmon := monitorAt_same s a
  unfold State.grantMailbox
  dsimp only
  split
  · exact hmon.trans (refuse_same _ _ _)
  · exact hmon.trans (respond_same _ _ _)
  · exact (hmon.trans (recordMark_same _ _)).trans (send_same _ _ _)

theorem grantForwarded_same (c : Candidate) : SameLanes s (s.grantForwarded c).1 := by
  unfold State.grantForwarded
  split
  · dsimp only
    split
    · exact (takeOut_same s _).trans (grantMailbox_same _ _)
    · exact (takeOut_same s _).trans (send_same _ _ _)
  · exact (setPort_same s _).trans (send_same _ _ _)

theorem grantSelf_same : SameLanes s s.grantSelf := by
  unfold State.grantSelf
  split
  · exact {}
  · exact ((setPort_same s _).trans (send_same _ _ _)).trans (setPort_same _ _)

theorem grantDownN_same (n : Nat) (s : State) : SameLanes s (s.grantDownN n) := by
  induction n generalizing s with
  | zero => exact {}
  | succ n ih =>
    unfold State.grantDownN
    dsimp only
    split
    · split
      · exact grantSelf_same s
      · exact {}
    · rename_i c _
      have hgrant := grantForwarded_same s c
      split
      · exact grantSelf_same s
      · split
        · rename_i hu
          rw [hu] at hgrant
          exact hgrant.trans (setPort_same _ _)
        · rename_i hu
          rw [hu] at hgrant
          exact hgrant.trans (ih _)

theorem grantDown_same : SameLanes s s.grantDown := by
  unfold State.grantDown
  split
  · exact {}
  · exact grantDownN_same _ s

/-! ### The transform unit (chapter 3) -/

theorem raiseCounts_same (tk : Ticket) : SameLanes s (s.raiseCounts tk) :=
  (setRing_same s tk.ring _).trans (setLane_same _ _ _)

theorem stampLane_same (l : LaneNo) : SameLanes s (s.stampLane l) := setLane_same s l _

theorem enterNonMember_same (a : Accepted) : SameLanes s (s.enterNonMember a) := by
  unfold State.enterNonMember
  split <;> exact {}

theorem enter_same (a : Accepted) : SameLanes s (s.enter a) := by
  unfold State.enter
  split
  · exact {}
  · split
    · exact enterNonMember_same s a
    · split
      · exact {}
      · split
        · unfold State.enterRead
          dsimp only
          split
          · exact (respond_same s _ _).trans (stampLane_same _ _)
          · exact (setPort_same s _).trans (raiseCounts_same _ _)
        · unfold State.enterWrite
          split
          · exact (refuse_same s _ _).trans (stampLane_same _ _)
          · exact (setPort_same s _).trans (raiseCounts_same _ _)
        all_goals exact enterNonMember_same s a

theorem transformNext_same : SameLanes s s.transformNext := by
  unfold State.transformNext
  split
  · exact {}
  · exact (takeOut_same s _).trans (enter_same _ _)

theorem endRingDrain_same (r : RingNo) : SameLanes s (s.endRingDrain r) := by
  rw [Bounds.endRingDrain_rings]
  exact {}

theorem leaveCounts_same (tk : Ticket) : SameLanes s (s.leaveCounts tk) :=
  (((setRing_same s tk.ring _).trans (setLane_same _ _ _)).trans
    (stampLane_same _ _)).trans (endRingDrain_same _ _)

theorem fillByAnswer_same (x : Xform) (no : Nat) (a : Answer) :
    SameLanes s (s.fillByAnswer x no a) := by
  unfold State.fillByAnswer State.setFill
  split
  · split
    · split <;> exact {}
    · exact {}
  · exact {}

theorem leaveTransform_same (x : Xform) (r : Response) : SameLanes s (s.leaveTransform x r) := by
  unfold State.leaveTransform
  dsimp only
  split
  · exact {}
  · exact ((setPort_same s _).trans (leaveCounts_same _ _)).trans (respond_same _ _ _)

theorem pieceAnswer_same (id no : Nat) (a : Answer) : SameLanes s (s.pieceAnswer id no a) := by
  unfold State.pieceAnswer
  split
  · exact {}
  · dsimp only
    split
    · exact (fillByAnswer_same s _ _ _).trans (leaveTransform_same _ _ _)
    · exact (fillByAnswer_same s _ _ _).trans (setPort_same _ _)

end

end Sys2Proof.LanePairs

namespace Sys2Proof.LanePairs

-- Theorems that wait in parallel for the kernel each hold a thread's stack.
set_option Elab.async false

open Sys2Proof Sys2Proof.Machine Sys2Proof.Laws Sys2Proof.Steps Sys2Proof.Pairs

section

variable (s : State)

/-! ### Admission (chapter 8) -/

theorem deadmit_same (e : EpNo) (r : Reason) : SameLanes s (s.deadmit e r) := by
  unfold State.deadmit
  split
  · exact {}
  · exact ((setEp_same s e _).trans (setEntry_same _ _ _)).trans (raise_same _ _ _ _)

theorem decideSlot_same (m : MboxNo) (v : Verdict) : SameLanes s (s.decideSlot m v) := {}

theorem countSlotFailure_same (m : MboxNo) : SameLanes s (s.countSlotFailure m) := by
  unfold State.countSlotFailure
  split <;> exact {}

theorem freeSlot_same (m : MboxNo) : SameLanes s (s.freeSlot m) := by
  unfold State.freeSlot State.clearOwner
  split <;> exact {}

theorem ageSlot_same (m : MboxNo) : SameLanes s (s.ageSlot m) := {}

theorem ageSlots_same (ms : List MboxNo) (s : State) : SameLanes s (s.ageSlots ms) := by
  induction ms generalizing s with
  | nil => exact {}
  | cons m ms ih => exact (ageSlot_same s m).trans (ih _)

/-- Requests changed in their places keep their subjects. -/
theorem mapWaiting_same (f : ActRequest → ActRequest) (h : ∀ r, (f r).subject = r.subject) :
    SameLanes s (s.setWaiting (s.waiting.map f)) :=
  setWaiting_same s _ fun r hr c hc => by
    obtain ⟨r', hr', rfl⟩ := List.mem_map.1 hr
    exact ⟨r', hr', (h r').symm.trans hc⟩

/-- A request for an entry joins the waiting ones. -/
theorem addEntryRequest_same (r : ActRequest) {d : EntryNo} (h : r.subject = .entry d) :
    SameLanes s (s.setWaiting (s.waiting ++ [r])) :=
  setWaiting_same s _ fun r' hr' c hc => by
    rcases List.mem_append.1 hr' with hr' | hr'
    · exact ⟨r', hr', hc⟩
    · rw [List.mem_singleton.1 hr', h] at hc
      cases hc

theorem aged_subject (n : Word) (r : ActRequest) : (r.aged n).subject = r.subject := by
  unfold ActRequest.aged
  split <;> rfl

theorem ageRequests_same : SameLanes s s.ageRequests :=
  (mapWaiting_same s _ (aged_subject s.timer.counter)).trans (ageSlots_same _ _)

theorem askCheck_same (m : MboxNo) : SameLanes s (s.askCheck m) := by
  have hadd : ∀ d, SameLanes s (s.updateWaiting (.entry d) fun r =>
      { r with slots := addSlot m r.slots }) := fun d => mapWaiting_same s _ fun r => by
    split <;> rfl
  unfold State.askCheck
  split
  · exact {}
  · split
    · dsimp only
      split
      · exact (hadd _).trans (ageSlot_same _ m)
      · exact hadd _
    · exact addEntryRequest_same s _ rfl

theorem withdrawSlot_same (m : MboxNo) : SameLanes s (s.withdrawSlot m) :=
  setWaiting_same s _ fun r hr c hc => by
    obtain ⟨r', hr', rfl⟩ := List.mem_map.1 (List.mem_of_mem_filter hr)
    exact ⟨r', hr', hc⟩

/-- Lanes changed in their places but for states and subjects. -/
theorem mapLanes_same (f : Lane → Lane) (hstate : ∀ x, (f x).state = x.state)
    (hsubject : ∀ x, (f x).subject = x.subject) :
    SameLanes s { s with lanes := mapTab f s.lanes } :=
  { state := fun l => (congrArg Lane.state (mapTab_get f s.lanes l)).trans (hstate _)
    subject := fun l => (congrArg Lane.subject (mapTab_get f s.lanes l)).trans (hsubject _) }

theorem dropFromExpansions_same (m : MboxNo) : SameLanes s (s.dropFromExpansions m) :=
  mapLanes_same s _ (fun _ => rfl) fun _ => rfl

theorem claimEvent_same (m : MboxNo) (k : Mark) : SameLanes s (s.claimEvent m k) := by
  unfold State.claimEvent
  split <;> exact {}

theorem releaseEvent_same (m : MboxNo) : SameLanes s (s.releaseEvent m) := by
  unfold State.releaseEvent
  dsimp only
  split
  · exact ((countSlotFailure_same s m).trans (freeSlot_same _ m)).trans (place_same _ _ _ _)
  · exact (freeSlot_same s m).trans (place_same _ _ _ _)

theorem goAnswerEvent_same (m : MboxNo) : SameLanes s (s.goAnswerEvent m) :=
  ((setMbox_same s m _).trans (place_same _ _ _ _)).trans (askCheck_same _ m)

theorem mailboxEvent_same (m : MboxNo) : SameLanes s (s.mailboxEvent m) := by
  have hclear : SameLanes s (s.clearMark m) := setMbox_same s m _
  unfold State.mailboxEvent
  split
  · exact {}
  · dsimp only
    generalize s.clearMark m = u at hclear ⊢
    split
    · exact hclear.trans (claimEvent_same _ m _)
    · split
      · exact hclear.trans (releaseEvent_same _ m)
      · exact hclear
    · split <;> exact { hclear with }
    · split <;> exact { hclear with }
    · split
      · exact hclear.trans (goAnswerEvent_same _ m)
      · exact hclear

theorem decideAdmit_same (m : MboxNo) (e : EpNo) (r : RequestWords) :
    SameLanes s (s.decideAdmit m e r) := by
  unfold State.decideAdmit
  split
  · exact {}
  · dsimp only
    split
    · exact {}
    · split
      · exact {}
      · split <;> exact {}

theorem decideResign_same (m : MboxNo) (e : EpNo) : SameLanes s (s.decideResign m e) := by
  unfold State.decideResign
  split
  · exact {}
  · exact (deadmit_same s e _).trans (decideSlot_same _ m _)

theorem requestReturn_same (m : MboxNo) (a : Answer) : SameLanes s (s.requestReturn m a) := by
  have hread := setMbox_same s m { s.mailboxes[m] with selfRead := false }
  unfold State.requestReturn
  dsimp only
  split
  · exact hread
  · split
    · exact hread.trans (decideResign_same _ m _)
    · exact hread.trans (decideAdmit_same _ m _ _)
    · exact hread
    · exact hread.trans (decideSlot_same _ m _)
    · exact hread

theorem answerReturn_same (m : MboxNo) (a : Answer) : SameLanes s (s.answerReturn m a) := by
  have hread := setMbox_same s m { s.mailboxes[m] with selfRead := false }
  unfold State.answerReturn
  dsimp only
  split
  · exact hread
  · split
    · split
      · exact hread.trans (setMbox_same _ m _)
      · exact (hread.trans (setMbox_same _ m _)).trans (askCheck_same _ m)
    · exact ((hread.trans (withdrawSlot_same _ m)).trans (dropFromExpansions_same _ m)).trans
        (decideSlot_same _ m _)
    · exact hread

theorem admitOwner_same (m : MboxNo) (d : EntryNo) (e : EpNo) :
    SameLanes s (s.admitOwner m d e) := by
  have hmoved : SameLanes s (movedState s d e) := by
    unfold movedState
    split
    · exact {}
    · split
      · exact {}
      · exact deadmit_same s _ _
  rw [admitOwner_eq]
  generalize movedState s d e = u at hmoved ⊢
  exact (((hmoved.trans (decideSlot_same u m _)).trans (setEp_same _ e _)).trans
    (setEntry_same _ d _)).trans (raise_same _ _ _ _)

theorem compareSlot_same (d : EntryNo) (m : MboxNo) : SameLanes s (s.compareSlot d m) := by
  unfold State.compareSlot
  dsimp only
  split
  · split
    · exact {}
    · split
      · exact {}
      · split
        · split <;> exact {}
        · split
          · exact {}
          · exact (setEntry_same s d _).trans (admitOwner_same _ m d _)
  · exact {}

theorem compareSlots_same (d : EntryNo) (ms : List MboxNo) (s : State) :
    SameLanes s (s.compareSlots d ms) := by
  induction ms generalizing s with
  | nil => exact {}
  | cons m ms ih => exact (compareSlot_same s d m).trans (ih _)

theorem checkSlot_same (m : MboxNo) (n : Word) : SameLanes s (s.checkSlot m n) := by
  unfold State.checkSlot
  split
  · unfold State.expireSlot
    dsimp only
    split
    · exact ((countSlotFailure_same s m).trans (freeSlot_same _ m)).trans (place_same _ _ _ _)
    · exact (freeSlot_same s m).trans (place_same _ _ _ _)
  · exact {}

theorem passCheck_same (x : Pass) (m : MboxNo) : SameLanes s (s.passCheck x m) :=
  (setTimer_same s _).trans (checkSlot_same _ m _)

theorem checkNext_same : SameLanes s s.checkNext := by
  unfold State.checkNext
  split
  · exact {}
  · exact passCheck_same s _ _

theorem checkExpiry_same : SameLanes s s.checkExpiry := by
  unfold State.checkExpiry
  split
  · exact {}
  · split
    · exact passCheck_same s _ _
    · exact {}

/-! ### Ticks (R122 to R128) -/

theorem expireLocks_same : SameLanes s s.expireLocks := {}

theorem tick_same (e : Instant) : SameLanes s (s.tick e) := by
  unfold State.tick
  split
  · exact (setTimer_same s _).trans (raise_same _ _ _ _)
  · exact { (setTimer_same s _).trans (ageRequests_same _) with }

theorem internalTick_same (e : Instant) : SameLanes s (s.internalTick e) :=
  ((atInstant_same s e).trans (setTimer_same _ _)).trans (tick_same _ e)

theorem guardTick_same (e : Instant) : SameLanes s (s.guardTick e) :=
  (((atInstant_same s e).trans (setTimer_same _ _)).trans (raise_same _ _ _ _)).trans
    (tick_same _ e)

theorem edge_same : SameLanes s s.edge := by
  unfold State.edge
  split
  · dsimp only
    split
    · exact {}
    · exact (setTimer_same s _).trans (tick_same _ _)
    · split
      · exact ((setTimer_same s _).trans (raise_same _ _ _ _)).trans (tick_same _ _)
      · exact (setTimer_same s _).trans (raise_same _ _ _ _)
  · exact {}

theorem internalExpiry_same : SameLanes s s.internalExpiry := by
  unfold State.internalExpiry
  split
  · exact {}
  · exact internalTick_same s _

theorem guardExpiry_same : SameLanes s s.guardExpiry := by
  unfold State.guardExpiry
  split
  · exact {}
  · exact guardTick_same s _

theorem timerEvent_same (cause : TickCause) : SameLanes s (s.timerEvent cause) := by
  cases cause with
  | internalExpiry => exact internalExpiry_same s
  | guardExpiry => exact guardExpiry_same s
  | fsyncEdge t => exact (atInstant_same s t).trans (edge_same _)

theorem tickArmed_same (cause : TickCause) : SameLanes s (s.tickArmed cause) := by
  unfold State.tickArmed
  split
  · exact timerEvent_same s cause
  · exact {}

theorem tickBlanking_same (cause : TickCause) : SameLanes s (s.tickBlanking cause) := by
  unfold State.tickBlanking
  split
  · exact timerEvent_same s cause
  · exact {}

/-! ### The validator and the watched words (chapter 1, R165, R169) -/

theorem makeControls_same (es : List EpNo) (s : State) : SameLanes s (s.makeControls es) := by
  induction es generalizing s with
  | nil => exact {}
  | cons e es ih => exact ((setEp_same s e _).trans (deadmit_same _ e .role)).trans (ih _)

theorem takePlan_same (p : Plan) : SameLanes s (s.takePlan p) := by
  rw [takePlan_eq]
  have htaken : SameLanes s (takenState s p) := {}
  exact ((htaken.trans (removeReservations_same _ _)).trans
    (engineOnly_same (deliver_only _))).trans (makeControls_same _ _)

theorem endValidation_same (a : Answer) : SameLanes s (s.endValidation a) := by
  have houtcome : ∀ (u : State) (o : PlanOutcome), SameLanes u (u.applyOutcome a o) := fun u o => by
    unfold State.applyOutcome
    split
    · exact takePlan_same u _
    · exact {}
  have hrestart : ∀ u : State, SameLanes u u.restartValidation := fun u => by
    unfold State.restartValidation
    split <;> exact {}
  have hended : SameLanes s { s with validator :=
    { s.validator with inFlight := false, count := s.validator.count + 1#16 } } := {}
  exact ((hended.trans (houtcome _ _)).trans (place_same _ _ _ _)).trans (hrestart _)

theorem watchAnswered_same (w : Option Watch) (a : Answer) : SameLanes s (s.watchAnswered w a) := by
  have hevent : ∀ w : Watch, SameLanes s (s.watchEvent w) := fun w => by
    cases w with
    | signature =>
      show SameLanes s s.signatureEvent
      unfold State.signatureEvent
      split <;> exact {}
    | orderCount v =>
      show SameLanes s (s.orderCountEvent v)
      unfold State.orderCountEvent
      split <;> exact {}
    | completionCount v =>
      show SameLanes s (s.completionCountEvent v)
      unfold State.completionCountEvent
      split <;> exact {}
    | mailbox m => exact mailboxEvent_same s m
  have hfailed : ∀ w : Watch, SameLanes s (s.watchFailed w) := fun w => by
    cases w <;> exact {}
  unfold State.watchAnswered
  split
  · exact {}
  · exact hevent _
  · exact hfailed _
  · exact hfailed _

theorem selfWriteAnswer_same (src : SelfSource) (a : Answer) :
    SameLanes s (s.selfWriteAnswer src a) := by
  unfold State.selfWriteAnswer State.selfWriteFault
  split
  · exact {}
  · exact {}
  · split
    · exact {}
    · exact raise_same s _ _ _

end

end Sys2Proof.LanePairs

namespace Sys2Proof.LanePairs

-- Theorems that wait in parallel for the kernel each hold a thread's stack.
set_option Elab.async false

open Sys2Proof Sys2Proof.Machine Sys2Proof.Laws Sys2Proof.Steps Sys2Proof.LaneBank

section

variable (s : State)

/-! ### Requests of calls (R81, R82, R96) -/

theorem setWaiting_kept (w : List ActRequest)
    (h : s.LanesPaired → ∀ r ∈ w, ∀ c, r.subject = .call c → s.calls[c].state = .opened) :
    Kept s (s.setWaiting w) := fun hs => by
  have hw := h hs
  obtain ⟨hpair, hentry, hlane, hfree, -⟩ := hs
  exact ⟨hpair, hentry, hlane, hfree, hw⟩

/-- A request for an OPEN call joins the waiting ones. -/
theorem addRequest_kept (r : ActRequest) {c : CallNo} (h : r.subject = .call c)
    (hc : s.calls[c].state = .opened) : Kept s (s.setWaiting (s.waiting ++ [r])) :=
  setWaiting_kept s _ fun ⟨_, _, _, _, hasked⟩ r' hr' c' hc' => by
    rcases List.mem_append.1 hr' with hr' | hr'
    · exact hasked r' hr' c' hc'
    · rw [List.mem_singleton.1 hr', h] at hc'
      cases hc'
      exact hc

theorem askRekey_kept {c : CallNo} (h : s.calls[c].state = .opened) : Kept s (s.askRekey c) := by
  unfold State.askRekey
  dsimp only
  split
  · exact id
  · split
    · refine SameLanes.kept (mapWaiting_same s _ fun r => ?_)
      split
      · split <;> rfl
      · rfl
    · exact addRequest_kept s _ rfl h

theorem reclass_subject {wants : List CallNo} {r r' : ActRequest}
    (h : s.reclass wants r = some r') : r'.subject = r.subject := by
  unfold State.reclass at h
  split at h
  · cases h; rfl
  · split at h
    · split at h
      · cases h; rfl
      · split at h
        · cases h; rfl
        · cases h
    · split at h <;> cases h <;> rfl
    all_goals cases h; rfl

theorem askVoice_kept (cs : List CallNo) (s : State)
    (h : ∀ c ∈ cs, s.calls[c].state = .opened) : Kept s (s.askVoice cs) := by
  induction cs generalizing s with
  | nil => exact id
  | cons c cs ih =>
    have hrest : ∀ c' ∈ cs, s.calls[c'].state = .opened := fun c' hc' => h c' (.tail c hc')
    unfold State.askVoice
    split
    · exact ih s hrest
    · exact (addRequest_kept s _ rfl (h c (.head cs))).trans (ih _ hrest)

/-- The calls that want a VOICE activation are OPEN (R27, R81). -/
theorem voiceWants_open {c : CallNo} (h : c ∈ s.voiceWants) : s.calls[c].state = .opened := by
  obtain ⟨a, -, ha⟩ := List.mem_filterMap.1 h
  split at ha
  · cases ha
  · rename_i c' hc'
    split at ha
    · cases ha
      exact ((Holding.memberCall_iff s a c).1 hc').2.2.1
    · cases ha

theorem voiceUpkeep_kept : Kept s s.voiceUpkeep := by
  have hreclass := setWaiting_same s (s.waiting.filterMap (s.reclass s.voiceWants))
    fun r hr c hc => by
      obtain ⟨r', hr', hrr'⟩ := List.mem_filterMap.1 hr
      exact ⟨r', hr', (reclass_subject s hrr').symm.trans hc⟩
  exact hreclass.kept.trans (askVoice_kept _ _ fun c hc => voiceWants_open s hc)

/-! ### Activations (R89 to R93) -/

/-- A lane that no call has goes EMPTY (R92, R93). -/
theorem emptyLane_kept (l : LaneNo) (h : ∀ c, s.lanes[l].subject ≠ some (.call c)) :
    Kept s (s.setLane l s.lanes[l].emptied) := by
  intro ⟨hpair, hentry, hlane, hfree, hasked⟩
  have hsubject : ∀ k x, (s.setLane l s.lanes[l].emptied).lanes[k].subject = some x →
      k ≠ l ∧ s.lanes[k].subject = some x := fun k x hk => by
    rw [setLane_get] at hk
    split at hk
    · cases hk
    · exact ⟨‹_›, hk⟩
  refine ⟨fun c k => ?_, fun d k k' hk hk' => ?_, fun k => ?_, hfree, hasked⟩
  · refine (hpair c k).trans ⟨fun hk => ?_, fun hk => (hsubject k _ hk).2⟩
    rw [setLane_get_ne _ _ (by rintro rfl; exact h c hk)]
    exact hk
  · exact hentry d k k' (hsubject k _ hk).2 (hsubject k' _ hk').2
  · rw [setLane_get]
    split
    · exact ⟨fun _ => rfl, nofun, nofun⟩
    · exact hlane k

/-- A call's lane takes a state other than EMPTY (R90, R92). -/
theorem setLaneState_kept {l : LaneNo} {c : CallNo} (x : Lane)
    (h : s.lanes[l].subject = some (.call c)) (hx : x.subject = some (.call c))
    (hstate : x.state ≠ .empty) : Kept s (s.setLane l x) := by
  intro ⟨hpair, hentry, hlane, hfree, hasked⟩
  have hsubject := field_set Lane.subject s.lanes l x (hx.trans h.symm)
  have hsubject' : ∀ k : LaneNo, (s.setLane l x).lanes[k].subject = s.lanes[k].subject := hsubject
  refine ⟨fun c k => ?_, fun d k k' => ?_, fun k => ?_, hfree, hasked⟩
  · rw [hsubject']; exact hpair c k
  · rw [hsubject', hsubject']; exact hentry d k k'
  · rw [setLane_get]
    split
    · exact ⟨fun he => absurd he hstate, fun _ => ⟨c, hx⟩, fun d hd => by rw [hx] at hd; cases hd⟩
    · exact hlane k

theorem derive_same (c : CallNo) : SameLanes s (s.derive_ c) := by
  unfold State.derive_
  split
  · exact setCall_same s c _
  all_goals exact {}

theorem derive_lanes (c : CallNo) : (s.derive_ c).lanes = s.lanes := by
  unfold State.derive_
  split <;> rfl

theorem completeCall_kept (l : LaneNo) (x : Expansion) : Kept s (s.completeCall l x) := by
  unfold State.completeCall
  split
  · rename_i h
    exact emptyLane_kept s l (by rw [h]; nofun)
  · exact id
  · rename_i c h
    dsimp only
    split
    · have h' : (s.derive_ c).lanes[l].subject = some (.call c) := by rwa [derive_lanes]
      exact (derive_same s c).kept.trans (setLaneState_kept _ _ h' h' nofun)
    · exact setLaneState_kept s _ h h nofun

theorem completeCallLane_kept (l : LaneNo) : Kept s (s.completeCallLane l) := by
  unfold State.completeCallLane
  split
  · exact (atInstant_same s _).kept.trans (completeCall_kept _ _ _)
  · exact (atInstant_same s _).kept.trans (completeCall_kept _ _ _)
  · exact id

theorem completeEntryLane_kept (l : LaneNo) : Kept s (s.completeEntryLane l) := by
  unfold State.completeEntryLane
  split
  · rename_i d x _ hsubject _
    have hcompared := (atInstant_same s x.finish).trans (compareSlots_same d x.slots _)
    refine hcompared.kept.trans (emptyLane_kept _ l fun c hc => ?_)
    rw [hcompared.subject, hsubject] at hc
    cases hc
  · exact id

/-- A start in place leaves the lane its call (R91). -/
theorem start_inPlace_kept {r : ActRequest} {l : LaneNo} (h : s.startLane r = some (l, true)) :
    Kept s (s.start r l true) := by
  obtain ⟨c, -, hc, -⟩ := startLane_inPlace_iff.1 h
  intro hs
  have hwithdrawn : SameLanes s { s with
    waiting := s.waiting.filter fun r' => r'.subject ≠ r.subject
    starts := addStart s.starts s.now } :=
    { asked := fun r' hr' c _ => ⟨r', List.mem_of_mem_filter hr', by assumption⟩ }
  have hsubject := (hs.1 c l).1 hc
  rw [start_inPlace]
  exact hwithdrawn.kept.trans
    (setLaneState_kept _ { s.lanes[l] with
      state := .expanding, expansion := some (begun s r) } hsubject hsubject nofun) hs

/-- A start on a new lane takes it from the call that had it, and gives it to a subject that had none
(R89, R90). -/
theorem start_taken_kept {r : ActRequest} {l : LaneNo} (h : s.startLane r = some (l, false))
    (hr : r ∈ s.waiting) : Kept s (s.start r l false) := by
  obtain ⟨hidle, hnone, -⟩ := startLane_taken_iff.1 h
  intro ⟨hpair, hentry, hlane, hfree, hasked⟩
  have hcalls := start_taken_calls s r l
  have hwait : ∀ r' ∈ (s.start r l false).waiting, r' ∈ s.waiting := by
    rw [start_taken_only]
    exact fun r' => List.mem_of_mem_filter
  have hself : (s.start r l false).lanes[l] = taken s r s.lanes[l] := by
    rw [start_taken_only]
    exact setLane_get_self s l _
  have hother : ∀ k : LaneNo, k ≠ l → (s.start r l false).lanes[k] = s.lanes[k] := fun k hk => by
    rw [start_taken_only]
    exact setLane_get_ne s _ hk
  have hstate : ∀ c : CallNo, (s.start r l false).calls[c].state = s.calls[c].state := fun c => by
    rw [hcalls]
  have hentries : ∀ (d : EntryNo) (k : LaneNo), r.subject = .entry d →
      s.lanes[k].subject ≠ some (.entry d) := fun d k hd hk =>
    hidle k ⟨(hlane k).2.2 d hk, hd ▸ hk⟩
  refine ⟨fun c k => ?_, fun d k k' hk hk' => ?_, fun k => ?_, fun c hc => ?_, fun r' hr' c hc => ?_⟩
  · rw [hcalls]
    by_cases hk : k = l
    · subst hk
      rw [hself]
      show (if _ then _ else _) = some k ↔ some r.subject = some (.call c)
      rw [Option.some.injEq]
      split
      · exact iff_of_true rfl ‹_›
      · rename_i hne
        refine iff_of_false (fun hlost => ?_) hne
        split at hlost
        · cases hlost
        · exact absurd ((hpair c k).1 hlost) ‹_›
    · rw [hother k hk]
      show (if _ then _ else _) = some k ↔ s.lanes[k].subject = some (.call c)
      split
      · rename_i hc
        rw [← hpair, hnone c hc]
        exact iff_of_false (fun h => hk (Option.some.inj h).symm) nofun
      · split
        · rename_i hlost
          rw [← hpair, (hpair c l).2 hlost]
          exact iff_of_false nofun fun h => hk (Option.some.inj h).symm
        · exact hpair c k
  · by_cases hkl : k = l
    · by_cases hkl' : k' = l
      · exact hkl.trans hkl'.symm
      · subst hkl
        rw [hself] at hk
        rw [hother k' hkl'] at hk'
        exact absurd hk' (hentries d k' (Option.some.inj hk))
    · rw [hother k hkl] at hk
      by_cases hkl' : k' = l
      · subst hkl'
        rw [hself] at hk'
        exact absurd hk (hentries d k (Option.some.inj hk'))
      · rw [hother k' hkl'] at hk'
        exact hentry d k k' hk hk'
  · by_cases hk : k = l
    · subst hk
      rw [hself]
      exact ⟨nofun, nofun, fun _ _ => rfl⟩
    · rw [hother k hk]
      exact hlane k
  · have hfree' := (hstate c).symm.trans hc
    rw [hcalls]
    show (if _ then _ else _) = none
    split
    · rename_i hrc
      have hopen := hasked r hr c hrc
      rw [hfree'] at hopen
      cases hopen
    · split
      · rfl
      · exact hfree c hfree'
  · exact (hstate c).trans (hasked r' (hwait r' hr') c hc)

theorem grantAll_kept : Kept s s.grantAll := fun hs =>
  grantN_induction _ s hs fun u r l b hu hr hl => by
    cases b with
    | true => exact start_inPlace_kept u hl hu
    | false => exact start_taken_kept u hl (nextGrant_first u r hr).1 hu

end

end Sys2Proof.LanePairs

namespace Sys2Proof.LanePairs

-- Theorems that wait in parallel for the kernel each hold a thread's stack.
set_option Elab.async false

open Sys2Proof Sys2Proof.Machine Sys2Proof.Laws Sys2Proof.Steps Sys2Proof.Pairs

section

variable (s : State)

/-! ### Calls (chapter 6) -/

/-- A FREE call opens with no lane (R103). -/
theorem openCall_kept {c : CallNo} {x : Call} (h : s.calls[c].state = .free) (hx : x.lane = none)
    (hopen : x.state = .opened) : Kept s (s.setCall c x) := by
  intro ⟨hpair, hentry, hlane, hfree, hasked⟩
  have hsame := field_set Call.lane s.calls c x (hx.trans (hfree c h).symm)
  refine ⟨fun c' l => ?_, hentry, hlane, fun c' hc' => ?_, fun r hr c' hc' => ?_⟩
  · exact (Eq.congr_left (hsame c')).trans (hpair c' l)
  · refine (hsame c').trans (hfree c' ?_)
    rw [setCall_get] at hc'
    split at hc'
    · rw [hopen] at hc'; cases hc'
    · exact hc'
  · rw [setCall_get]
    split
    · exact hopen
    · exact hasked r hr c' hc'

/-- A call that goes CLOSING keeps its lane and loses its waiting request (R110, R96). -/
theorem goClosing_kept (c : CallNo) : Kept s (s.goClosing c) := by
  intro ⟨hpair, hentry, hlane, hfree, hasked⟩
  have hsame := field_set Call.lane s.calls c { s.calls[c] with state := .closing } rfl
  have hcalls : ∀ c' : CallNo, (s.goClosing c).calls[c'] = if c' = c then
      { s.calls[c] with state := .closing } else s.calls[c'] := fun c' => setCall_get s c c' _
  refine ⟨fun c' l => ?_, hentry, hlane, fun c' hc' => ?_, fun r hr c' hc' => ?_⟩
  · exact (Eq.congr_left (hsame c')).trans (hpair c' l)
  · refine (hsame c').trans (hfree c' ?_)
    rw [hcalls] at hc'
    split at hc'
    · cases hc'
    · exact hc'
  · obtain ⟨hr, hne⟩ := List.mem_filter.1 hr
    rw [hcalls, if_neg]
    · exact hasked r hr c' hc'
    · rintro rfl
      exact of_decide_eq_true hne hc'

theorem closeIfEmptied_kept (c : CallNo) : Kept s (s.closeIfEmptied c) := by
  unfold State.closeIfEmptied
  split
  · exact (goClosing_kept s c).same (raise_same _ _ _ _)
  · exact id

theorem leave_same (c : CallNo) (e : EpNo) (r : RingNo) : SameLanes s (s.leave c e r) := by
  rw [Bounds.leave_only]
  exact { setCall_same s c { s.calls[c] with
    members := s.calls[c].members.filter fun m => m.ep ≠ e } with }

theorem join_same (c : CallNo) (e : EpNo) (r : RingNo) : SameLanes s (s.join c e r) :=
  { setCall_same s c { s.calls[c] with
    members := s.calls[c].members ++ [{ ep := e, ring := r }] } with }

theorem joinAll_same (c : CallNo) (ms : List (EpNo × RingNo)) (s : State) :
    SameLanes s (s.joinAll c ms) := by
  induction ms generalizing s with
  | nil => exact {}
  | cons m ms ih => exact (join_same s c m.1 m.2).trans (ih _)

theorem removeMember_kept (c : CallNo) (e : EpNo) : Kept s (s.removeMember c e) := by
  unfold State.removeMember
  split
  · exact id
  · exact (leave_same s c e _).kept.trans (closeIfEmptied_kept _ c)

/-- What the lane of a call that goes FREE comes to: its own lane has no subject and is not READY, and
every other lane is as it was (R96). -/
theorem released_lane {u : State} {c : CallNo} (h : s.LanesPaired)
    (hu : CloseOrders.Released s.calls[c].lane s.lanes u.lanes) (l : LaneNo) :
    s.lanes[l].subject ≠ some (.call c) ∧ u.lanes[l] = s.lanes[l]
      ∨ s.lanes[l].subject = some (.call c) ∧ u.lanes[l].subject = none
        ∧ u.lanes[l].state ≠ .ready := by
  obtain ⟨hpair, -, hlane, -, -⟩ := h
  cases hk : s.calls[c].lane with
  | none =>
    refine .inl ⟨fun hl => ?_, by rw [hu.noLane hk]⟩
    rw [(hpair c l).2 hl] at hk
    cases hk
  | some k =>
    have hsubject := (hpair c k).1 hk
    have hset : ∀ x : Lane, x.subject = none → x.state ≠ .ready → u.lanes = s.lanes.set k x →
        s.lanes[l].subject ≠ some (.call c) ∧ u.lanes[l] = s.lanes[l]
        ∨ s.lanes[l].subject = some (.call c) ∧ u.lanes[l].subject = none
          ∧ u.lanes[l].state ≠ .ready := fun x hx hready hlanes => by
      have hget : u.lanes[l] = if l = k then x else s.lanes[l] :=
        (congrArg (fun v : Vector Lane 8 => v[l]) hlanes).trans (setLane_get s k l x)
      by_cases hl : l = k
      · rw [hget, if_pos hl]
        exact .inr ⟨hl ▸ hsubject, hx, hready⟩
      · rw [hget, if_neg hl]
        refine .inl ⟨fun hl' => hl ?_, rfl⟩
        exact Option.some.inj (((hpair c l).2 hl').symm.trans hk)
    cases hstate : s.lanes[k].state with
    | empty => rw [(hlane k).1 hstate] at hsubject; cases hsubject
    | ready => exact hset _ rfl (show LaneState.empty ≠ .ready by decide) (hu.ready k hk hstate)
    | expanding =>
      refine hset _ rfl ?_ (hu.expanding k hk hstate)
      rw [hstate]
      nofun

/-- A CLOSING call goes FREE without a lane (R96, R111). -/
theorem freeCall_kept {c : CallNo} (hc : s.calls[c].state = .closing) : Kept s (s.freeCall c) := by
  intro hs
  have hfreed := CloseOrders.freeCall_freed s c
  have hreleased := released_lane s hs hfreed.lanes
  have hcalls : ∀ c' : CallNo, (s.freeCall c).calls[c'] =
      if c' = c then Call.free else s.calls[c'] := fun c' => by
    rw [hfreed.calls]
    exact setCall_get s c c' _
  have hwaiting : (s.freeCall c).waiting = s.waiting := by rw [hfreed.only]
  generalize s.freeCall c = u at hreleased hcalls hwaiting
  obtain ⟨hpair, hentry, hlane, hfree, hasked⟩ := hs
  have hkeeps : ∀ (l : LaneNo) (d : EntryNo), u.lanes[l].subject = some (.entry d) →
      u.lanes[l] = s.lanes[l] := fun l d hl => by
    rcases hreleased l with ⟨-, h⟩ | ⟨-, h, -⟩
    · exact h
    · rw [h] at hl; cases hl
  refine ⟨fun c' l => ?_, fun d l l' hl hl' => ?_, fun l => ?_, fun c' hc' => ?_, fun r hr c' hc' => ?_⟩
  · rw [hcalls]
    by_cases hcc : c' = c
    · subst hcc
      rw [if_pos rfl]
      refine iff_of_false nofun fun hl => ?_
      rcases hreleased l with ⟨hne, h⟩ | ⟨-, h, -⟩
      · exact hne (h ▸ hl)
      · rw [h] at hl; cases hl
    · rw [if_neg hcc, hpair]
      rcases hreleased l with ⟨-, h⟩ | ⟨hl, h, -⟩
      · rw [h]
      · rw [h, hl]
        exact iff_of_false (fun h => hcc (Subject.call.inj (Option.some.inj h)).symm) nofun
  · rw [hkeeps l d hl] at hl
    rw [hkeeps l' d hl'] at hl'
    exact hentry d l l' hl hl'
  · rcases hreleased l with ⟨-, h⟩ | ⟨-, h, hready⟩
    · rw [h]
      exact hlane l
    · exact ⟨fun _ => h, fun hr => absurd hr hready, fun d hd => by rw [h] at hd; cases hd⟩
  · rw [hcalls] at hc' ⊢
    split
    · rfl
    · exact hfree c' (by rwa [if_neg ‹_›] at hc')
  · rw [hwaiting] at hr
    have hopen := hasked r hr c' hc'
    rw [hcalls, if_neg]
    · exact hopen
    · rintro rfl
      rw [hc] at hopen
      cases hopen

theorem endClose_kept (c : CallNo) : Kept s (s.endClose c) := by
  unfold State.endClose
  split
  · rename_i h
    exact freeCall_kept s (CloseOrders.closeReady_iff.1 h).1
  · exact id

theorem endCloses_kept (cs : List CallNo) (s : State) : Kept s (s.endCloses cs) := by
  induction cs generalizing s with
  | nil => exact id
  | cons c cs ih => exact (endClose_kept s c).trans (ih _)

/-! ### Visits (R105 to R107, R113 to R117) -/

theorem applyAdd_same (c : CallNo) (w : Switch) : SameLanes s (s.applyAdd c w) := by
  unfold State.applyAdd
  split
  · exact (join_same s c w.ep _).trans (writeCompletion_same _ _ _ _ _)
  · exact writeCompletion_same s _ _ _ _
  · exact writeCompletion_same s _ _ _ _

theorem applyDrop_kept (c : CallNo) (w : Switch) : Kept s (s.applyDrop c w) := by
  unfold State.applyDrop
  split
  · exact SameLanes.kept (writeCompletion_same s _ _ _ _)
  · exact ((leave_same s c w.ep _).trans (writeCompletion_same _ _ _ _ _)).kept.trans
      (closeIfEmptied_kept _ c)

theorem applySwitches_kept (ws : List Switch) (c : CallNo) (s : State) :
    Kept s (State.applySwitches ws c s) := by
  induction ws generalizing s with
  | nil => exact id
  | cons w ws ih =>
    unfold State.applySwitches
    split
    · have hset := setCall_same s c { s.calls[c] with switches := ws }
      dsimp only
      split
      · exact (hset.trans (applyAdd_same _ c w)).kept.trans (ih _)
      · exact (hset.kept.trans (applyDrop_kept _ c w)).trans (ih _)
    · exact id

theorem step12_lane (x : Call) (n : Nat) : (x.step12 n).lane = x.lane := by
  have hretire : ∀ y : Call, y.retire.lane = y.lane := fun y => by
    unfold Call.retire
    split
    · rfl
    · split <;> rfl
  have hadvance : ∀ y : Call, (y.advance n).lane = y.lane := fun y => by
    unfold Call.advance
    split <;> rfl
  exact (hadvance _).trans (hretire _)

theorem step12_same (c : CallNo) (n : Nat) : SameLanes s (s.setCall c (s.calls[c].step12 n)) := by
  obtain ⟨hadvance, -⟩ := advance_pairs
    ({ s.calls[c] with frame := s.calls[c].frame + 1#32 } : Call).retire n
  obtain ⟨hretire, -⟩ := retire_pairs { s.calls[c] with frame := s.calls[c].frame + 1#32 }
  exact setCall_same s c _ (hadvance.trans hretire) (step12_lane _ n)

theorem syncLane_same (c : CallNo) : SameLanes s (s.syncLane c) := by
  unfold State.syncLane
  split
  · exact {}
  · exact setLane_same s _ _

theorem openSlots_same (f : Word) (n : Half) (ms : List Member) (s : State) :
    SameLanes s (s.openSlots f n ms) := by
  induction ms generalizing s with
  | nil => exact {}
  | cons m ms ih => exact (setRing_same s _ _).trans (ih _)

theorem examine_same (f : Word) (ms : List Member) (s : State) : SameLanes s (s.examine f ms) := by
  induction ms generalizing s with
  | nil => exact {}
  | cons m ms ih =>
    unfold State.examine
    split
    · exact (setEp_same s _ _).trans (ih _)
    · exact ih s

theorem rekeyWork_kept {c : CallNo} (h : s.calls[c].state = .opened) (advanced : Bool) :
    Kept s (s.rekeyWork c advanced) := by
  have hask : ∀ x : Call, x.state = s.calls[c].state → x.lane = s.calls[c].lane →
      Kept s (if x.rekeyDue && x.next.isNone then
        ((s.setCall c x).setCall c { x with debt := satSucc 8 x.debt }).askRekey c
      else s.setCall c x) := fun x hstate hlane => by
    have hset := setCall_same s c x hstate hlane
    split
    · rw [Restart.setCall_setCall]
      refine (setCall_same s c { x with debt := satSucc 8 x.debt } hstate hlane).kept.trans
        (askRekey_kept _ ?_)
      rw [setCall_get_self]
      exact hstate.trans h
    · exact hset.kept
  unfold State.rekeyWork
  cases advanced
  · exact hask _ rfl rfl
  · exact hask _ rfl rfl

theorem visitCall_kept (c : CallNo) : Kept s (s.visitCall c) := by
  unfold State.visitCall
  have hopened := (step12_same s c s.thePlan.rekeyInterval).trans (syncLane_same _ c)
  generalize (s.setCall c (s.calls[c].step12 s.thePlan.rekeyInterval)).syncLane c = u at hopened ⊢
  have hexamined := (hopened.trans (openSlots_same u.calls[c].frame u.calls[c].epoch
    u.calls[c].members u)).trans (examine_same (u.calls[c].frame - 2#32) u.calls[c].members _)
  dsimp only
  generalize (u.openSlots u.calls[c].frame u.calls[c].epoch u.calls[c].members).examine
    (u.calls[c].frame - 2#32) u.calls[c].members = v at hexamined ⊢
  have hswitched := hexamined.kept.trans (applySwitches_kept v.calls[c].switches c v)
  split
  · exact hswitched.trans (rekeyWork_kept _ ‹_› _)
  · exact hswitched

theorem passVisit_kept (x : Pass) (c : CallNo) : Kept s (s.passVisit x c) :=
  (setTimer_same s _).kept.trans (visitCall_kept _ c)

theorem visitNext_kept : Kept s s.visitNext := by
  unfold State.visitNext
  split
  · exact id
  · exact passVisit_kept s _ _

theorem visitRekey_kept : Kept s s.visitRekey := by
  unfold State.visitRekey
  split
  · exact id
  · split
    · exact passVisit_kept s _ _
    · exact id

/-! ### Orders (chapter 9) -/

theorem openCallCheck_free {c : CallNo} {es : List EpNo} (h : s.openCallCheck c es = none) :
    s.calls[c].state = .free := by
  unfold State.openCallCheck at h
  split at h
  · cases h
  · rename_i hfree
    exact (Restart.isFree_iff _).1 (by simpa [-Fin.getElem_fin] using hfree)

theorem doOpenCall_kept (q : Half) (c : CallNo) (es : List EpNo) (key : Key) (level : Fin 8) :
    Kept s (s.doOpenCall q c es key level) := by
  unfold State.doOpenCall
  split
  · exact SameLanes.kept (finish_same s _)
  · rename_i h
    exact ((openCall_kept s (openCallCheck_free s h) rfl rfl).same (joinAll_same c _ _)).same
      (finish_same _ _)

theorem doSwitch_same (q : Half) (b : Bool) (c : CallNo) (e : EpNo) :
    SameLanes s (s.doSwitch q b c e) := by
  unfold State.doSwitch
  split
  · exact finish_same s _
  · split
    · exact finish_same s _
    · exact (setCall_same s c _).trans (setEngine_same _ _)

theorem doCloseCall_kept (q : Half) (c : CallNo) : Kept s (s.doCloseCall q c) := by
  unfold State.doCloseCall
  split
  · exact SameLanes.kept (finish_same s _)
  · exact ((setCall_same s c _).kept.trans (goClosing_kept _ c)).same (setEngine_same _ _)

theorem doRekeyNow_same (q : Half) (c : CallNo) (level : Option (Fin 8)) :
    SameLanes s (s.doRekeyNow q c level) := by
  unfold State.doRekeyNow
  split
  · exact finish_same s _
  · exact (setCall_same s c _).trans (finish_same _ _)

theorem doSetTiming_same (q : Half) (code : Byte) (period : Nat) :
    SameLanes s (s.doSetTiming q code period) := by
  unfold State.doSetTiming
  split
  · exact finish_same s _
  · split
    · exact finish_same s _
    · split
      · exact {}
      all_goals exact finish_same s _

theorem doSetEndpoint_same (q n : Half) (role : Role) (bigEndian : Bool) :
    SameLanes s (s.doSetEndpoint q n role bigEndian) := by
  unfold State.doSetEndpoint
  dsimp only
  split
  · exact finish_same s _
  · split
    · exact finish_same s _
    · split
      · exact finish_same s _
      · split
        · exact finish_same s _
        · generalize (if role = .trunk then bigEndian else _) = order
          split
          · exact ((setEp_same s _ _).trans (deadmit_same _ _ _)).trans (finish_same _ _)
          · exact finish_same s _

theorem doSetDirectory_same (q n : Half) (enabled : Bool) (number : Nat) (secret : Key) :
    SameLanes s (s.doSetDirectory q n enabled number secret) := by
  unfold State.doSetDirectory
  dsimp only
  split
  · exact finish_same s _
  · split
    · exact finish_same s _
    · split
      · exact finish_same s _
      · split
        · exact (setEntry_same s _ _).trans (finish_same _ _)
        · exact ((setEntry_same s _ _).trans (deadmit_same _ _ _)).trans (finish_same _ _)

theorem doRevoke_kept (q n : Half) : Kept s (s.doRevoke q n) := by
  unfold State.doRevoke
  dsimp only
  split
  · exact SameLanes.kept (finish_same s _)
  · split
    · exact SameLanes.kept ((deadmit_same s _ _).trans (finish_same _ _))
    · exact ((deadmit_same s _ _).kept.trans (removeMember_kept _ _ _)).same (finish_same _ _)

theorem doUnlock_same (q n : Half) : SameLanes s (s.doUnlock q n) := by
  unfold State.doUnlock
  dsimp only
  split
  · exact finish_same s _
  · exact (setEntry_same s _ _).trans (finish_same _ _)

theorem doReport_same (q : Half) (code : Byte) (first count buffer : Nat) :
    SameLanes s (s.doReport q code first count buffer) := by
  unfold State.doReport
  split
  · exact finish_same s _
  · split
    · exact (setEngine_same s _).trans (engineOnly_same (placeReport_only _))
    · exact finish_same s _

theorem restarted_subject (x : Lane) : x.restarted.state = x.state ∧ x.restarted.subject = x.subject := by
  unfold Lane.restarted
  split <;> exact ⟨rfl, rfl⟩

/-- RESTART closes the calls that are OPEN, withdraws their requests and leaves their lanes (R8, R97). -/
theorem doRestart_kept (q : Half) : Kept s (s.doRestart q) := by
  intro ⟨hpair, hentry, hlane, hfree, hasked⟩
  have hstate : ∀ l : LaneNo, (s.doRestart q).lanes[l].state = s.lanes[l].state := fun l => by
    rw [Restart.doRestart_lane]
    exact (restarted_subject _).1
  have hsubject : ∀ l : LaneNo, (s.doRestart q).lanes[l].subject = s.lanes[l].subject := fun l => by
    rw [Restart.doRestart_lane]
    exact (restarted_subject _).2
  have hcall : ∀ c : CallNo, (s.doRestart q).calls[c].lane = s.calls[c].lane := fun c => by
    rw [Restart.doRestart_call]
    split <;> rfl
  refine ⟨fun c l => ?_, fun d l l' => ?_, fun l => ?_, fun c hc => ?_, fun r hr c hc => ?_⟩
  · rw [hcall, hsubject]; exact hpair c l
  · rw [hsubject, hsubject]; exact hentry d l l'
  · rw [hstate, hsubject]; exact hlane l
  · rw [hcall]
    refine hfree c ?_
    by_contra hne
    rw [Restart.doRestart_call, if_pos hne] at hc
    simp only [Restart.restartedCall] at hc
    split at hc
    · cases hc
    · exact hne hc
  · obtain ⟨hr', c', hc', hclosed⟩ := (Restart.doRestart_waiting s q r).1 hr
    exact absurd (hasked r hr' c' hc') hclosed

theorem execute_kept (q : Half) (o : Order) : Kept s (s.execute q o) := by
  have hbad : Kept s (s.badOrder q) := SameLanes.kept (finish_same s _)
  cases o with
  | unknown kind => exact hbad
  | openCall call count level e0 e1 e2 e3 key =>
    simp only [State.execute]
    split
    · exact hbad
    · exact doOpenCall_kept s q _ _ _ _
  | addMember call ep =>
    simp only [State.execute]
    split
    · exact SameLanes.kept (doSwitch_same s q true _ _)
    · exact hbad
  | dropMember call ep =>
    simp only [State.execute]
    split
    · exact SameLanes.kept (doSwitch_same s q false _ _)
    · exact hbad
  | closeCall call =>
    simp only [State.execute]
    split
    · exact doCloseCall_kept s q _
    · exact hbad
  | rekeyNow call level =>
    simp only [State.execute]
    split
    · exact SameLanes.kept (doRekeyNow_same s q _ _)
    · exact hbad
  | setTiming source period => exact SameLanes.kept (doSetTiming_same s q source period.toNat)
  | setEndpoint ep role order =>
    simp only [State.execute]
    split
    · exact hbad
    · split
      · exact hbad
      · exact SameLanes.kept (doSetEndpoint_same s q ep _ _)
  | setDirectory index enabled number secret =>
    simp only [State.execute]
    split
    · exact hbad
    · exact SameLanes.kept (doSetDirectory_same s q index _ _ secret)
  | revoke ep => exact doRevoke_kept s q ep
  | unlock index => exact SameLanes.kept (doUnlock_same s q index)
  | report kind first count buffer =>
    exact SameLanes.kept (doReport_same s q kind first.toNat count.toNat buffer.toNat)
  | restart => exact doRestart_kept s q

theorem fetchReturn_kept (o : Order) : Kept s (s.fetchReturn o) := by
  unfold State.fetchReturn
  split
  · exact id
  · exact (engineOnly_same (countConsumed_only s)).kept.trans (execute_kept _ _ o)

theorem returnOrder_kept (o : Order) : Kept s (s.returnOrder o) := by
  unfold State.returnOrder
  split
  · exact id
  · exact (setPort_same s _).kept.trans (fetchReturn_kept _ o)

theorem returnUnknown_kept (kind : Byte) : Kept s (s.returnUnknown kind) := by
  unfold State.returnUnknown
  split
  · exact id
  · exact returnOrder_kept s _

/-! ### Memory's answers (R36) -/

theorem selfAnswer_kept (src : SelfSource) (a : Answer) : Kept s (s.selfAnswer src a) := by
  cases src with
  | anchorRead => exact SameLanes.kept (endValidation_same s a)
  | orderFetch =>
    cases a with
    | ok ws => exact fetchReturn_kept s _
    | notReserved => exact id
    | fault =>
      show Kept s s.fetchFault
      unfold State.fetchFault
      split
      · exact id
      · exact SameLanes.kept ((engineOnly_same (countConsumed_only s)).trans (finish_same _ _))
  | completionEntry kind restart =>
    show Kept s (s.entryAnswer kind restart a)
    unfold State.entryAnswer
    split
    · exact SameLanes.kept {}
    · split
      · exact id
      · exact SameLanes.kept (selfWriteAnswer_same s _ a)
  | report => exact SameLanes.kept (engineOnly_same (reportAnswer_only s _))
  | requestRead m => exact SameLanes.kept (requestReturn_same s m a)
  | answerRead m => exact SameLanes.kept (answerReturn_same s m a)
  | _ => exact SameLanes.kept (selfWriteAnswer_same s _ a)

theorem answerAt_kept (i : Nat) (a : Answer) : Kept s (s.answerAt i a) := by
  unfold State.answerAt
  split
  · exact id
  · split
    · unfold State.answerWith
      dsimp only
      split
      · exact SameLanes.kept
          (((setPort_same s _).trans (respond_same _ _ _)).trans (watchAnswered_same _ _ a))
      · exact SameLanes.kept ((setPort_same s _).trans (pieceAnswer_same _ _ _ a))
      · exact (setPort_same s _).kept.trans (selfAnswer_kept _ _ a)
    · exact id

theorem answerSelf_kept (src : SelfSource) (a : Answer) : Kept s (s.answerSelf src a) := by
  unfold State.answerSelf
  split
  · exact id
  · exact answerAt_kept s _ a

theorem answerRestart_kept (a : Answer) : Kept s (s.answerRestart a) := by
  unfold State.answerRestart
  split
  · exact id
  · exact answerAt_kept s _ a

theorem answerMark_kept (i : Nat) (k : MarkKind) : Kept s (s.answerMark i k) := by
  unfold State.answerMark
  split
  · exact answerAt_kept s i _
  · exact id

theorem answerSignature_kept (i : Nat) : Kept s (s.answerSignature i) := by
  unfold State.answerSignature
  split
  · exact answerAt_kept s i _
  · exact id

theorem answerOrderCount_kept (i : Nat) : Kept s (s.answerOrderCount i) := by
  unfold State.answerOrderCount
  split
  · exact answerAt_kept s i _
  all_goals exact id

theorem answerCompletionCount_kept (i : Nat) : Kept s (s.answerCompletionCount i) := by
  unfold State.answerCompletionCount
  split
  · exact answerAt_kept s i _
  all_goals exact id

/-! ### The work of an event at that event -/

theorem settleRings_kept : Kept s s.settleRings := by
  have hwritten := engineOnly_same
    (((placeWaiting_only s).trans (deliver_only _)).trans (writeHeld_only _))
  unfold State.settleRings
  exact ((((hwritten.kept.trans (endCloses_kept _ _)).same (writeTimingDone_same _)).same
    (engineOnly_same (endDraining_only _))).same (engineOnly_same (startFetch_only _))).same
      (endPass_same _)

theorem settle_kept : Kept s s.settle :=
  (((((settleRings_kept s).same (retestArrival_same _)).trans (voiceUpkeep_kept _)).trans
    (grantAll_kept _)).same (retestArrival_same _)).same (setAlert_same _ _)

theorem Kept.settled {s u : State} (h : Kept s u) : Kept s u.settle := h.trans (settle_kept u)

/-- An event at an instant, and the work it brings about. -/
theorem Kept.event {s u : State} {t : Instant} (h : Kept (s.atInstant t) u) : Kept s u.settle :=
  ((atInstant_same s t).kept.trans h).settled

theorem SameLanes.event {s u : State} {t : Instant} (h : SameLanes (s.atInstant t) u) :
    Kept s u.settle := Kept.event h.kept

end

/-! ### Commands -/

/-- Every command but those of the reset pin keeps the pairs of calls and lanes. -/
theorem exec_kept {c : Instr} (hc : resets c = false) (s : State) :
    ∃ u, exec c s = .next u ∧ Kept s u := by
  cases c with
  | hardReset => cases hc
  | resetNRise a b => cases hc
  | read t ep addr len => exact ⟨_, rfl, (offer_same _ _).event⟩
  | write t ep addr data => exact ⟨_, rfl, (offer_same _ _).event⟩
  | readReserve t ep addr len => exact ⟨_, rfl, (offer_same _ _).event⟩
  | writeIfReserved t ep addr data => exact ⟨_, rfl, (offer_same _ _).event⟩
  | transformEntry t => exact ⟨_, rfl, (transformNext_same _).event⟩
  | downstreamGrant t => exact ⟨_, rfl, (grantDown_same _).event⟩
  | memoryAnswer t i a => exact ⟨_, rfl, (answerAt_kept _ i a).event⟩
  | responseReturn t ep =>
    exact ⟨_, rfl, ((atInstant_same s t).trans (returnResponse_same _ ep)).kept⟩
  | selfTrafficPlacement t => exact ⟨_, rfl, (engineOnly_same (placeWaiting_only _)).event⟩
  | ringDrainEnd t r => exact ⟨_, rfl, (endRingDrain_same _ r).event⟩
  | signatureWrite t i => exact ⟨_, rfl, (answerSignature_kept _ i).event⟩
  | anchorSelfReadReturn t a => exact ⟨_, rfl, (answerSelf_kept _ _ a).event⟩
  | orderProducerCountWrite t i => exact ⟨_, rfl, (answerOrderCount_kept _ i).event⟩
  | completionConsumerCountWrite t i => exact ⟨_, rfl, (answerCompletionCount_kept _ i).event⟩
  | claim t i => exact ⟨_, rfl, (answerMark_kept _ i _).event⟩
  | release t i => exact ⟨_, rfl, (answerMark_kept _ i _).event⟩
  | goAdmit t i => exact ⟨_, rfl, (answerMark_kept _ i _).event⟩
  | goResign t i => exact ⟨_, rfl, (answerMark_kept _ i _).event⟩
  | goAnswer t i => exact ⟨_, rfl, (answerMark_kept _ i _).event⟩
  | requestSelfReadReturn t m a => exact ⟨_, rfl, (answerSelf_kept _ _ a).event⟩
  | answerSelfReadReturn t m a => exact ⟨_, rfl, (answerSelf_kept _ _ a).event⟩
  | orderFetchStart t => exact ⟨_, rfl, (engineOnly_same (startFetch_only _)).event⟩
  | orderFetchFault t => exact ⟨_, rfl, (answerSelf_kept _ _ _).event⟩
  | badOrderKind t kind => exact ⟨_, rfl, (returnUnknown_kept _ kind).event⟩
  | reportCompletion t => exact ⟨_, rfl, (engineOnly_same (finishReport_only _)).event⟩
  | drainingEnd t => exact ⟨_, rfl, (engineOnly_same (endDraining_only _)).event⟩
  | unplannedEntry t a => exact ⟨_, rfl, (answerRestart_kept _ a).event⟩
  | noticeDelivery t => exact ⟨_, rfl, (engineOnly_same (deliver_only _)).event⟩
  | heldCompletionWrite t => exact ⟨_, rfl, (engineOnly_same (writeHeld_only _)).event⟩
  | internalExpiry => exact ⟨_, rfl, (internalExpiry_same s).kept.settled⟩
  | guardExpiry => exact ⟨_, rfl, (guardExpiry_same s).kept.settled⟩
  | fsyncEdge t => exact ⟨_, rfl, (edge_same _).event⟩
  | admitAging t => exact ⟨_, rfl, (ageRequests_same _).event⟩
  | lockExpiry t => exact ⟨_, rfl, (expireLocks_same _).event⟩
  | timingChangeTakeEffect cause => exact ⟨_, rfl, (tickArmed_same s cause).kept.settled⟩
  | blankingEnd cause => exact ⟨_, rfl, (tickBlanking_same s cause).kept.settled⟩
  | timingChangeCompletion t => exact ⟨_, rfl, (writeTimingDone_same _).event⟩
  | visit t => exact ⟨_, rfl, (visitNext_kept _).event⟩
  | rekeyCountdownExpiry t => exact ⟨_, rfl, (visitRekey_kept _).event⟩
  | slotCheck t => exact ⟨_, rfl, (checkNext_same _).event⟩
  | slotDeadlineExpiry t => exact ⟨_, rfl, (checkExpiry_same _).event⟩
  | callCloseEnd t call => exact ⟨_, rfl, (endClose_kept _ call).event⟩
  | activationWindowLeave =>
    have hleft : SameLanes s s.leaveWindow := by
      unfold State.leaveWindow
      split
      · split <;> exact {}
      · exact {}
    exact ⟨_, rfl, hleft.kept.settled⟩
  | callActivationCompletion lane => exact ⟨_, rfl, (completeCallLane_kept s lane).settled⟩
  | entryActivationCompletion lane => exact ⟨_, rfl, (completeEntryLane_kept s lane).settled⟩
  | _ => exact ⟨_, rfl, (returnOrder_kept _ _).event⟩

theorem lanesPaired_of_exec {c : Instr} {s u : State} (hs : s.LanesPaired)
    (h : exec c s = .next u) : u.LanesPaired := by
  cases hc : resets c with
  | false =>
    obtain ⟨v, hv, hkept⟩ := exec_kept hc s
    rw [hv] at h
    cases h
    exact hkept hs
  | true =>
    cases c with
    | hardReset => cases h; exact Reset.lanesPaired_of_fresh (Reset.hardReset_fresh s)
    | resetNRise a b => cases h; exact Reset.lanesPaired_of_fresh (Reset.riseReset_fresh s a b)
    | _ => cases hc

/-- Settles O60: reset meets the pairs of calls and lanes, and every other command keeps them. -/
theorem lanesKept : Obligations.LanesKept := by
  intro s u hs h
  unfold step at h
  split at h
  · cases h; exact hs
  · rename_i c rest _
    exact lanesPaired_of_exec (s := { s with pending := rest }) hs h

end Sys2Proof.LanePairs

namespace Sys2Proof.VoiceAsks

-- Theorems that wait in parallel for the kernel each hold a thread's stack.
set_option Elab.async false

open Sys2Proof Sys2Proof.Machine Sys2Proof.Laws

/-! ## Requests of class VOICE (R27, R81) -/

/-- A VOICE ask for a call at an instant (R81). -/
def voiceRequest (now : Instant) (c : CallNo) : ActRequest :=
  { subject := .call c, cls := .voice, age := now, derive_ := false, slots := [], askTick := 0#32 }

section

variable (s : State)

/-- A held request has the lane condition for a call that holds no lane. -/
theorem mem_voiceWants (c : CallNo) : c ∈ s.voiceWants ↔
    ∃ a ∈ s.port.hold, s.memberCall a = some c ∧ s.readyLane c = none ∧ s.calls[c].lane = none := by
  unfold State.voiceWants
  rw [List.mem_filterMap]
  refine exists_congr fun a => and_congr_right fun _ => ?_
  cases s.memberCall a with
  | none => simp
  | some c' =>
    simp only [Option.ite_none_right_eq_some, Bool.and_eq_true, Option.isNone_iff_eq_none,
      Option.some.injEq]
    constructor
    · rintro ⟨⟨hready, hlane⟩, rfl⟩
      exact ⟨rfl, hready, hlane⟩
    · rintro ⟨rfl, hready, hlane⟩
      exact ⟨⟨hready, hlane⟩, rfl⟩

variable {s}
variable {wants : List CallNo} {r r' : ActRequest} {c : CallNo}

theorem reclass_entry {d : EntryNo} (h : r.subject = .entry d) : s.reclass wants r = some r := by
  unfold State.reclass
  rw [h]

/-- A REKEY request takes class VOICE. -/
theorem reclass_rekey (h : r.subject = .call c) (hc : c ∈ wants) (hr : r.cls = .rekey) :
    s.reclass wants r = some { r with cls := .voice, age := s.now } := by
  simp [State.reclass, h, hr, hc]

theorem reclass_wanted (h : r.subject = .call c) (hc : c ∈ wants) (hr : r.cls ≠ .rekey) :
    s.reclass wants r = some r := by
  cases hcls : r.cls <;> simp_all [State.reclass]

theorem reclass_other (h : r.subject = .call c) (hc : c ∉ wants) (hr : r.cls ≠ .voice) :
    s.reclass wants r = some r := by
  cases hcls : r.cls <;> simp_all [State.reclass]

/-- A VOICE request that asks for no derivation is withdrawn. -/
theorem reclass_withdrawn (h : r.subject = .call c) (hc : c ∉ wants) (hr : r.cls = .voice)
    (hd : r.derive_ = false) : s.reclass wants r = none := by
  simp [State.reclass, h, hr, hc, hd]

/-- A VOICE request that asks for derivation takes the class that the call's debt gives. -/
theorem reclass_lowered (h : r.subject = .call c) (hc : c ∉ wants) (hr : r.cls = .voice)
    (hd : r.derive_ = true) : s.reclass wants r =
      some { r with cls := if s.calls[c].debt = 8 then .rekeyForced else .rekey, age := s.now } := by
  simp [State.reclass, h, hr, hc, hd]

/-- A request of class VOICE after the change is for a call that wants one. -/
theorem wanted_of_reclass (h : s.reclass wants r = some r') (hr : r'.subject = .call c)
    (hv : r'.cls = .voice) : c ∈ wants := by
  cases hs : r.subject with
  | entry d =>
    rw [reclass_entry hs] at h
    cases h
    rw [hs] at hr
    cases hr
  | call c' =>
    by_cases hc : c' ∈ wants
    · by_cases hk : r.cls = .rekey
      · rw [reclass_rekey hs hc hk] at h
        cases h
        obtain rfl : c' = c := Subject.call.inj (hs.symm.trans hr)
        exact hc
      · rw [reclass_wanted hs hc hk] at h
        cases h
        obtain rfl : c' = c := Subject.call.inj (hs.symm.trans hr)
        exact hc
    · by_cases hk : r.cls = .voice
      · cases hd : r.derive_ with
        | false => rw [reclass_withdrawn hs hc hk hd] at h; cases h
        | true =>
          rw [reclass_lowered hs hc hk hd] at h
          cases h
          dsimp only at hv
          split at hv <;> cases hv
      · rw [reclass_other hs hc hk] at h
        cases h
        exact absurd hv hk

/-- What the asks add: a request for each call that has none yet, each once (R81). -/
theorem askVoice_spec (cs : List CallNo) (s : State) : ∃ asked : List ActRequest,
    s.askVoice cs = s.setWaiting (s.waiting ++ asked)
    ∧ (∀ q ∈ asked, ∃ c ∈ cs, (∀ r ∈ s.waiting, r.subject ≠ .call c) ∧ q = voiceRequest s.now c)
    ∧ (asked.map ActRequest.subject).Nodup
    ∧ ∀ c ∈ cs, ∃ r ∈ s.waiting ++ asked, r.subject = .call c := by
  induction cs generalizing s with
  | nil => exact ⟨[], by simp [State.askVoice, State.setWaiting], by simp, List.nodup_nil, by simp⟩
  | cons c cs ih =>
    cases hw : s.waitingFor (.call c) with
    | some r =>
      have hr := List.find?_some hw
      obtain ⟨asked, heq, hasked, hnodup, hall⟩ := ih s
      refine ⟨asked, ?_, fun q hq => ?_, hnodup, fun c' hc' => ?_⟩
      · rw [State.askVoice, hw]
        exact heq
      · obtain ⟨c', hc', h⟩ := hasked q hq
        exact ⟨c', .tail c hc', h⟩
      · rcases List.mem_cons.1 hc' with rfl | hc'
        · exact ⟨r, List.mem_append_left _ (List.mem_of_find?_eq_some hw), of_decide_eq_true hr⟩
        · exact hall c' hc'
    | none =>
      have hnone := (LaneBank.waitingFor_isNone_iff s (.call c)).1 (by rw [hw]; rfl)
      obtain ⟨asked, heq, hasked, hnodup, hall⟩ :=
        ih (s.setWaiting (s.waiting ++ [voiceRequest s.now c]))
      have hlist : (s.setWaiting (s.waiting ++ [voiceRequest s.now c])).waiting ++ asked
          = s.waiting ++ voiceRequest s.now c :: asked := List.append_assoc _ _ _
      rw [hlist] at hall
      refine ⟨voiceRequest s.now c :: asked, ?_, fun q hq => ?_, ?_, fun c' hc' => ?_⟩
      · rw [State.askVoice, hw]
        show (s.setWaiting (s.waiting ++ [voiceRequest s.now c])).askVoice cs = _
        rw [heq, hlist]
        rfl
      · rcases List.mem_cons.1 hq with rfl | hq
        · exact ⟨c, .head cs, hnone, rfl⟩
        · obtain ⟨c', hc', hnone', hq'⟩ := hasked q hq
          exact ⟨c', .tail c hc', fun r hr => hnone' r (List.mem_append_left _ hr), hq'⟩
      · refine List.nodup_cons.2 ⟨fun hmem => ?_, hnodup⟩
        obtain ⟨q, hq, hqc⟩ := List.mem_map.1 hmem
        obtain ⟨c', -, hnone', rfl⟩ := hasked q hq
        exact hnone' (voiceRequest s.now c) (List.mem_append_right _ (.head [])) hqc.symm
      · rcases List.mem_cons.1 hc' with rfl | hc'
        · exact ⟨_, List.mem_append_right _ (.head asked), rfl⟩
        · exact hall c' hc'

end

end Sys2Proof.VoiceAsks

namespace Sys2Proof.Activations

-- Theorems that wait in parallel for the kernel each hold a thread's stack.
set_option Elab.async false

open Sys2Proof Sys2Proof.Machine Sys2Proof.Laws Sys2Proof.LaneBank Sys2Proof.Holding
open Sys2Proof.Settling

/-! ## The order of grants (R87, R88) -/

theorem subject_rank_inj {x y : Subject} (h : x.rank = y.rank) : x = y := by
  cases x <;> cases y <;> simp only [Subject.rank] at h
  · exact congrArg Subject.call (Fin.ext (by omega))
  · omega
  · omega
  · exact congrArg Subject.entry (Fin.ext (by omega))

/-- The class at a place in the order of precedence. -/
def classAt : Nat → ActClass
  | 0 => .rekeyForced
  | 1 => .voice
  | 2 => .admitAged
  | 3 => .rekey
  | _ => .admit_

theorem classAt_rank (x : ActClass) : classAt x.rank = x := by
  cases x <;> rfl

theorem class_rank_inj {x y : ActClass} (h : x.rank = y.rank) : x = y := by
  rw [← classAt_rank x, h, classAt_rank]

section

variable (s : State)

/-- Requests that wait in the arrival stage or the hold queue (R88). -/
theorem memberWaits_eq (c : CallNo) : s.memberWaits c =
    (s.port.hold ++ s.port.arrival.toList).any fun a =>
      a.isVoice && decide (s.rings[a.ring].state.call? = some c) && s.calls[c].hasMember a.req.ep := by
  unfold State.memberWaits
  rw [List.any_append]
  cases s.port.arrival <;> simp

theorem ringCall_iff (x : RingState) (c : CallNo) :
    x.call? = some c ↔ (∃ o, x = .owned c o) ∨ x = .draining c := by
  cases x <;> simp [RingState.call?]

theorem memberWaits_false_iff (c : CallNo) : s.memberWaits c = false ↔
    ∀ a ∈ s.port.hold ++ s.port.arrival.toList, a.region = .voice →
      (∃ o, s.rings[a.ring].state = .owned c o) ∨ s.rings[a.ring].state = .draining c →
      ∀ m ∈ s.calls[c].members, m.ep ≠ a.req.ep := by
  rw [memberWaits_eq, List.any_eq_false]
  refine forall₂_congr fun a _ => ?_
  simp only [Bool.and_eq_true, not_and, isVoice_iff, decide_eq_true_eq, ringCall_iff, and_imp,
    Call.hasMember, List.any_eq_true, not_exists]

/-- No request, in the bank or in the port, waits for a lane's subject (R88). -/
def unneeded (s : State) : Option Subject → Bool
  | none => true
  | some u => (s.waitingFor u).isNone
    && (match u with | .call c => !s.memberWaits c | .entry _ => true)

theorem evictable_eq (l : LaneNo) : s.evictable l = (decide (s.lanes[l].state = .ready)
    && decide (s.lanes[l].count = 0) && unneeded s s.lanes[l].subject) := rfl

theorem unneeded_iff (x : Option Subject) : unneeded s x = true ↔ ∀ u, x = some u →
    (s.waitingFor u).isNone = true ∧ ∀ c, u = .call c → s.memberWaits c = false := by
  cases x with
  | none => simp [unneeded]
  | some u => cases u <;> simp [unneeded]

/-- A lane is evictable where nothing keeps it (R88). -/
theorem evictable_iff (l : LaneNo) : s.evictable l = true ↔
    s.lanes[l].state = .ready ∧ s.lanes[l].count = 0
      ∧ ∀ u, s.lanes[l].subject = some u → (∀ r ∈ s.waiting, r.subject ≠ u)
        ∧ ∀ c, u = .call c → ∀ a ∈ s.port.hold ++ s.port.arrival.toList, a.region = .voice →
          (∃ o, s.rings[a.ring].state = .owned c o) ∨ s.rings[a.ring].state = .draining c →
          ∀ m ∈ s.calls[c].members, m.ep ≠ a.req.ep := by
  simp only [evictable_eq, unneeded_iff, memberWaits_false_iff, waitingFor_isNone_iff,
    Bool.and_eq_true, decide_eq_true_eq, and_assoc]

theorem nextGrant_least {r : ActRequest} (h : s.nextGrant = some r) :
    r ∈ s.waiting ∧ s.startLane r ≠ none
      ∧ ∀ r' ∈ s.waiting, s.startLane r' ≠ none →
        r.cls.rank < r'.cls.rank ∨ r.cls = r'.cls ∧ (r.age < r'.age
          ∨ r.age = r'.age ∧ r.subject.rank ≤ r'.subject.rank) := by
  obtain ⟨hmem, hstart, hfirst⟩ := nextGrant_first s r h
  refine ⟨hmem, Option.isSome_iff_ne_none.1 hstart, fun r' hr' hstart' => ?_⟩
  have hbefore := hfirst r' hr' (Option.isSome_iff_ne_none.2 hstart')
  rw [← Bool.not_eq_true, before_iff] at hbefore
  rcases Nat.lt_trichotomy r.cls.rank r'.cls.rank with hlt | heq | hgt
  · exact .inl hlt
  · refine .inr ⟨class_rank_inj heq, ?_⟩
    simp only [Instant] at *
    omega
  · exact absurd (.inl hgt) hbefore

theorem nextGrant_none (h : s.nextGrant = none) : ∀ r ∈ s.waiting, s.startLane r = none := by
  unfold State.nextGrant at h
  rw [firstBy_none, List.filter_eq_nil_iff] at h
  exact fun r hr => Option.not_isSome_iff_eq_none.1 (h r hr)

theorem addStart_three {starts : List Instant} (h : starts.length < 4) (x : Instant) :
    addStart starts x = starts ++ [x] := by
  unfold addStart Config.windowStarts
  rw [if_pos h]

theorem addStart_four {oldest : Instant} {rest : List Instant} (h : 4 ≤ (oldest :: rest).length)
    (x : Instant) : addStart (oldest :: rest) x = rest ++ [x] := by
  unfold addStart Config.windowStarts
  rw [if_neg (Nat.not_lt.2 h)]
  rfl

/-! ## The grants of an event (R85, R87) -/

/-- The listed starts that are in the window of a plan. -/
def inPlanWindow (p : Plan) (s : State) : List Instant :=
  s.starts.filter fun x => s.now < x + p.tAw * 1000

theorem hasPlan_iff : s.hasPlan = true ↔ s.part ≠ .unplanned := by
  unfold State.hasPlan
  cases s.part <;> simp

variable {s}

theorem windowRoom_iff {p : Plan} (h : s.plan = some p) :
    s.windowRoom = true ↔ ¬ 4 ≤ (inPlanWindow p s).length := by
  have hplan : s.thePlan = p := by simp [State.thePlan, h]
  unfold State.windowRoom inPlanWindow
  rw [hplan, decide_eq_true_iff, Nat.not_le]
  rfl

theorem grantN_start {r : ActRequest} {l : LaneNo} {b : Bool} (n : Nat) (hroom : s.windowRoom = true)
    (hplan : s.hasPlan = true) (hr : s.nextGrant = some r) (hl : s.startLane r = some (l, b)) :
    s.grantN (n + 1) = (s.start r l b).grantN n := by
  rw [State.grantN, hroom, hplan, hr]
  simp only [Bool.and_self, if_true, hl]

theorem grantN_stop (n : Nat) (h : ¬ (s.windowRoom = true ∧ s.hasPlan = true)) :
    s.grantN (n + 1) = s := by
  rw [State.grantN, if_neg (by rwa [Bool.and_eq_true])]

theorem grantN_none (n : Nat) (h : s.nextGrant = none) : s.grantN (n + 1) = s := by
  rw [State.grantN, h]
  split <;> rfl

/-- No grant is left: there is no plan, nothing can start, or the window is full. -/
def NoneLeft (p : Plan) (s : State) : Prop :=
  s.hasPlan = false ∨ s.nextGrant = none ∨ 4 ≤ (inPlanWindow p s).length

/-- The newest starts listed are of the present instant. -/
def EndsNow (n : Nat) (s : State) : Prop := ∃ pre, s.starts = pre ++ List.replicate n s.now

/-- Four starts of the present instant fill the window. -/
theorem noneLeft_of_endsNow {p : Plan} (hp : 0 < p.tAw) {n : Nat} (hn : 4 ≤ n) (h : EndsNow n s) :
    4 ≤ (inPlanWindow p s).length := by
  obtain ⟨pre, hpre⟩ := h
  have hnow : s.now < s.now + p.tAw * 1000 := by
    simp only [Instant] at *
    omega
  unfold inPlanWindow
  rw [hpre, List.filter_append, List.length_append, List.filter_replicate_of_pos (by simpa using hnow),
    List.length_replicate]
  omega

theorem addStart_endsNow {n : Nat} (hn : n < 4) {starts : List Instant} {x : Instant}
    (h : ∃ pre, starts = pre ++ List.replicate n x) :
    ∃ pre, addStart starts x = pre ++ List.replicate (n + 1) x := by
  obtain ⟨pre, rfl⟩ := h
  have hsucc : List.replicate n x ++ [x] = List.replicate (n + 1) x := List.replicate_succ'.symm
  by_cases hlen : (pre ++ List.replicate n x).length < 4
  · exact ⟨pre, by rw [addStart_three hlen, List.append_assoc, hsucc]⟩
  · cases pre with
    | nil =>
      rw [List.nil_append, List.length_replicate] at hlen
      exact absurd hn hlen
    | cons y ys =>
      refine ⟨ys, ?_⟩
      rw [List.cons_append] at hlen ⊢
      rw [addStart_four (Nat.le_of_not_lt hlen), List.append_assoc, hsucc]

theorem start_plan (r : ActRequest) (l : LaneNo) (b : Bool) : (s.start r l b).plan = s.plan
    ∧ (s.start r l b).now = s.now ∧ (s.start r l b).starts = addStart s.starts s.now := by
  have h := (start_lanesOnly s r l b).1
  exact ⟨(congrArg State.plan h :), (congrArg State.now h :), Bounds.start_starts s r l b⟩

theorem grantN_noneLeft {p : Plan} (hp : 0 < p.tAw) (n k : Nat) (s : State) (hplan : s.plan = some p)
    (h : EndsNow k s) : NoneLeft p (s.grantN n) ∨ EndsNow (k + n) (s.grantN n) := by
  induction n generalizing s k with
  | zero => exact .inr h
  | succ n ih =>
    by_cases hgo : s.windowRoom = true ∧ s.hasPlan = true
    · obtain ⟨hroom, hhas⟩ := hgo
      cases hr : s.nextGrant with
      | none => rw [grantN_none n hr]; exact .inl (.inr (.inl hr))
      | some r =>
        obtain ⟨⟨l, b⟩, hl⟩ := Option.isSome_iff_exists.1 (nextGrant_first s r hr).2.1
        have hroom' := (windowRoom_iff hplan).1 hroom
        have hk : k < 4 := Nat.lt_of_not_le fun hk => hroom' (noneLeft_of_endsNow hp hk h)
        obtain ⟨hplan', hnow', hstarts'⟩ := start_plan (s := s) r l b
        rw [grantN_start n hroom hhas hr hl, ← Nat.add_assoc, Nat.add_right_comm]
        refine ih (k + 1) _ (hplan'.trans hplan) ?_
        unfold EndsNow
        rw [hnow', hstarts']
        exact addStart_endsNow hk h
    · rw [grantN_stop n hgo]
      refine .inl ?_
      by_cases hhas : s.hasPlan = true
      · exact .inr (.inr (not_not.1 fun hfull => hgo ⟨(windowRoom_iff hplan).2 hfull, hhas⟩))
      · exact .inl (Bool.eq_false_iff.2 hhas)

/-- Four grants are all that an event can bring (R85, R87). -/
theorem grantAll_noneLeft {p : Plan} (hp : 0 < p.tAw) (hplan : s.plan = some p) :
    NoneLeft p s.grantAll := by
  have hfour := grantN_noneLeft hp 4 0 s hplan ⟨s.starts, (List.append_nil _).symm⟩
  exact hfour.elim id fun h => .inr (.inr (noneLeft_of_endsNow hp le_rfl h))

/-- The place of a request that waits plays no part in the next grant. -/
theorem nextGrant_congr (p : Port) (b : Bool)
    (h : p.hold ++ p.arrival.toList = s.port.hold ++ s.port.arrival.toList) :
    State.nextGrant { s with port := p, alert := b } = s.nextGrant := by
  have hwaits : State.memberWaits { s with port := p, alert := b } = s.memberWaits := by
    funext c
    rw [memberWaits_eq, memberWaits_eq]
    dsimp only
    rw [h]
  have hevict : State.evictable { s with port := p, alert := b } = s.evictable := by
    funext l
    unfold State.evictable
    rw [hwaits]
    rfl
  unfold State.nextGrant State.startLane State.freeLane
  rw [hevict]
  rfl

variable (s)

/-- The state in which an event's work grants (log 7). -/
def granting (s : State) : State := s.settleRings.retestArrival.voiceUpkeep

/-- The work of an event ends with the grants and a retest of the arrival stage. -/
theorem settle_granted : s.settle = { (granting s).grantAll with
    port := s.settle.port, alert := s.settle.alert } := by
  unfold State.settle State.settleLanes granting
  generalize s.settleRings.retestArrival.voiceUpkeep.grantAll = u
  have h := retestArrival_only u
  generalize u.retestArrival = v at h ⊢
  rw [h]

theorem settle_waits : s.settle.port.hold ++ s.settle.port.arrival.toList =
    (granting s).grantAll.port.hold ++ (granting s).grantAll.port.arrival.toList := by
  unfold State.settle State.settleLanes granting
  generalize s.settleRings.retestArrival.voiceUpkeep.grantAll = u
  exact retestArrival_hold u

theorem granting_plan : (granting s).plan = s.plan := by
  have h := (((placeWaiting_settles s).trans (settleRings_placed s)).trans
    (retestArrival_settles _)).trans (lanesOnly_settles _ (voiceUpkeep_lanesOnly _))
  exact (congrArg State.plan h.only :)

theorem noneLeft_congr {p : Plan} (h : NoneLeft p s) (q : Port) (b : Bool)
    (hwaits : q.hold ++ q.arrival.toList = s.port.hold ++ s.port.arrival.toList) :
    NoneLeft p { s with port := q, alert := b } := by
  unfold NoneLeft at h ⊢
  rw [nextGrant_congr q b hwaits]
  exact h

/-- After the work of an event no grant is left. -/
theorem settle_noneLeft {p : Plan} (hp : 0 < p.tAw) (hplan : s.plan = some p) :
    NoneLeft p s.settle := by
  have hdone := grantAll_noneLeft hp ((granting_plan s).trans hplan)
  have hkept := noneLeft_congr _ hdone s.settle.port s.settle.alert (settle_waits s)
  rwa [← settle_granted] at hkept

end

end Sys2Proof.Activations

namespace Sys2Proof.Activations

-- Theorems that wait in parallel for the kernel each hold a thread's stack.
set_option Elab.async false

open Sys2Proof Sys2Proof.Machine Sys2Proof.Laws Sys2Proof.LaneBank Sys2Proof.VoiceAsks

/-! ## Activations asked for and granted (R81 to R91) -/

/-- What the upkeep of VOICE requests makes of the waiting ones, and what it adds (R81). -/
theorem voiceUpkeep_spec (s : State) : ∃ asked : List ActRequest,
    s.voiceUpkeep = { s with
      waiting := s.waiting.filterMap (s.reclass s.voiceWants) ++ asked }
    ∧ (∀ q ∈ asked, ∃ c ∈ s.voiceWants,
      (∀ r ∈ s.waiting.filterMap (s.reclass s.voiceWants), r.subject ≠ .call c)
        ∧ q = voiceRequest s.now c)
    ∧ (asked.map ActRequest.subject).Nodup
    ∧ ∀ c ∈ s.voiceWants, ∃ r ∈ s.waiting.filterMap (s.reclass s.voiceWants) ++ asked,
      r.subject = .call c :=
  askVoice_spec s.voiceWants (s.setWaiting (s.waiting.filterMap (s.reclass s.voiceWants)))

/-- After the upkeep a call's request is of class VOICE only where the call wants one (R81). -/
theorem wanted_of_upkeep {s : State} {asked : List ActRequest}
    (hasked : ∀ q ∈ asked, ∃ c ∈ s.voiceWants,
      (∀ r ∈ s.waiting.filterMap (s.reclass s.voiceWants), r.subject ≠ .call c)
        ∧ q = voiceRequest s.now c) {r : ActRequest} {c : CallNo}
    (hr : r ∈ s.waiting.filterMap (s.reclass s.voiceWants) ++ asked) (hc : r.subject = .call c)
    (hv : r.cls = .voice) : c ∈ s.voiceWants := by
  rcases List.mem_append.1 hr with hr | hr
  · obtain ⟨r₀, -, hr₀⟩ := List.mem_filterMap.1 hr
    exact wanted_of_reclass hr₀ hc hv
  · obtain ⟨c', hc', -, rfl⟩ := hasked r hr
    cases hc
    exact hc'

theorem classes_ranked :
    ([.rekeyForced, .voice, .admitAged, .rekey, .admit_] : List ActClass).Pairwise
      (fun x y => x.rank < y.rank) := by decide

theorem subjects_ranked : (∀ c c' : CallNo, (Subject.call c).rank ≤ (Subject.call c').rank ↔ c ≤ c')
    ∧ (∀ d d' : EntryNo, (Subject.entry d).rank ≤ (Subject.entry d').rank ↔ d ≤ d')
    ∧ ∀ (c : CallNo) (d : EntryNo), ((Subject.call c).rank < (Subject.entry d).rank ↔ c.val ≤ d.val)
      ∧ ((Subject.entry d).rank < (Subject.call c).rank ↔ d.val < c.val) := by
  simp only [Subject.rank, Fin.le_def]
  exact ⟨fun c c' => by omega, fun d d' => by omega, fun c d => ⟨by omega, by omega⟩⟩

/-- Settles O52: the upkeep request by request, the order of grants, the lane of a start, and the
starts of the present instant that fill the window. -/
theorem activationsAskedAndGranted : Obligations.ActivationsAskedAndGranted := by
  refine ⟨fun s => ?_, ⟨classes_ranked, subjects_ranked⟩, evictable_iff,
    fun starts x => ⟨fun h => addStart_three h x, ?_⟩,
    fun s => ⟨fun r h => nextGrant_least s h, nextGrant_none s⟩,
    fun s r l => startLane_inPlace_iff, fun s r l h => ?_, fun s r hidle hnone hfree => ?_,
    fun s n => ?_, fun s => ⟨granting s, rfl, settle_granted s⟩, fun s r l => ?_,
    fun s p hplan hp _ => ⟨s.settle, rfl, ?_⟩⟩
  · intro wanted
    have hwanted : ∀ c, wanted c ↔ c ∈ s.voiceWants := fun c => (mem_voiceWants s c).symm
    obtain ⟨asked, heq, hasked, hnodup, hall⟩ := voiceUpkeep_spec s
    refine ⟨_, s.reclass s.voiceWants, asked, heq, rfl, fun r d h => reclass_entry h,
      fun r c h => ?_, fun q hq => ?_, hnodup, fun c => ⟨fun hc => hall c ((hwanted c).1 hc),
        fun r hr h hv => (hwanted c).2 (wanted_of_upkeep hasked hr h hv)⟩⟩
    · simp only [hwanted]
      exact ⟨reclass_rekey h, reclass_wanted h, reclass_other h, reclass_withdrawn h,
        reclass_lowered h⟩
    · obtain ⟨c, hc, hnone, hq⟩ := hasked q hq
      exact ⟨c, (hwanted c).2 hc, hnone, hq⟩
  · rintro oldest rest rfl h
    exact addStart_four h x
  · obtain ⟨hidle, hnone, hfree⟩ := startLane_taken_iff.1 h
    exact ⟨hidle, hnone, freeLane_spec s hfree⟩
  · obtain ⟨l, hl⟩ := freeLane_isSome s hfree
    exact ⟨l, startLane_taken_iff.2 ⟨hidle, hnone, hl⟩⟩
  · refine ⟨rfl, rfl, fun p r l b hpart hplan hroom hr hl => ?_, fun p hplan hfull => ?_, fun h => ?_⟩
    · exact grantN_start n ((windowRoom_iff hplan).2 hroom) ((hasPlan_iff s).2 hpart) hr hl
    · exact grantN_stop n fun ⟨hroom, _⟩ => (windowRoom_iff hplan).1 hroom hfull
    · exact h.elim (fun hpart => grantN_stop n fun ⟨_, hhas⟩ => (hasPlan_iff s).1 hhas hpart)
        (grantN_none n)
  · exact ⟨start_inPlace s r l, _, rfl, start_taken_lanes s r l,
      start_taken_calls s r l, by
        rw [start_taken_lanes]
        exact start_taken_only s r l⟩
  · have hdone := settle_noneLeft s hp hplan
    rwa [NoneLeft, inPlanWindow] at hdone

end Sys2Proof.Activations

namespace Sys2Proof.LaneEventSteps

-- Theorems that wait in parallel for the kernel each hold a thread's stack.
set_option Elab.async false

open Sys2Proof Sys2Proof.Machine Sys2Proof.Laws

variable {s : State}

/-! ## The window (R85, log 29) -/

theorem inWindow_iff (t : Nat) (now st : Instant) :
    inWindow t now st = true ↔ now < st + t * 1000 := decide_eq_true_iff

/-- The oldest start in the window is the first listed one that has not left it. -/
theorem nextLeave_of_oldest {p : Plan} {pre post : List Instant} {x : Instant}
    (hplan : s.plan = some p) (hstarts : s.starts = pre ++ x :: post)
    (hpre : ∀ y ∈ pre, y + p.tAw * 1000 ≤ s.now) (hx : s.now < x + p.tAw * 1000) :
    s.nextLeave = some (x + p.tAw * 1000) := by
  have hthe : s.thePlan = p := by simp [State.thePlan, hplan]
  have hfind : s.starts.find? (inWindow p.tAw s.now) = some x := by
    refine List.find?_eq_some_iff_append.2 ⟨(inWindow_iff _ _ _).2 hx, pre, post, hstarts, ?_⟩
    intro y hy
    rw [Bool.not_eq_true', ← Bool.not_eq_true, inWindow_iff]
    exact Nat.not_lt.2 (hpre y hy)
  unfold State.nextLeave
  rw [hthe, hfind]
  rfl

theorem nextLeave_none (h : ∀ y ∈ s.starts, y + s.thePlan.tAw * 1000 ≤ s.now) :
    s.nextLeave = none := by
  have hfind : s.starts.find? (inWindow s.thePlan.tAw s.now) = none :=
    List.find?_eq_none.2 fun y hy => fun hin => Nat.not_lt.2 (h y hy) ((inWindow_iff _ _ _).1 hin)
  unfold State.nextLeave
  rw [hfind]
  rfl

theorem leaveWindow_at {e : Instant} (hplan : s.hasPlan = true) (hleave : s.nextLeave = some e)
    (he : s.now ≤ e) : s.leaveWindow = { s with now := e } := by
  unfold State.leaveWindow
  rw [if_pos hplan, hleave]
  exact congrArg (fun t => { s with now := t }) (Nat.max_eq_right he)

theorem leaveWindow_idle (h : s.hasPlan = false ∨ s.nextLeave = none) : s.leaveWindow = s := by
  unfold State.leaveWindow
  rcases h with h | h
  · rw [h]
    rfl
  · rw [h]
    exact ite_self s

/-! ## The completion of a call's activation (R92, R118) -/

/-- The lane of a call whose activation completes takes the keys of the record (R92). -/
def readied (s : State) (l : LaneNo) (r : Call) : Lane :=
  { s.lanes[l] with state := .ready, keys := r.laneKeys, lastUse := s.now, expansion := none }

theorem derive_held (c : CallNo) (h : s.calls[c].next ≠ none ∨ s.calls[c].key = none) :
    s.derive_ c = s := by
  unfold State.derive_
  cases hn : s.calls[c].next with
  | some k => rfl
  | none =>
    rw [h.resolve_left (not_not_intro hn)]

theorem derive_next {c : CallNo} {k : Key} (hn : s.calls[c].next = none)
    (hk : s.calls[c].key = some k) : s.derive_ c =
      s.setCall c { s.calls[c] with next := some (deriveKey k s.calls[c].epoch) } := by
  unfold State.derive_
  rw [hn, hk]

/-- A derivation completes, and its key enters the record and the lane (R92, R118). -/
theorem completeCall_derived {l : LaneNo} {c : CallNo} {x : Expansion} {k : Key}
    (hl : s.lanes[l].subject = some (.call c)) (hopen : s.calls[c].state = .opened)
    (hx : x.derives = true) (hn : s.calls[c].next = none) (hk : s.calls[c].key = some k) :
    s.completeCall l x =
      let r := { s.calls[c] with next := some (deriveKey k s.calls[c].epoch) }
      (s.setCall c r).setLane l (readied s l r) := by
  unfold State.completeCall
  simp only [hl, hopen, hx, decide_true, Bool.and_true, if_true, derive_next hn hk, setCall_get_self]
  rfl

/-- An activation that derives no key leaves the record as it is (R92, R118). -/
theorem completeCall_underived {l : LaneNo} {c : CallNo} {x : Expansion}
    (hl : s.lanes[l].subject = some (.call c))
    (h : s.calls[c].state ≠ .opened ∨ x.derives = false ∨ s.calls[c].next ≠ none
      ∨ s.calls[c].key = none) :
    s.completeCall l x = s.setLane l (readied s l s.calls[c]) := by
  have hsame : (if s.calls[c].state = .opened && x.derives then s.derive_ c else s) = s := by
    rcases h with h | h | h
    · rw [decide_eq_false h]
      rfl
    · rw [h, Bool.and_false]
      rfl
    · rw [derive_held c h, ite_self]
  unfold State.completeCall readied
  simp only [hl, hsame]

theorem completeCall_detached {l : LaneNo} {x : Expansion} (hl : s.lanes[l].subject = none) :
    s.completeCall l x = s.setLane l { s.lanes[l] with
      state := .empty, keys := LaneKeys.blank, count := 0, expansion := none } := by
  unfold State.completeCall
  simp only [hl]
  unfold Lane.emptied
  rw [← hl]

theorem completeCallLane_call {l : LaneNo} {c : CallNo} {x : Expansion}
    (hstate : s.lanes[l].state = .expanding) (hsubject : s.lanes[l].subject = some (.call c))
    (hx : s.lanes[l].expansion = some x) :
    s.completeCallLane l = (s.atInstant x.finish).completeCall l x := by
  unfold State.completeCallLane
  rw [hstate, hsubject, hx]

theorem completeCallLane_detached {l : LaneNo} {x : Expansion}
    (hstate : s.lanes[l].state = .expanding) (hsubject : s.lanes[l].subject = none)
    (hx : s.lanes[l].expansion = some x) :
    s.completeCallLane l = (s.atInstant x.finish).completeCall l x := by
  unfold State.completeCallLane
  rw [hstate, hsubject, hx]

theorem completeCallLane_idle {l : LaneNo} (h : s.lanes[l].state ≠ .expanding) :
    s.completeCallLane l = s := by
  unfold State.completeCallLane
  split
  · exact absurd ‹_› h
  · exact absurd ‹_› h
  · rfl

theorem completeEntryLane_idle {l : LaneNo} (h : s.lanes[l].state ≠ .expanding) :
    s.completeEntryLane l = s := by
  unfold State.completeEntryLane
  split
  · exact absurd ‹_› h
  · rfl

variable {u : State}

theorem exec_windowLeave (h : s.leaveWindow = u) :
    exec .activationWindowLeave s = .next u.settle := by
  rw [← h]
  rfl

theorem exec_callCompletion {l : LaneNo} (h : s.completeCallLane l = u) :
    exec (.callActivationCompletion l) s = .next u.settle := by
  rw [← h]
  rfl

theorem exec_entryCompletion {l : LaneNo} (h : s.completeEntryLane l = u) :
    exec (.entryActivationCompletion l) s = .next u.settle := by
  rw [← h]
  rfl

/-- Settles O51: the oldest start found in the list, and the completion by the lane's subject and
whether the activation derives. -/
theorem laneEvents : Obligations.LaneEvents :=
  ⟨fun _ _ _ _ _ hhas hplan hstarts hpre hx => exec_windowLeave
      (leaveWindow_at hhas (nextLeave_of_oldest hplan hstarts hpre hx) (Nat.le_of_lt hx)),
    fun _ h => exec_windowLeave (leaveWindow_idle (h.imp_right nextLeave_none)),
    fun s _ _ x hstate hsubject hx =>
      ⟨fun _ hopen hderives hnext hkey => exec_callCompletion
          ((completeCallLane_call hstate hsubject hx).trans
            (completeCall_derived (s := s.atInstant x.finish) hsubject hopen hderives hnext hkey)),
        fun h => exec_callCompletion ((completeCallLane_call hstate hsubject hx).trans
          (completeCall_underived (s := s.atInstant x.finish) hsubject h))⟩,
    fun s _ x hstate hsubject hx => exec_callCompletion
      ((completeCallLane_detached hstate hsubject hx).trans
        (completeCall_detached (s := s.atInstant x.finish) hsubject)),
    fun _ _ h => ⟨exec_callCompletion (completeCallLane_idle h),
      exec_entryCompletion (completeEntryLane_idle h)⟩⟩

end Sys2Proof.LaneEventSteps

namespace Sys2Proof.Checks

-- Theorems that wait in parallel for the kernel each hold a thread's stack.
set_option Elab.async false

open Sys2Proof Sys2Proof.Machine Sys2Proof.Laws Sys2Proof.LaneBank

/-! ## Locks and failures of a directory entry (R142) -/

section

variable {d : DirEntry} {counter : Word}

theorem lockInForce_iff : d.lockInForce counter = true ↔
    ∃ u, d.lock = some u ∧ 2147483648 ≤ (counter - u).toNat := by
  unfold DirEntry.lockInForce
  cases d.lock <;> simp

theorem not_lockInForce (h : ∀ u, d.lock = some u → (counter - u).toNat < 2147483648) :
    d.lockInForce counter = false :=
  Bool.eq_false_iff.2 fun hin =>
    have ⟨u, hu, hle⟩ := lockInForce_iff.1 hin
    absurd hle (Nat.not_le.2 (h u hu))

theorem fail_inForce (lockout : Nat) (h : d.lockInForce counter = true) :
    d.fail counter lockout = d := if_pos h

theorem fail_counts (lockout : Nat) (h : d.lockInForce counter = false) (hfails : d.fails < 2) :
    d.fail counter lockout = { d with fails := d.fails + 1 } := by
  unfold DirEntry.fail
  rw [h, if_neg (by decide), if_neg (Nat.not_le.2 hfails)]

theorem fail_locks (lockout : Nat) (h : d.lockInForce counter = false) (hfails : d.fails = 2) :
    d.fail counter lockout =
      { d with fails := 0, lock := some (counter + BitVec.ofNat 32 lockout) } := by
  unfold DirEntry.fail
  rw [h, if_neg (by decide), if_pos (le_of_eq hfails.symm)]
  rfl

theorem expire_eq (counter : Word) (d : DirEntry) : d.expire counter =
    { d with lock := if d.lock = some counter then none else d.lock } := by
  obtain ⟨enabled, number, secret, fails, lock, ep⟩ := d
  cases lock with
  | none => rfl
  | some u =>
    by_cases h : u = counter
    · simp [DirEntry.expire, h]
    · simp [DirEntry.expire, h]

end

/-! ## A check asked for (R83) -/

section

variable {s : State} {m : MboxNo} {d : EntryNo}

/-- The mirror of a slot whose ADMIT-aged flag is set (10.6). -/
def agedMirror (s : State) (m : MboxNo) : SelfEntry :=
  selfWrite (s.thePlan.mailboxBase / 4 + 16 * m.val + 5)
    [wordOfBytes s.mailboxes[m].state.code 1#8 0#8 0#8] (.mirror m)

theorem ageSlot_eq (s : State) (m : MboxNo) : s.ageSlot m =
    (s.setMbox m { s.mailboxes[m] with aged := true }).place .admission false
      [agedMirror s m] := by
  unfold State.ageSlot State.writeMirror State.mirrorWrite
  rw [setMbox_get_self]
  rfl

theorem askCheck_new (hd : s.mailboxes[m].entry = some d)
    (h : ∀ q ∈ s.waiting, q.subject ≠ .entry d) : s.askCheck m = { s with waiting := s.waiting ++
      [{ subject := .entry d, cls := .admit_, age := s.now, derive_ := false, slots := [m],
         askTick := s.timer.counter }] } := by
  have hw := Option.isNone_iff_eq_none.1 ((waitingFor_isNone_iff s (.entry d)).2 h)
  unfold State.askCheck
  simp only [hd, hw]
  rfl

/-- The only waiting request of a subject is the one found for it. -/
theorem waitingFor_of_unique {x : Subject} {q : ActRequest} (hq : q ∈ s.waiting)
    (hx : q.subject = x) (honly : ∀ q' ∈ s.waiting, q'.subject = x → q' = q) :
    s.waitingFor x = some q := by
  cases hw : s.waitingFor x with
  | none => exact absurd hx ((waitingFor_isNone_iff s x).1 (by rw [hw]; rfl) q hq)
  | some r =>
    have hr := List.find?_some hw
    rw [honly r (List.mem_of_find?_eq_some hw) (of_decide_eq_true hr)]

/-- The waiting requests with the slot at the end of its entry's request. -/
def joined (s : State) (m : MboxNo) (d : EntryNo) : State := { s with
  waiting := s.waiting.map fun q =>
    if q.subject = .entry d then { q with slots := q.slots ++ [m] } else q }

theorem askCheck_joins {q : ActRequest} (hd : s.mailboxes[m].entry = some d) (hq : q ∈ s.waiting)
    (hx : q.subject = .entry d) (honly : ∀ q' ∈ s.waiting, q'.subject = .entry d → q' = q)
    (hm : m ∉ q.slots) : s.askCheck m =
      if q.cls = .admitAged then (joined s m d).ageSlot m else joined s m d := by
  have hjoin : s.updateWaiting (.entry d) (fun r => { r with slots := addSlot m r.slots })
      = joined s m d := by
    refine congrArg (fun w => { s with waiting := w }) (List.map_congr_left fun q' hq' => ?_)
    by_cases h : q'.subject = .entry d
    · rw [if_pos h, if_pos h, honly q' hq' h]
      simp [addSlot, hm]
    · rw [if_neg h, if_neg h]
  unfold State.askCheck
  simp only [hd, waitingFor_of_unique hq hx honly, hjoin]

end

/-! ## Requests that age (R84) -/

section

variable (s : State)

/-- An ADMIT request asked 8 or more ticks ago (R84). -/
abbrev Ages (counter : Word) (q : ActRequest) : Prop :=
  q.cls = .admit_ ∧ 8 ≤ (counter - q.askTick).toNat

theorem aged_eq (counter : Word) (q : ActRequest) :
    q.aged counter = if Ages counter q then { q with cls := .admitAged } else q := by
  unfold ActRequest.aged Ages
  simp only [Bool.and_eq_true, decide_eq_true_iff]

theorem agingSlots_eq : s.agingSlots =
    (s.waiting.filter fun q => Ages s.timer.counter q).flatMap ActRequest.slots := by
  unfold State.agingSlots
  simp only [Bool.decide_and]

theorem mem_agingSlots (m : MboxNo) :
    m ∈ s.agingSlots ↔ ∃ q ∈ s.waiting, Ages s.timer.counter q ∧ m ∈ q.slots := by
  simp only [agingSlots_eq, List.mem_flatMap, List.mem_filter, decide_eq_true_iff, and_assoc]

/-- Aging writes slots' flags and mirrors only (R84). -/
theorem ageSlots_eq (ms : List MboxNo) (s : State) : s.ageSlots ms =
    { s with mailboxes := (s.ageSlots ms).mailboxes, port := (s.ageSlots ms).port } := by
  induction ms generalizing s with
  | nil => rfl
  | cons m ms ih => exact (ih (s.ageSlot m)).trans rfl

theorem ageRequests_map :
    s.ageRequests.waiting = s.waiting.map (ActRequest.aged s.timer.counter) :=
  (congrArg State.waiting (ageSlots_eq s.agingSlots
    (s.setWaiting (s.waiting.map (ActRequest.aged s.timer.counter)))) :)

theorem ageRequests_waiting : s.ageRequests.waiting = s.waiting.map fun q =>
    if Ages s.timer.counter q then { q with cls := .admitAged } else q :=
  (ageRequests_map s).trans (List.map_congr_left fun q _ => aged_eq s.timer.counter q)

theorem ageRequests_mailboxes (m : MboxNo) : s.ageRequests.mailboxes[m] = { s.mailboxes[m] with
    aged := if ∃ q ∈ s.waiting, Ages s.timer.counter q ∧ m ∈ q.slots then true
      else s.mailboxes[m].aged } := by
  have h := (ageSlots_spec s.agingSlots
    (s.setWaiting (s.waiting.map (ActRequest.aged s.timer.counter)))).1 m
  simp only [mem_agingSlots] at h
  exact h

theorem ageRequests_port : s.ageRequests.port =
    ((s.waiting.filter fun q => Ages s.timer.counter q).flatMap ActRequest.slots).foldl
      (fun p m => p.place .admission false [agedMirror s m]) s.port := by
  rw [← agingSlots_eq]
  exact (ageSlots_spec s.agingSlots
    (s.setWaiting (s.waiting.map (ActRequest.aged s.timer.counter)))).2

theorem ageRequests_eq : s.ageRequests = { s with
    waiting := s.ageRequests.waiting
    mailboxes := s.ageRequests.mailboxes
    port := s.ageRequests.port } := by
  rw [ageRequests_map]
  exact ageSlots_eq s.agingSlots (s.setWaiting (s.waiting.map (ActRequest.aged s.timer.counter)))

end

theorem slotState_codes : ∀ x ∈ ([(.free, 0#8), (.claimed, 1#8), (.requested, 2#8),
    (.challenged, 3#8), (.answered, 4#8), (.decided, 5#8)] : List (SlotState × Byte)),
    x.1.code = x.2 := by decide

/-- Settles O45: an ask with and without a waiting request, aging request by request and slot by slot,
and a failure by the entry's lock and count. -/
theorem checksAskedAgedAndLocked : Obligations.ChecksAskedAgedAndLocked := by
  refine ⟨slotState_codes, fun s m d hd => ⟨askCheck_new hd, fun q hq hx honly hm =>
      ⟨joined s m d, rfl, fun hcls => ?_, fun hcls => ?_⟩⟩, fun s t => ?_, fun s t => ?_,
    fun d counter lockout => ⟨fun h => fail_counts lockout (not_lockInForce h),
      fun h => fail_locks lockout (not_lockInForce h),
      fun u hu hle => fail_inForce lockout (lockInForce_iff.2 ⟨u, hu, hle⟩)⟩⟩
  · rw [askCheck_joins hd hq hx honly hm, if_neg hcls]
  · rw [askCheck_joins hd hq hx honly hm, if_pos hcls]
    exact ageSlot_eq (joined s m d) m
  · exact ⟨(s.atInstant t).ageRequests, rfl, rfl, ageRequests_waiting (s.atInstant t),
      ageRequests_mailboxes (s.atInstant t), ageRequests_port (s.atInstant t),
      ageRequests_eq (s.atInstant t)⟩
  · exact ⟨(s.atInstant t).expireLocks, rfl, rfl, fun d => (mapTab_get _ _ d).trans
      (expire_eq s.timer.counter s.directory[d]), rfl⟩

end Sys2Proof.Checks

namespace Sys2Proof.Visits

-- Theorems that wait in parallel for the kernel each hold a thread's stack.
set_option Elab.async false

open Sys2Proof Sys2Proof.Machine Sys2Proof.Laws Sys2Proof.LaneBank

/-! ## Points 1 and 2 on the call record (R113 to R115) -/

section

variable (x : Call)

/-- The previous key that a visit finds held after its retirement (R115). -/
abbrev keptKey (x : Call) : Option PrevKey :=
  x.prev.filter fun k => x.frame + 1#32 ≠ k.advance + 3#32

/-- The epoch advances at the call's next visit (R114). -/
abbrev Advances (x : Call) : Prop := x.next.isSome = true ∧ keptKey x = none

/-- The record as points 1 and 2 of a visit leave it (R113). -/
def risen (x : Call) (interval : Nat) : Call :=
  if Advances x then { x with
    frame := x.frame + 1#32, epoch := x.epoch + 1#16, key := x.next, next := none,
    prev := x.key.map fun k => { key := k, advance := x.frame + 1#32 },
    countdown := interval, debt := 0, rekeyNow := false }
  else { x with frame := x.frame + 1#32, prev := keptKey x }

theorem retire_eq : ({ x with frame := x.frame + 1#32 } : Call).retire =
    { x with frame := x.frame + 1#32, prev := keptKey x } := by
  unfold Call.retire keptKey
  cases hp : x.prev with
  | none => rfl
  | some k =>
    by_cases h : x.frame + 1#32 = k.advance + 3#32
    · simp [Option.filter, h]
    · simp [Option.filter, h]

theorem willAdvance_eq : x.willAdvance = decide (Advances x) := by
  unfold Call.willAdvance
  rw [retire_eq]
  unfold Call.advances
  rw [Bool.decide_and]
  simp only [Bool.decide_eq_true, ← Option.isNone_iff_eq_none]

theorem step12_eq (interval : Nat) : x.step12 interval = risen x interval := by
  unfold Call.step12 risen
  rw [retire_eq]
  unfold Call.advance Advances
  dsimp only
  generalize keptKey x = kept
  cases hn : x.next with
  | none => simp
  | some n =>
    cases kept with
    | some p => simp
    | none => cases hk : x.key <;> simp

theorem risen_frame (interval : Nat) : (risen x interval).frame = x.frame + 1#32 := by
  unfold risen
  split <;> rfl

theorem risen_epoch (interval : Nat) :
    (risen x interval).epoch = if Advances x then x.epoch + 1#16 else x.epoch := by
  unfold risen
  split <;> rfl

theorem risen_laneKeys (interval : Nat) : (risen x interval).laneKeys =
    { prev := (risen x interval).prev.map PrevKey.key, cur := (risen x interval).key,
      epoch := some (if Advances x then x.epoch + 1#16 else x.epoch),
      next := (risen x interval).next, secret := none } := by
  unfold Call.laneKeys
  rw [risen_epoch]

theorem risen_members (interval : Nat) : (risen x interval).members = x.members := by
  unfold risen
  split <;> rfl

theorem risen_lane (interval : Nat) : (risen x interval).lane = x.lane := by
  unfold risen
  split <;> rfl

theorem risen_switches (interval : Nat) : (risen x interval).switches = x.switches := by
  unfold risen
  split <;> rfl

end

/-! ## Points 3 and 4: the slots opened, and the short frames (R130, R131) -/

section

theorem openSlots_eq (f : Word) (n : Half) (ms : List Member) (s : State) :
    s.openSlots f n ms = { s with rings := (s.openSlots f n ms).rings } := by
  induction ms generalizing s with
  | nil => rfl
  | cons m ms ih => exact (ih _).trans rfl

theorem openSlots_other (f : Word) (n : Half) {ms : List Member} {r : RingNo} (s : State)
    (h : ∀ m ∈ ms, m.ring ≠ r) : (s.openSlots f n ms).rings[r] = s.rings[r] := by
  induction ms generalizing s with
  | nil => rfl
  | cons m ms ih =>
    obtain ⟨hm, hms⟩ := List.forall_mem_cons.1 h
    rw [State.openSlots, ih _ hms, setRing_get_ne s _ hm.symm]

/-- The slot of the frame is opened on every ring of the list (R130). -/
theorem openSlots_member (f : Word) (n : Half) {ms : List Member} (s : State)
    (hnodup : (ms.map Member.ring).Nodup) {m : Member} (hm : m ∈ ms) :
    (s.openSlots f n ms).rings[m.ring] = s.rings[m.ring].openSlot f n := by
  induction ms generalizing s with
  | nil => cases hm
  | cons m' ms ih =>
    obtain ⟨hne, hrest⟩ := List.nodup_cons.1 hnodup
    have hfirst : ∀ k ∈ ms, k.ring ≠ m'.ring := fun k hk h => hne (h ▸ List.mem_map_of_mem hk)
    rw [State.openSlots]
    rcases List.mem_cons.1 hm with rfl | hm
    · rw [openSlots_other f n _ hfirst, setRing_get_self]
    · rw [ih _ hrest hm, setRing_get_ne s _ (hfirst m hm)]

/-- The short frames of an endpoint after the examination of a ring (R131). -/
def counted (r : Ring) (f : Word) (e : EndpointRec) : EndpointRec :=
  if r.isShort f then { e with shortFrames := satSucc 65535 e.shortFrames } else e

/-- The examination of the first ring of the list (R131). -/
theorem examine_cons (f : Word) (m : Member) (ms : List Member) (s : State) :
    s.examine f (m :: ms) =
      (s.setEp m.ep (counted s.rings[m.ring] f s.endpoints[m.ep])).examine f ms := by
  unfold counted
  rw [State.examine]
  split
  · rfl
  · have hself : s.endpoints.set m.ep s.endpoints[m.ep] = s.endpoints :=
      Vector.set_getElem_self m.ep.isLt
    exact congrArg (fun v => State.examine { s with endpoints := v } f ms) hself.symm

theorem examine_eq (f : Word) (ms : List Member) (s : State) :
    s.examine f ms = { s with endpoints := (s.examine f ms).endpoints } := by
  induction ms generalizing s with
  | nil => rfl
  | cons m ms ih =>
    rw [examine_cons]
    exact (ih _).trans rfl

theorem examine_other (f : Word) {ms : List Member} {e : EpNo} (s : State)
    (h : ∀ m ∈ ms, m.ep ≠ e) : (s.examine f ms).endpoints[e] = s.endpoints[e] := by
  induction ms generalizing s with
  | nil => rfl
  | cons m ms ih =>
    obtain ⟨hm, hms⟩ := List.forall_mem_cons.1 h
    rw [examine_cons, ih _ hms, setEp_get_ne s _ hm.symm]

theorem examine_member (f : Word) {ms : List Member} (s : State)
    (hnodup : (ms.map Member.ep).Nodup) {m : Member} (hm : m ∈ ms) :
    (s.examine f ms).endpoints[m.ep] = counted s.rings[m.ring] f s.endpoints[m.ep] := by
  induction ms generalizing s with
  | nil => cases hm
  | cons m' ms ih =>
    obtain ⟨hne, hrest⟩ := List.nodup_cons.1 hnodup
    have hfirst : ∀ k ∈ ms, k.ep ≠ m'.ep := fun k hk h => hne (h ▸ List.mem_map_of_mem hk)
    rw [examine_cons]
    rcases List.mem_cons.1 hm with rfl | hm
    · rw [examine_other f _ hfirst, setEp_get_self]
    · rw [ih _ hrest hm, setEp_get_ne s _ (hfirst m hm)]
      rfl

theorem satSucc_eq_min (max n : Nat) : satSucc max n = min max (n + 1) := by
  unfold satSucc
  split <;> omega

/-- The slot of frame f − 2 is not the one that the visit of frame f opened (R44). -/
theorem openSlot_examined (r : Ring) (f : Word) (n : Half) (e : EndpointRec) :
    counted (r.openSlot f n) (f - 2#32) e = { e with
      shortFrames := if (r.slots[(f - 2#32).toNat % 4]'(Nat.mod_lt _ (by decide))).any
          (fun o => o.frame = f - 2#32 && o.fill ≠ 0xFF#8) then min 65535 (e.shortFrames + 1)
        else e.shortFrames } := by
  have hslot : f.toNat % 4 ≠ (f - 2#32).toNat % 4 := by
    rw [BitVec.toNat_sub]
    have := f.isLt
    simp
    omega
  have hkept : (r.openSlot f n).slots[(f - 2#32).toNat % 4]'(Nat.mod_lt _ (by decide))
      = r.slots[(f - 2#32).toNat % 4]'(Nat.mod_lt _ (by decide)) :=
    Vector.getElem_set_ne (Nat.mod_lt _ (by decide)) (Nat.mod_lt _ (by decide)) hslot
  have hshort : (r.openSlot f n).isShort (f - 2#32)
      = (r.slots[(f - 2#32).toNat % 4]'(Nat.mod_lt _ (by decide))).any
          (fun o => o.frame = f - 2#32 && o.fill ≠ 0xFF#8) := by
    unfold Ring.isShort
    rw [hkept]
    cases r.slots[(f - 2#32).toNat % 4]'(Nat.mod_lt _ (by decide)) <;> rfl
  unfold counted
  rw [hshort, satSucc_eq_min]
  split <;> rfl

end

end Sys2Proof.Visits

namespace Sys2Proof.Visits

-- Theorems that wait in parallel for the kernel each hold a thread's stack.
set_option Elab.async false

open Sys2Proof Sys2Proof.Machine Sys2Proof.Laws Sys2Proof.LaneBank

/-! ## The visit of a call (R113) -/

section

variable (s : State) (c : CallNo)

/-- A READY lane follows its call (R94). -/
theorem syncLane_ready {l : LaneNo} (hl : s.calls[c].lane = some l) (h : s.lanes[l].state = .ready) :
    s.syncLane c = s.setLane l { s.lanes[l] with keys := s.calls[c].laneKeys } := by
  have hready : s.readyLane c = some l := by
    unfold State.readyLane Lane.isReady
    simp only [hl, h, decide_true, if_true]
  unfold State.syncLane
  rw [hready]

theorem syncLane_none (h : ∀ l, s.calls[c].lane = some l → s.lanes[l].state ≠ .ready) :
    s.syncLane c = s := by
  have hnone : s.readyLane c = none := by
    unfold State.readyLane Lane.isReady
    cases hl : s.calls[c].lane with
    | none => rfl
    | some l => simp only [h l hl, decide_false, Bool.false_eq_true, if_false]
  unfold State.syncLane
  rw [hnone]

theorem syncLane_eq : s.syncLane c = { s with lanes := (s.syncLane c).lanes } := by
  unfold State.syncLane
  split <;> rfl

/-- The state after points 1 and 2 of a visit (R113, R94). -/
def synced (s : State) (c : CallNo) : State :=
  (s.setCall c (risen s.calls[c] s.thePlan.rekeyInterval)).syncLane c

/-- The state after points 1 to 4 of a visit (R113). -/
def examined (s : State) (c : CallNo) : State :=
  let x := risen s.calls[c] s.thePlan.rekeyInterval
  ((synced s c).openSlots x.frame x.epoch x.members).examine (x.frame - 2#32) x.members

theorem synced_eq : synced s c = { s with
    calls := s.calls.set c (risen s.calls[c] s.thePlan.rekeyInterval)
    lanes := (synced s c).lanes } := syncLane_eq _ c

theorem synced_call : (synced s c).calls[c] = risen s.calls[c] s.thePlan.rekeyInterval := by
  rw [synced_eq]
  exact setCall_get_self s c _

theorem examined_eq : examined s c = { s with
    calls := s.calls.set c (risen s.calls[c] s.thePlan.rekeyInterval)
    rings := (examined s c).rings
    endpoints := (examined s c).endpoints
    lanes := (synced s c).lanes } := by
  unfold examined
  dsimp only
  have hsynced := synced_eq s c
  generalize risen s.calls[c] s.thePlan.rekeyInterval = x at hsynced ⊢
  have hopened := openSlots_eq x.frame x.epoch x.members (synced s c)
  generalize (synced s c).openSlots x.frame x.epoch x.members = v at hopened ⊢
  have hexamined := examine_eq (x.frame - 2#32) x.members v
  generalize v.examine (x.frame - 2#32) x.members = w at hexamined ⊢
  generalize synced s c = u at hsynced hopened ⊢
  rw [hexamined, hopened, hsynced]

theorem examined_only : examined s c = { s with
    calls := (examined s c).calls
    timer := (examined s c).timer
    rings := (examined s c).rings
    endpoints := (examined s c).endpoints
    lanes := (examined s c).lanes } := by
  have h := examined_eq s c
  generalize examined s c = u at h ⊢
  rw [h]

theorem examined_rings_eq : (examined s c).rings =
    ((synced s c).openSlots (s.calls[c].frame + 1#32)
      (if Advances s.calls[c] then s.calls[c].epoch + 1#16 else s.calls[c].epoch)
      s.calls[c].members).rings := by
  unfold examined
  dsimp only
  rw [risen_frame, risen_epoch, risen_members, examine_eq]

/-- The member rings' slots of the new frame are open after the visit (R130). -/
theorem examined_ring (hnodup : (s.calls[c].members.map Member.ring).Nodup) {m : Member}
    (hm : m ∈ s.calls[c].members) : (examined s c).rings[m.ring] =
      s.rings[m.ring].openSlot (s.calls[c].frame + 1#32)
        (if Advances s.calls[c] then s.calls[c].epoch + 1#16 else s.calls[c].epoch) := by
  rw [examined_rings_eq, openSlots_member _ _ _ hnodup hm, synced_eq]

theorem examined_ring_other {r : RingNo} (h : ∀ m ∈ s.calls[c].members, m.ring ≠ r) :
    (examined s c).rings[r] = s.rings[r] := by
  rw [examined_rings_eq, openSlots_other _ _ _ h, synced_eq]

/-- Each member's short frame is counted on its ring as the visit found it (R131). -/
theorem examined_endpoint (hrings : (s.calls[c].members.map Member.ring).Nodup)
    (heps : (s.calls[c].members.map Member.ep).Nodup) {m : Member}
    (hm : m ∈ s.calls[c].members) : (examined s c).endpoints[m.ep] =
      counted (s.rings[m.ring].openSlot (s.calls[c].frame + 1#32)
          (if Advances s.calls[c] then s.calls[c].epoch + 1#16 else s.calls[c].epoch))
        (s.calls[c].frame + 1#32 - 2#32) s.endpoints[m.ep] := by
  unfold examined
  dsimp only
  rw [risen_frame, risen_epoch, risen_members, examine_member _ _ heps hm,
    openSlots_member _ _ _ hrings hm, openSlots_eq, synced_eq]

theorem examined_endpoint_other {e : EpNo} (h : ∀ m ∈ s.calls[c].members, m.ep ≠ e) :
    (examined s c).endpoints[e] = s.endpoints[e] := by
  unfold examined
  dsimp only
  rw [risen_members, examine_other _ _ h, openSlots_eq, synced_eq]

/-- A READY lane of the call takes the keys of the new record (R94). -/
theorem synced_ready {l : LaneNo} (hl : s.calls[c].lane = some l) (h : s.lanes[l].state = .ready) :
    (synced s c).lanes = s.lanes.set l { s.lanes[l] with
      keys := (risen s.calls[c] s.thePlan.rekeyInterval).laneKeys } := by
  have hcall := setCall_get_self s c (risen s.calls[c] s.thePlan.rekeyInterval)
  unfold synced
  rw [syncLane_ready (s.setCall c _) c (by rw [hcall, risen_lane, hl]) h, hcall]
  rfl

theorem synced_none (h : ∀ l, s.calls[c].lane = some l → s.lanes[l].state ≠ .ready) :
    (synced s c).lanes = s.lanes := by
  have hcall := setCall_get_self s c (risen s.calls[c] s.thePlan.rekeyInterval)
  unfold synced
  rw [syncLane_none]
  · rfl
  · rw [hcall, risen_lane]
    exact h

theorem examined_call : (examined s c).calls[c] = risen s.calls[c] s.thePlan.rekeyInterval := by
  rw [examined_eq]
  exact setCall_get_self s c _

/-- The switches after points 1 to 4, and point 6 while the call is OPEN (R113). -/
theorem visitCall_eq : s.visitCall c =
    let v := State.applySwitches s.calls[c].switches c (examined s c)
    if v.calls[c].state = .opened then v.rekeyWork c (decide (Advances s.calls[c])) else v := by
  have hswitches : (examined s c).calls[c].switches = s.calls[c].switches := by
    rw [examined_call, risen_switches]
  have hexamined : ((synced s c).openSlots (synced s c).calls[c].frame (synced s c).calls[c].epoch
      (synced s c).calls[c].members).examine ((synced s c).calls[c].frame - 2#32)
      (synced s c).calls[c].members = examined s c := by
    rw [synced_call]
    rfl
  have hsynced : (s.setCall c (s.calls[c].step12 s.thePlan.rekeyInterval)).syncLane c
      = synced s c := by
    rw [step12_eq]
    rfl
  unfold State.visitCall
  dsimp only
  rw [willAdvance_eq, hsynced, hexamined, hswitches]

end

/-! ## Point 6: the countdown and the ask (R116, R117) -/

section

variable (s : State) (c : CallNo)

theorem derivingFor_iff : s.derivingFor c = true ↔ ∃ (l : LaneNo) (x : Expansion),
    s.lanes[l].state = .expanding ∧ s.lanes[l].subject = some (.call c)
      ∧ s.lanes[l].expansion = some x ∧ x.derives = true := by
  unfold State.derivingFor
  simp only [List.any_eq_true, Bool.and_eq_true, decide_eq_true_iff, List.mem_finRange, true_and]
  refine exists_congr fun l => ?_
  cases s.lanes[l].expansion with
  | none => simp
  | some x => simp [and_assoc]

/-- The record with the countdown of a visit (R116). -/
def lowered (y : Call) (advanced : Bool) : Call :=
  { y with countdown := if advanced then y.countdown else y.countdown - 1 }

/-- The record with the debt of a rekey that is due and has no next key (R117). -/
def owed (y : Call) (advanced : Bool) : Call :=
  { lowered y advanced with debt := min 8 (y.debt + 1) }

/-- A rekey falls due, and no next key is held (R116, R117). -/
abbrev RekeyDue (y : Call) (advanced : Bool) : Prop :=
  ((lowered y advanced).countdown = 0 ∨ y.rekeyNow = true) ∧ y.next = none

theorem rekeyWork_eq (advanced : Bool) : s.rekeyWork c advanced =
    if RekeyDue s.calls[c] advanced then (s.setCall c (owed s.calls[c] advanced)).askRekey c
    else s.setCall c (lowered s.calls[c] advanced) := by
  have hlowered : (if advanced then s.calls[c]
      else { s.calls[c] with countdown := s.calls[c].countdown - 1 }) = lowered s.calls[c] advanced := by
    cases advanced <;> rfl
  have hdue : ((lowered s.calls[c] advanced).rekeyDue && (lowered s.calls[c] advanced).next.isNone)
      = true ↔ RekeyDue s.calls[c] advanced := by
    simp only [Call.rekeyDue, Bool.and_eq_true, Bool.or_eq_true, decide_eq_true_iff,
      Option.isNone_iff_eq_none]
    rfl
  unfold State.rekeyWork
  dsimp only
  rw [hlowered, if_congr hdue rfl rfl]
  unfold owed
  rw [← satSucc_eq_min]
  unfold State.setCall
  rw [Vector.set_set]
  rfl

theorem askRekey_deriving (h : s.derivingFor c = true) : s.askRekey c = s := if_pos h

/-- A call with no waiting request asks (R82). -/
theorem askRekey_new (h : s.derivingFor c = false) (hnone : ∀ q ∈ s.waiting, q.subject ≠ .call c) :
    s.askRekey c = { s with waiting := s.waiting ++ [{
      subject := .call c, cls := if s.calls[c].debt = 8 then .rekeyForced else .rekey, age := s.now,
      derive_ := true, slots := [], askTick := 0#32 }] } := by
  have hw := Option.isNone_iff_eq_none.1 ((waitingFor_isNone_iff s (.call c)).2 hnone)
  unfold State.askRekey
  simp only [h, hw, Option.isSome_none, Bool.false_eq_true, if_false, decide_eq_true_iff]
  rfl

/-- A call that has a waiting request changes it (R82). -/
theorem askRekey_joins (h : s.derivingFor c = false) (hsome : ∃ q ∈ s.waiting, q.subject = .call c) :
    s.askRekey c = { s with waiting := s.waiting.map fun q =>
      if q.subject = Subject.call c then
        if s.calls[c].debt = 8 then { q with derive_ := true, cls := .rekeyForced, age := s.now }
        else { q with derive_ := true }
      else q } := by
  have hw : (s.waitingFor (.call c)).isSome = true := by
    obtain ⟨q, hq, hc⟩ := hsome
    rw [← Option.not_isNone, Bool.not_eq_true', ← Bool.not_eq_true, waitingFor_isNone_iff]
    exact fun hnone => hnone q hq hc
  unfold State.askRekey
  simp only [h, hw, Bool.false_eq_true, if_false, if_true, decide_eq_true_iff]
  rfl

end

end Sys2Proof.Visits

namespace Sys2Proof.Visits

-- Theorems that wait in parallel for the kernel each hold a thread's stack.
set_option Elab.async false

open Sys2Proof Sys2Proof.Machine Sys2Proof.Laws Sys2Proof.LaneBank

/-! ## The visit as a command, and REKEY_COUNTDOWN_EXPIRY (log 4, log 42) -/

section

variable {s : State} {p : Pass} {c : CallNo}

/-- The state in which a pass visits a call (R129). -/
def visiting (s : State) (t : Instant) (p : Pass) (c : CallNo) : State :=
  (s.atInstant t).setTimer { s.timer with pass := some { p with pos := .calls (some c) } }

theorem exec_visit (t : Instant) (h : s.dueVisit = some (p, c)) :
    exec (.visit t) s = .next ((visiting s t p c).visitCall c).settle := by
  have hnext : (s.atInstant t).visitNext = (visiting s t p c).visitCall c := by
    have h' : (s.atInstant t).dueVisit = some (p, c) := h
    unfold State.visitNext
    rw [h']
    rfl
  rw [← hnext]
  rfl

theorem exec_rekeyCountdownExpiry (t : Instant) (h : s.dueVisit = some (p, c)) :
    exec (.rekeyCountdownExpiry t) s =
      if s.calls[c].rekeyNext then exec (.visit t) s else .next (s.atInstant t).settle := by
  have hrekey : (s.atInstant t).visitRekey =
      if s.calls[c].rekeyNext then (visiting s t p c).visitCall c else s.atInstant t := by
    have h' : (s.atInstant t).dueVisit = some (p, c) := h
    unfold State.visitRekey
    rw [h']
    rfl
  rw [exec_visit t h, show exec (.rekeyCountdownExpiry t) s
    = .next (s.atInstant t).visitRekey.settle from rfl, hrekey]
  split <;> rfl

theorem rekeyNext_iff (x : Call) :
    x.rekeyNext = true ↔ ¬ Advances x ∧ (x.countdown ≤ 1 ∨ x.rekeyNow = true) := by
  unfold Call.rekeyNext
  rw [willAdvance_eq, Bool.and_eq_true, Bool.or_eq_true, Bool.not_eq_true', decide_eq_false_iff_not,
    decide_eq_true_iff]

end

section

variable (v : State) (c : CallNo) (advanced : Bool)

theorem rekeyWork_notDue (h : ¬ RekeyDue v.calls[c] advanced) : v.rekeyWork c advanced =
    { v with calls := v.calls.set c (lowered v.calls[c] advanced) } := by
  rw [rekeyWork_eq, if_neg h]
  rfl

/-- The ask of a rekey that is due (R116, R117). -/
theorem rekeyWork_due (h : RekeyDue v.calls[c] advanced) : v.rekeyWork c advanced =
    (v.setCall c (owed v.calls[c] advanced)).askRekey c := by
  rw [rekeyWork_eq, if_pos h]

theorem owed_debt : ((v.setCall c (owed v.calls[c] advanced)).calls[c].debt = 8)
    = (7 ≤ v.calls[c].debt) := by
  rw [setCall_get_self]
  unfold owed
  exact propext ⟨fun h => by simp only at h; omega, fun h => by simp only; omega⟩

end

/-- Settles O41: points 1 to 4 on the record, the rings, the endpoints and the lane, and point 6 by
whether a rekey is due, a derivation is in flight, and a request waits. -/
theorem callVisited : Obligations.CallVisited := by
  refine ⟨fun s t p c x hdue hx heps hrings => ?_, fun v c advanced y hy => ?_⟩
  · subst hx
    refine ⟨examined (visiting s t p c) c, _, rfl, ?_, fun hstays hnext => ?_, fun h => ?_, ?_, ?_,
      fun m hm => examined_ring (visiting s t p c) c hrings hm,
      fun r hr => examined_ring_other (visiting s t p c) c hr, fun m hm => ?_,
      fun e he => examined_endpoint_other (visiting s t p c) c he, fun l hl hready => ?_,
      fun h => ?_, ?_⟩
    · rw [exec_visit t hdue, visitCall_eq]
      rfl
    · rw [exec_rekeyCountdownExpiry t hdue, if_pos ((rekeyNext_iff _).2 ⟨hstays, hnext⟩)]
    · rw [exec_rekeyCountdownExpiry t hdue, if_neg fun hnext => ?_]
      obtain ⟨hstays, hnext⟩ := (rekeyNext_iff _).1 hnext
      rcases h with h | ⟨hcount, hnow⟩
      · exact hstays h
      · rcases hnext with h | h
        · exact absurd hcount (Nat.not_lt.2 h)
        · rw [hnow] at h
          cases h
    · rw [examined_eq]
      rfl
    · rw [examined_eq]
      rfl
    · exact (examined_endpoint (visiting s t p c) c hrings heps hm).trans
        (openSlot_examined s.rings[m.ring] _ _ _)
    · rw [examined_eq]
      exact (synced_ready (visiting s t p c) c hl hready).trans (by rw [risen_laneKeys]; rfl)
    · rw [examined_eq]
      exact synced_none (visiting s t p c) c h
    · exact examined_only (visiting s t p c) c
  · subst hy
    refine ⟨rekeyWork_notDue v c advanced, fun hd hderives => ?_, fun hd hderives hnone => ?_,
      fun hd hderives hsome => ?_⟩
    · rw [rekeyWork_due v c advanced hd,
        askRekey_deriving _ _ ((derivingFor_iff (v.setCall c _) c).2 hderives)]
      rfl
    · rw [rekeyWork_due v c advanced hd, askRekey_new _ _ (Bool.eq_false_iff.2 fun h =>
        hderives ((derivingFor_iff (v.setCall c _) c).1 h)) hnone]
      simp only [owed_debt]
      rfl
    · rw [rekeyWork_due v c advanced hd, askRekey_joins _ _ (Bool.eq_false_iff.2 fun h =>
        hderives ((derivingFor_iff (v.setCall c _) c).1 h)) hsome]
      simp only [owed_debt]
      rfl

end Sys2Proof.Visits

namespace Sys2Proof.Comparison

-- Theorems that wait in parallel for the kernel each hold a thread's stack.
set_option Elab.async false

open Sys2Proof Sys2Proof.Machine Sys2Proof.Laws Sys2Proof.Pairs Sys2Proof.Checks

/-! ## The slots of an activation, in the order of its list (R93) -/

section

variable {s : State} {d : EntryNo}

theorem compareSlots_foldl (ms : List MboxNo) (s : State) :
    s.compareSlots d ms = ms.foldl (fun v m => v.compareSlot d m) s := by
  induction ms generalizing s with
  | nil => rfl
  | cons m ms ih => exact ih _

theorem completeEntryLane_entry {l : LaneNo} {x : Expansion}
    (hstate : s.lanes[l].state = .expanding) (hsubject : s.lanes[l].subject = some (.entry d))
    (hx : s.lanes[l].expansion = some x) : s.completeEntryLane l =
      (x.slots.foldl (fun v m => v.compareSlot d m) (s.atInstant x.finish)).setLane l
        s.lanes[l].emptied := by
  have hlanes : ((s.atInstant x.finish).compareSlots d x.slots).lanes = s.lanes :=
    (congrArg State.lanes (compareSlots_only d x.slots (s.atInstant x.finish)) :)
  unfold State.completeEntryLane
  rw [hstate, hsubject, hx]
  unfold State.completeEntry
  dsimp only
  rw [hlanes, compareSlots_foldl]

end

/-! ## The comparison of a slot (R155) -/

section

variable {s : State} {d : EntryNo} {m : MboxNo}

theorem compareSlot_notReady (h : s.mailboxes[m].state ≠ .answered ∨ s.mailboxes[m].selfRead = true) :
    s.compareSlot d m = s := by
  unfold State.compareSlot
  dsimp only
  split
  · rename_i hstate hread _ _ _
    rw [hstate, hread] at h
    simp at h
  · rfl

/-- The owner admitted at the entry, with the byte order of its request (R155, step 4). -/
def admitted (v : State) (m : MboxNo) (d : EntryNo) (e : EpNo) (be : Bool) : State :=
  ((((v.setEp e { v.endpoints[e] with admitted := some d, bigEndian := be }).setEntry d
    { v.directory[d] with admittedEp := some e, fails := 0 }).decideSlot m
      { code := .admitted, detail := wordN d.val }).raise .admitted (.endpoint (halfN e.val)) [])

theorem admitOwner_admitted {e : EpNo} {be : Bool} (h : s.mailboxes[m].bigEndian = some be) :
    s.admitOwner m d e = admitted (movedState s d e) m d e be := by
  have hmoved : (movedState s d e).mailboxes[m].bigEndian = some be := by
    rw [movedState_mailboxes, h]
  rw [admitOwner_eq, hmoved]
  rfl

theorem movedState_same {e : EpNo}
    (h : s.directory[d].admittedEp = none ∨ s.directory[d].admittedEp = some e) :
    movedState s d e = s := by
  unfold movedState
  rcases h with h | h
  · rw [h]
  · rw [h]
    exact if_pos rfl

theorem movedState_moved {e o : EpNo} (h : s.directory[d].admittedEp = some o) (ho : o ≠ e) :
    movedState s d e = s.deadmit o .moved := by
  unfold movedState
  rw [h]
  exact if_neg ho

theorem inUseBy_some {e o : EpNo} (h : s.directory[d].admittedEp = some o) (ho : o ≠ e)
    (hcall : s.endpoints[o].call.isSome = true) : s.inUseBy d e = some o := by
  have hin : (decide (o ≠ e) && s.endpoints[o].call.isSome) = true := by
    rw [decide_eq_true ho, hcall]
    rfl
  unfold State.inUseBy
  rw [h]
  exact if_pos hin

theorem inUseBy_none {e : EpNo} (h : ∀ o, s.directory[d].admittedEp = some o → o = e
    ∨ s.endpoints[o].call = none) : s.inUseBy d e = none := by
  unfold State.inUseBy
  cases ho : s.directory[d].admittedEp with
  | none => rfl
  | some o =>
    have hout : (decide (o ≠ e) && s.endpoints[o].call.isSome) = false := by
      rcases h o ho with h | h
      · rw [decide_eq_false (not_not_intro h), Bool.false_and]
      · rw [h, Option.isSome_none, Bool.and_false]
    exact if_neg (Bool.eq_false_iff.1 hout)

/-- The entry without its lock, as the comparison finds it once the lock has ended (R155). -/
def unlocked (s : State) (d : EntryNo) : State :=
  s.setEntry d { s.directory[d] with lock := none }

/-- The endings of the comparison of a right answer (R155, steps 3 and 4). -/
def accept (u : State) (m : MboxNo) (d : EntryNo) (e : EpNo) : State :=
  (u.inUseBy d e).elim (u.admitOwner m d e) fun o =>
    u.decideSlot m { code := .inUse, detail := wordN o.val }

/-- The endings of the comparison of a wrong answer (R155, step 2; R142). -/
def reject (u : State) (m : MboxNo) (d : EntryNo) : State :=
  if u.directory[d].failureLocks u.timer.counter then
    (u.countFailure d).decideSlot m { code := .locked, detail := wordN u.thePlan.lockout }
  else (u.countFailure d).decideSlot m
    { code := .wrong, detail := wordN (u.countFailure d).directory[d].fails }

variable {e : EpNo} {c : Half} {given : Half × Half}

/-- A ready slot is decided by the entry, its lock, and the answer, in that order (R155). -/
theorem compareSlot_ready (hstate : s.mailboxes[m].state = .answered)
    (hread : s.mailboxes[m].selfRead = false) (howner : s.mailboxes[m].owner = some e)
    (hc : s.mailboxes[m].challenge = some c) (hgiven : s.mailboxes[m].answer = some given) :
    s.compareSlot d m =
      if !s.directory[d].enabled || some s.directory[d].number ≠ s.mailboxes[m].number then
        s.decideSlot m { code := .noEntry, detail := 0#32 }
      else if s.directory[d].lockInForce s.timer.counter then
        s.decideSlot m { code := .locked, detail := s.directory[d].ticksLeft s.timer.counter }
      else if expectedAnswer s.directory[d].secret c ≠ given then
        reject (s.setEntry d (s.directory[d].dropEnded s.timer.counter)) m d
      else accept (s.setEntry d (s.directory[d].dropEnded s.timer.counter)) m d e := by
  unfold State.compareSlot reject accept
  simp only [hstate, hread, howner, hc, hgiven]
  generalize s.setEntry d (s.directory[d].dropEnded s.timer.counter) = u
  cases u.inUseBy d e <;> rfl

/-! ### The endings, where the lock has ended -/

theorem dropEnded_eq (h : s.directory[d].lockInForce s.timer.counter = false) :
    s.setEntry d (s.directory[d].dropEnded s.timer.counter) = unlocked s d := by
  unfold DirEntry.dropEnded unlocked
  rw [h]
  rfl

theorem unlocked_entry : (unlocked s d).directory[d] = { s.directory[d] with lock := none } :=
  setEntry_get_self s d _

theorem unlocked_lock : (unlocked s d).directory[d].lockInForce (unlocked s d).timer.counter
    = false := by
  rw [unlocked_entry]
  rfl

theorem unlocked_setEntry (x : DirEntry) : (unlocked s d).setEntry d x = s.setEntry d x := by
  unfold unlocked State.setEntry
  rw [Vector.set_set]

/-- A wrong answer below the limit is counted (R142, R155). -/
theorem reject_counts (h : s.directory[d].fails < 2) : reject (unlocked s d) m d =
    (s.setEntry d { s.directory[d] with
      lock := none, fails := s.directory[d].fails + 1 }).decideSlot m
        { code := .wrong, detail := wordN (s.directory[d].fails + 1) } := by
  have hcount : (unlocked s d).countFailure d = s.setEntry d { s.directory[d] with
      lock := none, fails := s.directory[d].fails + 1 } := by
    unfold State.countFailure
    rw [fail_counts _ unlocked_lock (by rw [unlocked_entry]; exact h), unlocked_setEntry,
      unlocked_entry]
  have hlocks : (unlocked s d).directory[d].failureLocks (unlocked s d).timer.counter = false := by
    unfold DirEntry.failureLocks
    rw [unlocked_entry, decide_eq_false (Nat.not_le.2 h), Bool.and_false]
  unfold reject
  rw [hlocks, if_neg (by decide), hcount, setEntry_get_self]

/-- The third wrong answer in a row locks the entry (R142, R155). -/
theorem reject_locks (h : s.directory[d].fails = 2) : reject (unlocked s d) m d =
    (s.setEntry d { s.directory[d] with
      fails := 0, lock := some (s.timer.counter + wordN s.thePlan.lockout) }).decideSlot m
        { code := .locked, detail := wordN s.thePlan.lockout } := by
  have hcount : (unlocked s d).countFailure d = s.setEntry d { s.directory[d] with
      fails := 0, lock := some (s.timer.counter + wordN s.thePlan.lockout) } := by
    unfold State.countFailure
    rw [fail_locks _ unlocked_lock (by rw [unlocked_entry]; exact h), unlocked_setEntry,
      unlocked_entry]
    rfl
  have hlocks : (unlocked s d).directory[d].failureLocks (unlocked s d).timer.counter = true := by
    unfold DirEntry.failureLocks
    rw [unlocked_lock, unlocked_entry, h]
    rfl
  unfold reject
  rw [hlocks, if_pos rfl, hcount]
  rfl

theorem unlocked_admitted : (unlocked s d).directory[d].admittedEp = s.directory[d].admittedEp := by
  rw [unlocked_entry]

theorem accept_inUse {o : EpNo} (h : s.directory[d].admittedEp = some o) (ho : o ≠ e)
    (hcall : s.endpoints[o].call.isSome = true) : accept (unlocked s d) m d e =
      (unlocked s d).decideSlot m { code := .inUse, detail := wordN o.val } := by
  unfold accept
  rw [inUseBy_some (unlocked_admitted.trans h) ho hcall]
  rfl

theorem accept_free {be : Bool}
    (h : s.directory[d].admittedEp = none ∨ s.directory[d].admittedEp = some e)
    (hbe : s.mailboxes[m].bigEndian = some be) :
    accept (unlocked s d) m d e = admitted (unlocked s d) m d e be := by
  have hsame := unlocked_admitted (s := s) (d := d)
  have hnone : (unlocked s d).inUseBy d e = none := inUseBy_none fun o ho => .inl (by
    rw [hsame] at ho
    rcases h with h | h
    · rw [h] at ho
      cases ho
    · exact Option.some.inj (ho.symm.trans h))
  unfold accept
  rw [hnone, Option.elim_none, admitOwner_admitted (s := unlocked s d) hbe,
    movedState_same (by rwa [hsame])]

theorem accept_moved {o : EpNo} {be : Bool} (h : s.directory[d].admittedEp = some o) (ho : o ≠ e)
    (hcall : s.endpoints[o].call = none) (hbe : s.mailboxes[m].bigEndian = some be) :
    accept (unlocked s d) m d e = admitted ((unlocked s d).deadmit o .moved) m d e be := by
  have hu := unlocked_admitted.trans h
  have hnone : (unlocked s d).inUseBy d e = none := inUseBy_none fun o' ho' => .inr (by
    rw [hu] at ho'
    cases ho'
    exact hcall)
  unfold accept
  rw [hnone, Option.elim_none, admitOwner_admitted (s := unlocked s d) hbe, movedState_moved hu ho]

end

/-- Settles O31: the activation's slots in list order, and a slot by the entry, its lock, the answer
and the endpoint that the entry names. -/
theorem answersCompared : Obligations.AnswersCompared := by
  refine ⟨fun s l d x hstate hsubject hx => LaneEventSteps.exec_entryCompletion
      (completeEntryLane_entry hstate hsubject hx), fun s d m b hb => ?_⟩
  subst hb
  refine ⟨compareSlot_notReady, fun e c given hstate hread howner hc hgiven => ?_⟩
  have hready := compareSlot_ready (d := d) hstate hread howner hc hgiven
  refine ⟨fun h => ?_, fun henabled hnumber => ?_⟩
  · refine hready.trans (if_pos ?_)
    rcases h with h | h
    · rw [h]
      rfl
    · rw [decide_eq_true h.symm, Bool.or_true]
  · have hnamed : (!s.directory[d].enabled
        || decide (some s.directory[d].number ≠ s.mailboxes[m].number)) = false := by
      rw [henabled, decide_eq_false (not_not_intro hnumber.symm)]
      rfl
    replace hready := hready.trans (if_neg (Bool.eq_false_iff.1 hnamed))
    refine ⟨fun u hu hle => ?_, fun hlock hwrong => ?_, fun hlock hright => ?_⟩
    · refine hready.trans ((if_pos (lockInForce_iff.2 ⟨u, hu, hle⟩)).trans ?_)
      unfold DirEntry.ticksLeft
      rw [hu]
    · have hended := Bool.eq_false_iff.2 (mt lockInForce_iff.1 hlock)
      rw [if_neg (Bool.eq_false_iff.1 hended), if_pos hwrong, dropEnded_eq hended] at hready
      exact ⟨fun h => hready.trans (reject_counts h), fun h => hready.trans (reject_locks h)⟩
    · have hended := Bool.eq_false_iff.2 (mt lockInForce_iff.1 hlock)
      rw [if_neg (Bool.eq_false_iff.1 hended), if_neg (not_not_intro hright), dropEnded_eq hended]
        at hready
      exact ⟨fun o h ho hcall => hready.trans (accept_inUse h ho hcall),
        fun be h hbe => hready.trans (accept_free h hbe),
        fun o be h ho hcall hbe => hready.trans (accept_moved h ho hcall hbe)⟩

end Sys2Proof.Comparison

namespace Sys2Proof.CallOrders

-- Theorems that wait in parallel for the kernel each hold a thread's stack.
set_option Elab.async false

open Sys2Proof Sys2Proof.Machine Sys2Proof.Laws Sys2Proof.Restart Sys2Proof.CloseOrders

/-! ## REKEY-NOW (R112) -/

section

variable {s : State} {c : CallNo} {q : Half}

theorem rekeyLevel_of_lt {level : Byte} {lv : Fin 8} (h : level.toNat = lv.val) :
    rekeyLevel level = some (some lv) := by
  have hlt : level.toNat < 8 := h ▸ lv.isLt
  have hne : level ≠ 0xFF#8 := by
    rintro rfl
    exact absurd hlt (by decide)
  unfold rekeyLevel
  rw [if_neg hne, dif_pos hlt]
  exact congrArg (fun x => some (some x)) (Fin.ext h)

theorem rekeyLevel_ff : rekeyLevel 0xFF#8 = some none := rfl

/-- The return of a fetch with a well-formed REKEY-NOW carries the order out (R166, R178). -/
theorem exec_rekeyNow {i : Nat} (h : s.FetchAt i q) (t : Instant) {call : Half} {level : Byte}
    {lv : Option (Fin 8)} (hcall : call.toNat = c.val) (hlevel : rekeyLevel level = some lv) :
    exec (.rekeyNow t call level) s = .next ((s.afterFetch t i).doRekeyNow q c lv).settle := by
  show Host.Outcome.next ((s.atInstant t).returnOrder (.rekeyNow call level)).settle = _
  rw [returnOrder_of_fetchAt h, State.execute, callOf_of_toNat hcall, hlevel]

theorem doRekeyNow_noCall (h : s.calls[c].state ≠ .opened) (lv : Option (Fin 8)) :
    s.doRekeyNow q c lv = s.finish (orderCompletion q .noCall (callSubject c) []) := if_pos h

theorem doRekeyNow_open (h : s.calls[c].state = .opened) (lv : Option (Fin 8)) :
    s.doRekeyNow q c lv =
      (s.setCall c { s.calls[c] with rekeyNow := true, comfort := lv.getD s.calls[c].comfort }).finish
        (orderCompletion q .done (callSubject c) []) := if_neg (not_not.2 h)

end

/-- Settles O38: by the call's state, and for an OPEN call by whether the order carries a level. -/
theorem rekeyNowOrders : Obligations.RekeyNowOrders := by
  intro s t i q call level c hfetch hcall w done
  refine ⟨fun hlevel h => ?_, fun h hlevel => ?_, fun lv h hlevel => ?_⟩
  · have hw : w.calls[c].state ≠ .opened := h
    obtain ⟨lv, hlv⟩ : ∃ lv, rekeyLevel level = some lv := by
      rcases hlevel with hlt | rfl
      · exact ⟨_, rekeyLevel_of_lt (lv := ⟨level.toNat, hlt⟩) rfl⟩
      · exact ⟨_, rekeyLevel_ff⟩
    exact (exec_rekeyNow hfetch t hcall hlv).trans (by rw [doRekeyNow_noCall hw]; rfl)
  · subst hlevel
    have hw : w.calls[c].state = .opened := h
    exact (exec_rekeyNow hfetch t hcall rekeyLevel_ff).trans (by rw [doRekeyNow_open hw]; rfl)
  · have hw : w.calls[c].state = .opened := h
    exact (exec_rekeyNow hfetch t hcall (rekeyLevel_of_lt hlevel)).trans
      (by rw [doRekeyNow_open hw]; rfl)

/-! ## Members, eligible and joined (R101, R102, R106) -/

/-- A member's endpoint: a TRUNK, or a STATION in state ADMITTED (R102, check 3). -/
theorem eligible_iff (x : EndpointRec) :
    x.eligible = true ↔ x.role = .trunk ∨ x.role = .station ∧ x.admitted ≠ none := by
  unfold EndpointRec.eligible
  cases x.role <;> simp [Option.isSome_iff_ne_none]

/-- An endpoint joins at the end of the member list and is given the ring, with the slot of the call's
frame opened (R101, R106). -/
theorem join_eq (s : State) (c : CallNo) (e : EpNo) (r : RingNo) : s.join c e r = { s with
    calls := s.calls.set c { s.calls[c] with
      members := s.calls[c].members ++ [{ ep := e, ring := r }] }
    endpoints := s.endpoints.set e { s.endpoints[e] with call := some c }
    rings := s.rings.set r (givenRing c e s.calls[c].frame s.calls[c].epoch) } := by
  have hself := setCall_get_self s c { s.calls[c] with
    members := s.calls[c].members ++ [{ ep := e, ring := r }] }
  unfold State.join
  simp only [setEp_calls, hself]
  rfl

/-! ## ADD-MEMBER and DROP-MEMBER at their execution (R104) -/

section

variable {s : State} {c : CallNo} {e : EpNo} {q : Half}

theorem epOf_of_toNat {n : Half} (h : n.toNat = e.val) : epOf n = some e := by
  unfold epOf
  rw [dif_pos (by omega)]
  exact congrArg some (Fin.ext h)

theorem exec_addMember {i : Nat} (h : s.FetchAt i q) (t : Instant) {call ep : Half}
    (hcall : call.toNat = c.val) (hep : ep.toNat = e.val) :
    exec (.addMember t call ep) s = .next ((s.afterFetch t i).doSwitch q true c e).settle := by
  show Host.Outcome.next ((s.atInstant t).returnOrder (.addMember call ep)).settle = _
  rw [returnOrder_of_fetchAt h, State.execute, callOf_of_toNat hcall, epOf_of_toNat hep]

theorem exec_dropMember {i : Nat} (h : s.FetchAt i q) (t : Instant) {call ep : Half}
    (hcall : call.toNat = c.val) (hep : ep.toNat = e.val) :
    exec (.dropMember t call ep) s = .next ((s.afterFetch t i).doSwitch q false c e).settle := by
  show Host.Outcome.next ((s.atInstant t).returnOrder (.dropMember call ep)).settle = _
  rw [returnOrder_of_fetchAt h, State.execute, callOf_of_toNat hcall, epOf_of_toNat hep]

theorem doSwitch_noCall (h : s.calls[c].state ≠ .opened) (add : Bool) :
    s.doSwitch q add c e = s.finish (orderCompletion q .noCall (callSubject c) []) := if_pos h

theorem doSwitch_listFull (h : s.calls[c].state = .opened) (hfull : 2 ≤ s.calls[c].switches.length)
    (add : Bool) :
    s.doSwitch q add c e = s.finish (orderCompletion q .listFull (callSubject c) []) :=
  (if_neg (not_not.2 h)).trans (if_pos hfull)

theorem doSwitch_stored (h : s.calls[c].state = .opened) (hroom : s.calls[c].switches.length < 2)
    (add : Bool) :
    s.doSwitch q add c e = { s with
      calls := s.calls.set c { s.calls[c] with
        switches := s.calls[c].switches ++ [{ isAdd := add, ep := e, seq := q }] }
      engine := { s.engine with inExec := none } } :=
  (if_neg (not_not.2 h)).trans (if_neg (Nat.not_le.2 hroom))

end

/-! ## Switches at their application (R105, R106, R107) -/

section

variable {s : State} {c : CallNo} {x : Switch} {xs : List Switch}

/-- The application stops without room in the ring, and for a call no longer OPEN (R105). -/
theorem applySwitches_stops
    (h : 64 ≤ (s.engine.completionProducer - s.engine.completionConsumer).toNat
      ∨ s.calls[c].state ≠ .opened) : State.applySwitches (x :: xs) c s = s := by
  refine if_neg fun hgo => ?_
  obtain ⟨hroom, hopen⟩ := Bool.and_eq_true_iff.1 hgo
  rcases h with hfull | hclosed
  · exact absurd ((Draining.room_iff _).1 hroom) (Nat.not_lt.2 hfull)
  · exact hclosed (of_decide_eq_true hopen)

theorem applySwitches_goesOn
    (hroom : (s.engine.completionProducer - s.engine.completionConsumer).toNat < 64)
    (hopen : s.calls[c].state = .opened) :
    State.applySwitches (x :: xs) c s = State.applySwitches xs c
      (if x.isAdd then (s.setCall c { s.calls[c] with switches := xs }).applyAdd c x
        else (s.setCall c { s.calls[c] with switches := xs }).applyDrop c x) :=
  if_pos (Bool.and_eq_true_iff.2 ⟨(Draining.room_iff _).2 hroom, decide_eq_true hopen⟩)

/-! ### ADD (R106) -/

/-- The endpoint of an ADD may become a member: it is eligible and in no call (R106). -/
def mayJoin (y : EndpointRec) : Prop := y.eligible = true ∧ y.call = none

theorem mayJoin_iff (y : EndpointRec) : mayJoin y ↔
    (y.role = .trunk ∨ y.role = .station ∧ y.admitted ≠ none) ∧ y.call = none :=
  and_congr_left' (eligible_iff y)

/-- The first check of an ADD fails exactly where its endpoint may not become a member. -/
theorem notEligible_iff (y : EndpointRec) :
    (!y.eligible || y.call.isSome) = true ↔ ¬ mayJoin y := by
  unfold mayJoin
  cases y.eligible <;> cases y.call <;> simp

theorem addCheck_notEligible {e : EpNo} (h : ¬ mayJoin s.endpoints[e]) :
    s.addCheck c e = some .notEligible := if_pos ((notEligible_iff _).2 h)

/-- For an endpoint that may become a member the checks that remain are of the list and the rings. -/
theorem addCheck_of_mayJoin {e : EpNo} (h : mayJoin s.endpoints[e]) :
    s.addCheck c e = if 4 ≤ s.calls[c].members.length then some .callFull
      else if s.freeRings.isEmpty then some .noRing else none :=
  if_neg fun hbad => (notEligible_iff _).1 hbad h

theorem applyAdd_refused {st : Status} (h : s.addCheck c x.ep = some st) :
    s.applyAdd c x = s.writeSwitch x c st [] := by
  unfold State.applyAdd
  rw [h]

theorem applyAdd_joins {r : RingNo} {rest : List RingNo} (h : s.addCheck c x.ep = none)
    (hfree : s.freeRings = r :: rest) :
    s.applyAdd c x = (s.join c x.ep r).writeSwitch x c .done [byteN r.val] := by
  unfold State.applyAdd
  rw [h, hfree]

/-! ### DROP (R107) -/

theorem ringOf_none {y : Call} {e : EpNo} (h : ∀ m ∈ y.members, m.ep ≠ e) : y.ringOf e = none := by
  unfold Call.ringOf
  rw [List.find?_eq_none.2 fun m hm => by simpa using h m hm]
  rfl

/-- With distinct members, the ring found for a member's endpoint is its own. -/
theorem ringOf_member {y : Call} (hnodup : (y.members.map Member.ep).Nodup) {m : Member}
    (hm : m ∈ y.members) : y.ringOf m.ep = some m.ring := by
  obtain ⟨r, hr⟩ : ∃ r, y.ringOf m.ep = some r := by
    refine Option.ne_none_iff_exists'.1 fun hnone => ?_
    unfold Call.ringOf at hnone
    rw [Option.map_eq_none_iff, List.find?_eq_none] at hnone
    exact hnone m hm (decide_eq_true rfl)
  have heq := List.inj_on_of_nodup_map hnodup (Pairs.member_of_ringOf hr) hm rfl
  rw [hr, ← heq]

/-- A ring whose member leaves: DRAINING with its slots EMPTY, and FREE at once with no member request
in transform (R43). -/
def drainedRing (c : CallNo) (x : Ring) : Ring :=
  if x.count = 0 then Ring.free
  else { x with state := .draining c, slots := Vector.replicate 4 none }

theorem drainRing_eq (s : State) (c : CallNo) (r : RingNo) :
    s.drainRing c r = s.setRing r (drainedRing c s.rings[r]) := by
  have hself := setRing_get_self s r
    { s.rings[r] with state := .draining c, slots := Vector.replicate 4 none }
  unfold State.drainRing drainedRing
  by_cases hcount : s.rings[r].count = 0
  · rw [if_pos hcount, Pieces.endRingDrain_free (c := c) _ (by rw [hself])
      (by rw [hself]; exact hcount), Pieces.setRing_setRing]
  · rw [if_neg hcount, Pieces.endRingDrain_kept _ (by rw [hself]; exact fun h => hcount h.2)]

theorem applyDrop_notMember (h : ∀ m ∈ s.calls[c].members, m.ep ≠ x.ep) :
    s.applyDrop c x = s.writeSwitch x c .notEligible [] := by
  unfold State.applyDrop
  rw [ringOf_none h]

/-- A member's DROP takes the member out, drains its ring and is completed, and then a call that it
emptied closes (R107, R109). -/
theorem applyDrop_member (hnodup : (s.calls[c].members.map Member.ep).Nodup) {m : Member}
    (hm : m ∈ s.calls[c].members) (hep : m.ep = x.ep) :
    s.applyDrop c x = (({ s with
      calls := s.calls.set c { s.calls[c] with
        members := s.calls[c].members.filter fun z => z.ep ≠ x.ep }
      endpoints := s.endpoints.set x.ep { s.endpoints[x.ep] with call := none }
      rings := s.rings.set m.ring (drainedRing c s.rings[m.ring]) } : State).writeSwitch x c .done
        [byteN m.ring.val]).closeIfEmptied c := by
  have hring : s.calls[c].ringOf x.ep = some m.ring := hep ▸ ringOf_member hnodup hm
  unfold State.applyDrop
  rw [hring]
  unfold State.leave
  dsimp only
  rw [drainRing_eq]
  rfl

end

/-- Settles O36: the two orders by their checks, the application by room and the call's state, an ADD
by its checks and a DROP by whether its endpoint is a member. -/
theorem switchesStoredAndApplied : Obligations.SwitchesStoredAndApplied := by
  refine ⟨fun s t i q call ep c e hfetch hcall hep => ?_,
    fun s c x xs => ⟨applySwitches_stops, applySwitches_goesOn⟩, fun s c x => ?_,
    fun s c x hnodup => ⟨applyDrop_notMember, fun m hm hm' => applyDrop_member hnodup hm hm'⟩⟩
  · intro w done stored
    have hadd := exec_addMember hfetch t hcall hep
    have hdrop := exec_dropMember hfetch t hcall hep
    refine ⟨fun h => ?_, fun h hlist => ?_, fun h hlist => ?_⟩
    · have hw : w.calls[c].state ≠ .opened := h
      rw [hadd, hdrop, doSwitch_noCall hw, doSwitch_noCall hw]
      exact ⟨rfl, rfl⟩
    · have hw : w.calls[c].state = .opened := h
      have hfull : 2 ≤ w.calls[c].switches.length := hlist
      rw [hadd, hdrop, doSwitch_listFull hw hfull, doSwitch_listFull hw hfull]
      exact ⟨rfl, rfl⟩
    · have hw : w.calls[c].state = .opened := h
      have hroom : w.calls[c].switches.length < 2 := hlist
      rw [hadd, hdrop, doSwitch_stored hw hroom, doSwitch_stored hw hroom]
      exact ⟨rfl, rfl⟩
  · intro done fit
    have hfit : fit ↔ mayJoin s.endpoints[x.ep] := (mayJoin_iff _).symm
    rw [hfit]
    refine ⟨fun h => ?_, fun h hfull => ?_, fun h hroom hnone => ?_, fun r rest h hroom hfree => ?_⟩
    · exact applyAdd_refused (addCheck_notEligible h)
    · exact applyAdd_refused ((addCheck_of_mayJoin h).trans (if_pos hfull))
    · refine applyAdd_refused ((addCheck_of_mayJoin h).trans ?_)
      rw [if_neg (Nat.not_le.2 hroom), hnone]
      rfl
    · have hcheck : s.addCheck c x.ep = none := by
        rw [addCheck_of_mayJoin h, if_neg (Nat.not_le.2 hroom), hfree]
        rfl
      rw [applyAdd_joins hcheck hfree, join_eq]
      rfl

end Sys2Proof.CallOrders

namespace Sys2Proof.CallOrders

-- Theorems that wait in parallel for the kernel each hold a thread's stack.
set_option Elab.async false

open Sys2Proof Sys2Proof.Machine Sys2Proof.Laws Sys2Proof.Restart Sys2Proof.CloseOrders

/-! ## The fields of an OPEN-CALL (R178, 10.4) -/

section

variable {call : Half} {count level : Byte} {eps : List Half} {c : CallNo} {es : List EpNo} {lv : Fin 8}

theorem callOf_iff : callOf call = some c ↔ c.val = call.toNat := by
  refine ⟨fun h => ?_, fun h => callOf_of_toNat h.symm⟩
  unfold callOf at h
  split at h
  · cases h
    rfl
  · cases h

theorem epOf_iff {n : Half} {e : EpNo} : epOf n = some e ↔ e.val = n.toNat := by
  refine ⟨fun h => ?_, fun h => epOf_of_toNat h.symm⟩
  unfold epOf at h
  split at h
  · cases h
    rfl
  · cases h

/-- Endpoint fields are well formed exactly where each is an endpoint's number (R178). -/
theorem mapM_epOf_iff {ns : List Half} :
    ns.mapM epOf = some es ↔ es.map Fin.val = ns.map BitVec.toNat := by
  induction ns generalizing es with
  | nil =>
    rw [List.mapM_nil, List.map_nil, List.map_eq_nil_iff]
    exact Option.some_inj.trans eq_comm
  | cons n ns ih =>
    simp only [List.mapM_cons, Option.bind_eq_bind, Option.bind_eq_some_iff, Option.pure_def,
      Option.some.injEq, epOf_iff, ih]
    constructor
    · rintro ⟨e, he, es, hes, rfl⟩
      rw [List.map_cons, List.map_cons, he, hes]
    · intro h
      obtain ⟨e, es, rfl, he, hes⟩ := List.map_eq_cons_iff.1 h
      exact ⟨e, he, es, hes, rfl⟩

theorem openCallFields_iff : openCallFields call count level eps = some (c, es, lv) ↔
    c.val = call.toNat ∧ 2 ≤ count.toNat ∧ count.toNat ≤ 4 ∧ lv.val = level.toNat
      ∧ es.map Fin.val = (eps.take count.toNat).map BitVec.toNat := by
  unfold openCallFields
  constructor
  · intro h
    split at h
    · cases h
    · next hcount =>
      obtain ⟨hlow, hhigh⟩ : 2 ≤ count.toNat ∧ count.toNat ≤ 4 := by
        simpa only [Bool.or_eq_true, decide_eq_true_eq, not_or, not_lt] using hcount
      split at h
      · next hcall heps =>
        split at h
        · cases h
          exact ⟨callOf_iff.1 hcall, hlow, hhigh, rfl, mapM_epOf_iff.1 heps⟩
        · cases h
      · cases h
      · cases h
  · rintro ⟨hcall, hlow, hhigh, hlevel, heps⟩
    have hlt : level.toNat < 8 := hlevel ▸ lv.isLt
    rw [if_neg (by simp only [Bool.or_eq_true, decide_eq_true_eq]; omega), callOf_iff.2 hcall,
      mapM_epOf_iff.2 heps]
    dsimp only
    rw [dif_pos hlt]
    exact congrArg (fun l => some (c, es, l)) (Fin.ext hlevel.symm)

end

/-! ## The checks of an OPEN-CALL (R102) -/

section

variable {s : State} {c : CallNo} {es : List EpNo}

theorem mem_freeRings_iff (s : State) (r : RingNo) : r ∈ s.freeRings ↔ s.rings[r].state = .free := by
  refine ⟨Pairs.mem_freeRings s, fun h => (mem_tabIdxs Ring.isFree s.rings r).2 ?_⟩
  unfold Ring.isFree
  rw [h]

theorem openCallCheck_callTaken (h : s.calls[c].state ≠ .free) :
    s.openCallCheck c es = some .callTaken :=
  if_pos (by simpa using mt (isFree_iff _).1 h)

theorem openCallCheck_notEligible (h : s.calls[c].state = .free)
    (hbad : ¬ (es.Nodup ∧ ∀ e ∈ es, mayJoin s.endpoints[e])) :
    s.openCallCheck c es = some .notEligible := by
  unfold State.openCallCheck
  rw [(isFree_iff _).2 h, if_neg (by decide)]
  split
  · rfl
  split
  · rfl
  split
  · rfl
  · next hnodup heligible hcall =>
    refine absurd ⟨by simpa using hnodup, fun e he => ?_⟩ hbad
    exact ⟨by simpa using mt (List.any_eq_true.2 ⟨e, he, ·⟩) heligible,
      by simpa using mt (List.any_eq_true.2 ⟨e, he, ·⟩) hcall⟩

/-- Endpoints that may all become members leave the check of the rings. -/
theorem openCallCheck_of_mayJoin (h : s.calls[c].state = .free) (hnodup : es.Nodup)
    (hjoin : ∀ e ∈ es, mayJoin s.endpoints[e]) :
    s.openCallCheck c es = if s.freeRings.length < es.length then some .noRing else none := by
  have heligible : ¬ (es.any fun e => !s.endpoints[e].eligible) = true := by
    rw [List.any_eq_true]
    rintro ⟨e, he, hbad⟩
    rw [(hjoin e he).1] at hbad
    cases hbad
  have hcall : ¬ (es.any fun e => s.endpoints[e].call.isSome) = true := by
    rw [List.any_eq_true]
    rintro ⟨e, he, hbad⟩
    rw [(hjoin e he).2] at hbad
    cases hbad
  unfold State.openCallCheck
  rw [(isFree_iff _).2 h, if_neg (by decide), if_neg (by simpa using hnodup), if_neg heligible,
    if_neg hcall]

end

/-! ## Members that join together (R101, R103) -/

/-- The call, the endpoints and the rings after pairs of an endpoint and a ring joined in order: the
list grows by them, their records name the call, and each ring, given once, is its endpoint's. -/
structure Joined (s : State) (c : CallNo) (ms : List (EpNo × RingNo)) (u : State) : Prop where
  only : u = { s with calls := u.calls, endpoints := u.endpoints, rings := u.rings }
  calls : u.calls = s.calls.set c { s.calls[c] with
    members := s.calls[c].members ++ ms.map fun x => { ep := x.1, ring := x.2 } }
  endpoints : ∀ e : EpNo, u.endpoints[e] =
    if e ∈ ms.map Prod.fst then { s.endpoints[e] with call := some c } else s.endpoints[e]
  given : (ms.map Prod.snd).Nodup → ∀ e r, (e, r) ∈ ms →
    u.rings[r] = givenRing c e s.calls[c].frame s.calls[c].epoch
  others : ∀ r : RingNo, r ∉ ms.map Prod.snd → u.rings[r] = s.rings[r]

theorem joinAll_joined (s : State) (c : CallNo) (ms : List (EpNo × RingNo)) :
    Joined s c ms (s.joinAll c ms) := by
  induction ms generalizing s with
  | nil => exact
    { only := rfl
      calls := by
        rw [List.map_nil, List.append_nil]
        exact (Vector.set_getElem_self _).symm
      endpoints := fun e => rfl
      given := fun _ e r h => absurd h List.not_mem_nil
      others := fun r _ => rfl }
  | cons m ms ih =>
    obtain ⟨e, r⟩ := m
    obtain ⟨only, calls, endpoints, given, others⟩ := ih (s.join c e r)
    have hself : (s.join c e r).calls[c] = { s.calls[c] with
        members := s.calls[c].members ++ [{ ep := e, ring := r }] } :=
      (Pairs.join_calls s c c e r).trans (if_pos rfl)
    rw [hself] at calls given
    show Joined s c ((e, r) :: ms) ((s.join c e r).joinAll c ms)
    refine ⟨?_, ?_, fun e' => ?_, fun hnodup e' r' hm => ?_, fun r' hr' => ?_⟩
    · rw [only, join_eq]
    · rw [calls, join_eq]
      simp
    · rw [endpoints, Pairs.join_endpoints]
      simp only [List.map_cons, List.mem_cons]
      by_cases he : e' = e
      · subst he
        simp
      · simp [he]
    · obtain ⟨hr, hnodup⟩ := List.nodup_cons.1 hnodup
      rcases List.mem_cons.1 hm with heq | hm
      · cases heq
        rw [others r hr, Pairs.join_rings, if_pos rfl, hself]
      · exact given hnodup e' r' hm
    · rw [others r' (List.not_mem_of_not_mem_cons hr'), Pairs.join_rings,
        if_neg (List.ne_of_not_mem_cons hr')]

/-! ## OPEN-CALL at its execution (R103) -/

section

variable {s : State} {c : CallNo} {es : List EpNo} {q : Half}

/-- The state after an OPEN-CALL's call has opened and its members have joined with the lowest FREE
rings (R103). -/
def openedState (s : State) (c : CallNo) (es : List EpNo) (key : Key) (lv : Fin 8) : State :=
  (s.setCall c (openedCall s.thePlan.rekeyInterval key lv)).joinAll c (es.zip s.freeRings)

theorem exec_openCall {i : Nat} (h : s.FetchAt i q) (t : Instant) {call : Half} {count level : Byte}
    {e0 e1 e2 e3 : Half} {lv : Fin 8} (key : Key)
    (hfields : openCallFields call count level [e0, e1, e2, e3] = some (c, es, lv)) :
    exec (.openCall t call count level e0 e1 e2 e3 key) s =
      .next ((s.afterFetch t i).doOpenCall q c es key lv).settle := by
  show Host.Outcome.next
    ((s.atInstant t).returnOrder (.openCall call count level e0 e1 e2 e3 key)).settle = _
  rw [returnOrder_of_fetchAt h, State.execute, hfields]

theorem doOpenCall_refused {st : Status} (h : s.openCallCheck c es = some st) (key : Key) (lv : Fin 8) :
    s.doOpenCall q c es key lv = s.finish (orderCompletion q st (callSubject c) []) := by
  unfold State.doOpenCall
  rw [h]

/-- The pairs of endpoints and rings use as many of the rings as there are endpoints. -/
theorem zip_take_length {α β : Type} {l : List α} {m : List β} (h : l.length ≤ m.length) :
    l.zip (m.take l.length) = l.zip m := by
  rw [List.zip_eq_zip_take_min (l₁ := l) (l₂ := m), Nat.min_eq_left h, List.take_length]

theorem map_snd_zip_take {α β : Type} {l : List α} {m : List β} (h : l.length ≤ m.length) :
    (l.zip m).map Prod.snd = m.take l.length := by
  rw [← zip_take_length h]
  exact List.map_snd_zip (by rw [List.length_take]; omega)

theorem openedState_joined (s : State) (c : CallNo) (es : List EpNo) (key : Key) (lv : Fin 8) :
    Joined (s.setCall c (openedCall s.thePlan.rekeyInterval key lv)) c (es.zip s.freeRings)
      (openedState s c es key lv) := joinAll_joined _ _ _

theorem openedState_calls (s : State) (c : CallNo) (es : List EpNo) (key : Key) (lv : Fin 8) :
    (openedState s c es key lv).calls = s.calls.set c
      { openedCall s.thePlan.rekeyInterval key lv with
        members := (es.zip s.freeRings).map fun x => { ep := x.1, ring := x.2 } } := by
  rw [(openedState_joined s c es key lv).calls, setCall_get_self]
  simp [State.setCall, openedCall, Call.free]

theorem openedState_endpoints (h : es.length ≤ s.freeRings.length) (key : Key) (lv : Fin 8)
    (e : EpNo) :
    (openedState s c es key lv).endpoints[e] =
      if e ∈ es then { s.endpoints[e] with call := some c } else s.endpoints[e] := by
  rw [(openedState_joined s c es key lv).endpoints, List.map_fst_zip h]
  rfl

/-- The j-th ring of the lowest FREE ones is the j-th member's, its slot 0 opened (R44, R103). -/
theorem openedState_given (h : es.length ≤ s.freeRings.length) (key : Key) (lv : Fin 8) {j : Nat}
    {e : EpNo} {r : RingNo} (he : es[j]? = some e) (hr : s.freeRings[j]? = some r) :
    (openedState s c es key lv).rings[r] = givenRing c e 0#32 0#16 := by
  have hnodup : ((es.zip s.freeRings).map Prod.snd).Nodup :=
    map_snd_zip_take h ▸ (Pairs.freeRings_nodup s).sublist (List.take_sublist _ _)
  have hmem : (e, r) ∈ es.zip s.freeRings :=
    List.mem_of_getElem? (List.getElem?_zip_eq_some.2 ⟨he, hr⟩)
  rw [(openedState_joined s c es key lv).given hnodup e r hmem, setCall_get_self]
  rfl

theorem openedState_others (h : es.length ≤ s.freeRings.length) (key : Key) (lv : Fin 8) {r : RingNo}
    (hr : r ∉ s.freeRings.take es.length) :
    (openedState s c es key lv).rings[r] = s.rings[r] :=
  (openedState_joined s c es key lv).others r (map_snd_zip_take h ▸ hr)

/-- The completion's data bytes are the rings given, in member order (10.5). -/
theorem openedState_ringBytes (h : es.length ≤ s.freeRings.length) (key : Key) (lv : Fin 8) :
    (openedState s c es key lv).calls[c].ringBytes =
      (s.freeRings.take es.length).map fun r => BitVec.ofNat 8 r.val := by
  rw [openedState_calls, ← map_snd_zip_take h]
  simp [Call.ringBytes, byteN]

theorem doOpenCall_opens (hcheck : s.openCallCheck c es = none)
    (hrings : es.length ≤ s.freeRings.length) (key : Key) (lv : Fin 8) :
    s.doOpenCall q c es key lv = (openedState s c es key lv).finish (orderCompletion q .done
      (callSubject c) ((s.freeRings.take es.length).map fun r => BitVec.ofNat 8 r.val)) := by
  unfold State.doOpenCall
  rw [hcheck]
  dsimp only
  rw [zip_take_length hrings, ← openedState_ringBytes (c := c) hrings key lv]
  rfl

end

/-- Settles O35: the fields as an equivalence, and the order by the first check that fails, or by what
the members that join change. -/
theorem openCallOrders : Obligations.OpenCallOrders := by
  refine ⟨fun s => ⟨tabIdxs_sorted Ring.isFree s.rings, mem_freeRings_iff s⟩,
    fun _ _ _ _ _ _ _ => openCallFields_iff, ?_⟩
  intro s t i q call count level e0 e1 e2 e3 key c es lv hfetch hfields w refused fit
  have hexec := exec_openCall hfetch t key hfields
  have hjoin : ∀ e, fit e ∧ s.endpoints[e].call = none ↔ mayJoin s.endpoints[e] :=
    fun e => (mayJoin_iff _).symm
  have hrefused : ∀ st, w.openCallCheck c es = some st → refused st := fun st h =>
    hexec.trans (by rw [doOpenCall_refused h]; rfl)
  refine ⟨fun h => ?_, fun h hdup => ?_, fun h ⟨e, he, hunfit⟩ => ?_, fun h ⟨e, he, hin⟩ => ?_,
    fun h hnodup hall hfew => ?_, fun h hnodup hall hrings => ?_⟩
  · exact hrefused _ (openCallCheck_callTaken h)
  · exact hrefused _ (openCallCheck_notEligible h fun hall => hdup hall.1)
  · exact hrefused _ (openCallCheck_notEligible h fun hall => hunfit ((hjoin e).2 (hall.2 e he)).1)
  · exact hrefused _ (openCallCheck_notEligible h fun hall => hin (hall.2 e he).2)
  · exact hrefused _ ((openCallCheck_of_mayJoin h hnodup fun e he => (hjoin e).1 (hall e he)).trans
      (if_pos hfew))
  · have hcheck : w.openCallCheck c es = none :=
      (openCallCheck_of_mayJoin h hnodup fun e he => (hjoin e).1 (hall e he)).trans
        (if_neg (Nat.not_lt.2 hrings))
    have hrings' : es.length ≤ w.freeRings.length := hrings
    refine ⟨openedState w c es key lv, ?_, (openedState_joined w c es key lv).only,
      openedState_calls w c es key lv, openedState_endpoints hrings' key lv,
      fun j e r he hr => openedState_given hrings' key lv he hr,
      fun r hr => openedState_others hrings' key lv hr⟩
    rw [hexec, doOpenCall_opens hcheck hrings']
    rfl

end Sys2Proof.CallOrders

namespace Sys2Proof.Ticks

-- Theorems that wait in parallel for the kernel each hold a thread's stack.
set_option Elab.async false

open Sys2Proof Sys2Proof.Machine Sys2Proof.Laws Sys2Proof.Visits

/-! ## The timer's record at a tick (R127, R136, R137) -/

section

variable {x : Timer} {e : Instant}

theorem slipsNow_iff :
    x.slipsNow = true ↔ ∃ p k, x.pass = some p ∧ x.pendingTick = some k := by
  rw [Timer.slipsNow, Bool.and_eq_true, Option.isSome_iff_exists, Option.isSome_iff_exists,
    exists_and_exists_comm]

theorem slipsNow_eq_false (h : x.pass = none ∨ x.pendingTick = none) : x.slipsNow = false := by
  rw [Timer.slipsNow]
  rcases h with h | h <;> simp [h]

/-- The timer's record when a tick at instant e is taken, its timing change apart (R127). -/
def counted (x : Timer) (e : Instant) : Timer := { x with
  lastTick := e, counter := x.counter + 1#32
  pass := if x.pass = none then some { number := x.counter + 1#32, pos := .calls none } else x.pass
  pendingTick := if x.pass = none then x.pendingTick else some (x.counter + 1#32) }

theorem taken_eq (x : Timer) (e : Instant) : x.taken e = counted x e := by
  obtain ⟨source, period, state, running, next, last, counter, slips, pass, pending, change⟩ := x
  cases pass <;> rfl

theorem startState_eq (src : TickSource) :
    src.startState = if src = .internal then .internal else .externalLocked := by
  cases src <;> rfl

theorem firstExpiry_eq (src : TickSource) (p : Nat) :
    src.firstExpiry p = if src = .internal then p * 1000 else 3 * (p * 1000) / 2 := by
  cases src <;> rfl

theorem changeAtTick_idle (h : x.change = .none ∨ ∃ q, x.change = .waiting q) :
    x.changeAtTick e = x := by
  unfold Timer.changeAtTick
  rcases h with h | ⟨q, h⟩ <;> rw [h]

theorem changeAtTick_armed {q : Half} {src : TickSource} {p : Nat}
    (h : x.change = .armed q src p) : x.changeAtTick e = { x with
      source := src, period := p
      state := if src = .internal then .internal else .externalLocked
      nextExpiry := some (e + if src = .internal then p * 1000 else 3 * (p * 1000) / 2)
      change := .blanking q } := by
  unfold Timer.changeAtTick
  rw [h, ← startState_eq, ← firstExpiry_eq]
  rfl

theorem changeAtTick_blanking {q : Half} (h : x.change = .blanking q) :
    x.changeAtTick e = { x with change := .waiting q } := by
  unfold Timer.changeAtTick
  rw [h]

end

/-! ## A tick, taken or slipped (R127, R128) -/

section

variable {s : State} {e : Instant}

theorem tick_slipped (h : s.timer.slipsNow = true) : s.tick e =
    State.raise { s with timer := { s.timer with
      lastTick := e, slips := min 65535 (s.timer.slips + 1) } } .slip .none [] := by
  unfold State.tick Timer.slipped
  rw [if_pos h, satSucc_eq_min]
  rfl

/-- What follows the timer's own record at a taken tick: the requests and the locks age (R127). -/
def agedAll (s : State) : State := s.ageRequests.expireLocks

theorem tick_taken (h : s.timer.pass = none ∨ s.timer.pendingTick = none) : s.tick e =
    agedAll { s with timer := (counted s.timer e).changeAtTick e } := by
  unfold State.tick
  rw [if_neg (Bool.eq_false_iff.1 (slipsNow_eq_false h)), taken_eq]
  rfl

end

/-! ## The events of the timer (R122 to R125) -/

section

variable {s : State} {e : Instant}

theorem internalDue_of_tickAt (h : s.TickAt .internalExpiry e) :
    s.timer.internalDue = some e := by
  obtain ⟨hrunning, hstate, hnext⟩ := h
  unfold Timer.internalDue
  rcases hstate with hstate | hstate <;> rw [if_pos hrunning, hstate] <;> exact hnext

theorem guardDue_of_tickAt (h : s.TickAt .guardExpiry e) : s.timer.guardDue = some e := by
  obtain ⟨hrunning, hstate, hnext⟩ := h
  unfold Timer.guardDue
  rw [if_pos hrunning, hstate]
  exact hnext

theorem internalExpiry_due (h : s.TickAt .internalExpiry e) :
    s.internalExpiry = s.internalTick e := by
  unfold State.internalExpiry
  rw [internalDue_of_tickAt h]

theorem guardExpiry_due (h : s.TickAt .guardExpiry e) : s.guardExpiry = s.guardTick e := by
  unfold State.guardExpiry
  rw [guardDue_of_tickAt h]

theorem edge_idle (h : s.timer.running = false ∨ s.timer.state = .internal) : s.edge = s := by
  unfold State.edge
  rcases h with h | h
  · rw [h]
    rfl
  · rw [h]
    exact ite_self s

/-- The state in which an edge has restarted the guard (R123). -/
def guarded (s : State) : State := { s with timer := { s.timer with
  nextExpiry := some (s.now + 3 * (s.timer.period * 1000) / 2) } }

/-- The state in which an edge has brought the part back to FSYNC, and SYNC-REGAINED is raised (R125). -/
def regained (s : State) : State := State.raise { s with timer := { s.timer with
  state := .externalLocked
  nextExpiry := some (s.now + 3 * (s.timer.period * 1000) / 2) } } .syncRegained .none []

theorem edge_locked (hrunning : s.timer.running = true) (hstate : s.timer.state = .externalLocked) :
    s.edge = (guarded s).tick s.now := by
  unfold State.edge
  simp only [if_pos hrunning, hstate]
  rw [← hstate]
  rfl

theorem raise_now (k : CompKind) (x : CompSubject) (d : List Byte) : (s.raise k x d).now = s.now := by
  obtain ⟨g, q, w, h⟩ := raise_only s k x d
  rw [h]

/-- An edge in EXTERNAL-LOST regains FSYNC, and ticks from half a period after the last tick on
(R125). -/
theorem edge_lost (hrunning : s.timer.running = true) (hstate : s.timer.state = .externalLost) :
    s.edge = if s.timer.lastTick + s.timer.period * 1000 / 2 ≤ s.now then
        (regained s).tick s.now
      else regained s := by
  unfold State.edge
  simp only [if_pos hrunning, hstate, decide_eq_true_iff, raise_now]
  rfl

end

/-- Commands whose own effects are one have one outcome. -/
theorem next_settle {u v : State} (h : u = v) :
    (Host.Outcome.next u.settle : Host.Outcome State Fault Refusal) = .next v.settle := by
  rw [h]

/-- Settles O39: a tick by the pass and the timing change, and each event of the timer by the timing
state. -/
theorem ticksTakenOrSlipped : Obligations.TicksTakenOrSlipped := by
  refine ⟨fun s e => ?_, fun s t e => ?_⟩
  · intro n counted' becomes
    refine ⟨fun p k hpass hpending => tick_slipped (slipsNow_iff.2 ⟨p, k, hpass, hpending⟩),
      fun htaken => ⟨fun hidle => ?_, fun q src p harmed => ?_, fun q hblank => ?_⟩⟩
    · exact (tick_taken htaken).trans (by rw [changeAtTick_idle (x := counted s.timer e) hidle]; rfl)
    · exact (tick_taken htaken).trans
        (by rw [changeAtTick_armed (x := counted s.timer e) harmed]; rfl)
    · exact (tick_taken htaken).trans
        (by rw [changeAtTick_blanking (x := counted s.timer e) hblank]; rfl)
  · refine ⟨fun h => next_settle (internalExpiry_due h), fun h => next_settle (guardExpiry_due h),
      fun hrunning hstate => next_settle (edge_locked (s := s.atInstant t) hrunning hstate),
      fun hrunning hstate => ?_, fun h => next_settle (edge_idle (s := s.atInstant t) h)⟩
    have hedge := edge_lost (s := s.atInstant t) hrunning hstate
    exact ⟨regained (s.atInstant t), rfl, fun hlate => next_settle (hedge.trans (if_pos hlate)),
      fun hearly => next_settle (hedge.trans (if_neg (Nat.not_le.2 hearly)))⟩

end Sys2Proof.Ticks

namespace Sys2Proof.Ticks

-- Theorems that wait in parallel for the kernel each hold a thread's stack.
set_option Elab.async false

open Sys2Proof Sys2Proof.Machine Sys2Proof.Laws Sys2Proof.Checks Sys2Proof.Restart

/-! ## What a taken tick leaves (R84, R127, R142) -/

section

variable (s : State)

theorem agedAll_timer : (agedAll s).timer = s.timer :=
  (congrArg State.timer (ageRequests_only s) :)

theorem agedAll_engine : (agedAll s).engine = s.engine :=
  (congrArg State.engine (ageRequests_eq s) :)

theorem agedAll_directory (d : EntryNo) : (agedAll s).directory[d] = { s.directory[d] with
    lock := if s.directory[d].lock = some s.timer.counter then none else s.directory[d].lock } := by
  have hcounter : s.ageRequests.timer.counter = s.timer.counter :=
    congrArg Timer.counter (agedAll_timer s)
  have hentries : s.ageRequests.directory = s.directory :=
    (congrArg State.directory (ageRequests_eq s) :)
  rw [← expire_eq, ← hcounter, ← hentries]
  exact mapTab_get _ _ d

theorem agedAll_only : agedAll s = { s with
    waiting := (agedAll s).waiting, mailboxes := (agedAll s).mailboxes
    directory := (agedAll s).directory
    port := { s.port with
      selfQ := (agedAll s).port.selfQ, waiters := (agedAll s).port.waiters } } := by
  have hport : s.ageRequests.port = { s.port with
      selfQ := s.ageRequests.port.selfQ, waiters := s.ageRequests.port.waiters } :=
    (congrArg State.port (ageRequests_only s) :)
  have honly := ageRequests_eq s
  rw [hport] at honly
  exact (congrArg (fun u : State => { u with directory := (agedAll s).directory }) honly :)

/-- The timing change alters no count of ticks and no pass (R136, R137). -/
theorem changeAtTick_only (x : Timer) (e : Instant) : x.changeAtTick e = { x with
    source := (x.changeAtTick e).source, period := (x.changeAtTick e).period
    state := (x.changeAtTick e).state, nextExpiry := (x.changeAtTick e).nextExpiry
    change := (x.changeAtTick e).change } := by
  unfold Timer.changeAtTick
  split <;> rfl

theorem counted_counter (x : Timer) (e : Instant) :
    ((counted x e).changeAtTick e).counter = x.counter + 1#32 := by
  rw [changeAtTick_only]
  rfl

end

section

variable {s : State} {e : Instant} (h : s.timer.pass = none ∨ s.timer.pendingTick = none)

include h

theorem tick_timer : (s.tick e).timer = (counted s.timer e).changeAtTick e := by
  rw [tick_taken h, agedAll_timer]

/-- Whatever the timing change, a taken tick counts and goes to a pass (R127). -/
theorem tick_counts : (s.tick e).timer = { counted s.timer e with
    source := (s.tick e).timer.source, period := (s.tick e).timer.period
    state := (s.tick e).timer.state, nextExpiry := (s.tick e).timer.nextExpiry
    change := (s.tick e).timer.change } := by
  rw [tick_timer h]
  exact changeAtTick_only _ e

theorem tick_engine : (s.tick e).engine = s.engine := by
  rw [tick_taken h, agedAll_engine]

theorem tick_waiting : (s.tick e).waiting = s.waiting.map fun q =>
    if Ages (s.timer.counter + 1#32) q then { q with cls := .admitAged } else q := by
  rw [tick_taken h, ← counted_counter s.timer e]
  exact ageRequests_waiting _

theorem tick_mailboxes (m : MboxNo) : (s.tick e).mailboxes[m] = { s.mailboxes[m] with
    aged := if ∃ q ∈ s.waiting, Ages (s.timer.counter + 1#32) q ∧ m ∈ q.slots then true
      else s.mailboxes[m].aged } := by
  rw [tick_taken h, ← counted_counter s.timer e]
  exact ageRequests_mailboxes _ m

theorem tick_directory (d : EntryNo) : (s.tick e).directory[d] = { s.directory[d] with
    lock := if s.directory[d].lock = some (s.timer.counter + 1#32) then none
      else s.directory[d].lock } := by
  rw [tick_taken h, ← counted_counter s.timer e]
  exact agedAll_directory _ d

theorem tick_only : s.tick e = { s with
    timer := (s.tick e).timer, waiting := (s.tick e).waiting, mailboxes := (s.tick e).mailboxes
    directory := (s.tick e).directory
    port := { s.port with
      selfQ := (s.tick e).port.selfQ, waiters := (s.tick e).port.waiters } } := by
  rw [tick_timer h, tick_taken h]
  exact agedAll_only _

end

/-! ## Where the tick of a timer event falls (R122 to R125) -/

section

theorem deliverN_engine (n : Nat) (s : State) : (State.deliverN n s).engine = { s.engine with
    backlog := (State.deliverN n s).engine.backlog
    completionProducer := (State.deliverN n s).engine.completionProducer } := by
  induction n generalizing s with
  | zero => rfl
  | succ n ih =>
    unfold State.deliverN
    split
    · rfl
    · split
      · rw [ih, writeCompletion_engine]
        rfl
      · rfl

theorem raise_engine (s : State) (k : CompKind) (x : CompSubject) (d : List Byte) :
    (s.raise k x d).engine = { s.engine with
      backlog := (s.raise k x d).engine.backlog
      completionProducer := (s.raise k x d).engine.completionProducer } := by
  unfold State.raise
  split
  · exact deliverN_engine _ _
  · rfl

/-- The timer's record after the event of a cause at instant e, its tick apart (R122 to R125). -/
def fired (cause : TickCause) (e : Instant) (x : Timer) : Timer := { x with
  state := match cause with
    | .internalExpiry => x.state
    | .guardExpiry => .externalLost
    | .fsyncEdge _ => .externalLocked
  nextExpiry := some (e + match cause with
    | .internalExpiry => x.period * 1000
    | .guardExpiry => x.period * 1000
    | .fsyncEdge _ => 3 * (x.period * 1000) / 2) }

/-- The state in which the tick of an event falls: a notice of the event may have been raised, and
written (R124, R125). -/
def fallState (s : State) (cause : TickCause) (e : Instant) (g : Engine) (q : List SelfEntry)
    (w : List Waiter) : State :=
  { s with
    now := max s.now e, timer := fired cause e s.timer, engine := g
    port := { s.port with selfQ := q, waiters := w } }

/-- The event raises no notice. -/
def Quiet (s : State) (cause : TickCause) : Prop :=
  cause = .internalExpiry ∨ cause ≠ .guardExpiry ∧ s.timer.state = .externalLocked

/-- The order engine as a state in which a tick falls may have it. -/
structure Fallen (s : State) (cause : TickCause) (g : Engine) : Prop where
  engine : g = { s.engine with
    backlog := g.backlog, completionProducer := g.completionProducer }
  quiet : Quiet s cause → g = s.engine

variable {s : State} {cause : TickCause} {e : Instant}

/-- A notice raised where the timer's record has been changed leaves a state in which the tick falls. -/
theorem raise_fallen (k : CompKind) (h : ¬ Quiet s cause) : ∃ g q w,
    State.raise { s with now := max s.now e, timer := fired cause e s.timer } k .none [] =
      fallState s cause e g q w ∧ Fallen s cause g := by
  obtain ⟨g, q, w, hraise⟩ :=
    raise_only { s with now := max s.now e, timer := fired cause e s.timer } k .none []
  have hengine :=
    raise_engine { s with now := max s.now e, timer := fired cause e s.timer } k .none []
  rw [hraise] at hengine
  exact ⟨g, q, w, hraise, hengine, fun hquiet => absurd hquiet h⟩

theorem timerEvent_falls (h : s.TickAt cause e) : ∃ g q w,
    s.timerEvent cause = (fallState s cause e g q w).tick e ∧ Fallen s cause g := by
  cases cause with
  | internalExpiry =>
    exact ⟨s.engine, s.port.selfQ, s.port.waiters, internalExpiry_due h, rfl, fun _ => rfl⟩
  | guardExpiry =>
    obtain ⟨g, q, w, hraise, hfallen⟩ :=
      raise_fallen (s := s) (cause := .guardExpiry) (e := e) .syncLost (by simp [Quiet])
    exact ⟨g, q, w, (guardExpiry_due h).trans (congrArg (State.tick · e) hraise), hfallen⟩
  | fsyncEdge t =>
    obtain ⟨hrunning, rfl, hstate | ⟨hstate, hlate⟩⟩ := h
    · refine ⟨s.engine, s.port.selfQ, s.port.waiters,
        (edge_locked (s := s.atInstant t) hrunning hstate).trans ?_, rfl, fun _ => rfl⟩
      unfold guarded fallState fired
      rw [← hstate, max_eq_right (le_max_left s.now t)]
      rfl
    · obtain ⟨g, q, w, hraise, hfallen⟩ := raise_fallen (s := s) (cause := .fsyncEdge t)
        (e := max s.now t) .syncRegained (by simp [Quiet, hstate])
      refine ⟨g, q, w, (edge_lost (s := s.atInstant t) hrunning hstate).trans
        ((if_pos hlate).trans ?_), hfallen⟩
      rw [← hraise, max_eq_right (le_max_left s.now t)]
      rfl

end

/-! ## The tick that a timing change finds (R136, R137) -/

section

variable {s : State} {cause : TickCause} {e : Instant}

/-- The command of the timer that makes the event of a cause. -/
def eventOf : TickCause → Instr
  | .internalExpiry => .internalExpiry
  | .guardExpiry => .guardExpiry
  | .fsyncEdge t => .fsyncEdge t

theorem exec_eventOf (s : State) (cause : TickCause) :
    exec (eventOf cause) s = .next (s.timerEvent cause).settle := by
  cases cause <;> rfl

theorem takesTick_of_tickAt (h : s.TickAt cause e)
    (htaken : s.timer.pass = none ∨ s.timer.pendingTick = none) : s.takesTick cause = true := by
  unfold State.takesTick
  rw [slipsNow_eq_false htaken]
  cases cause with
  | internalExpiry => simp only [internalDue_of_tickAt h]; rfl
  | guardExpiry => simp only [guardDue_of_tickAt h]; rfl
  | fsyncEdge t =>
    obtain ⟨hrunning, rfl, hstate | ⟨hstate, hlate⟩⟩ := h
    · simp only [hrunning, hstate]
      rfl
    · simp only [hrunning, hstate]
      exact decide_eq_true hlate

theorem tickArmed_eq {q : Half} {src : TickSource} {p : Nat} (htakes : s.takesTick cause = true)
    (h : s.timer.change = .armed q src p) : s.tickArmed cause = s.timerEvent cause := by
  unfold State.tickArmed Timer.armed
  rw [htakes, h]
  rfl

theorem tickArmed_idle (h : ∀ q src p, s.timer.change ≠ .armed q src p) : s.tickArmed cause = s := by
  unfold State.tickArmed Timer.armed
  cases hchange : s.timer.change with
  | armed q src p => exact absurd hchange (h q src p)
  | _ => exact if_neg (by simp)

theorem tickBlanking_eq {q : Half} (htakes : s.takesTick cause = true)
    (h : s.timer.change = .blanking q) : s.tickBlanking cause = s.timerEvent cause := by
  unfold State.tickBlanking Timer.blanking
  rw [htakes, h]
  rfl

theorem tickBlanking_idle (h : ∀ q, s.timer.change ≠ .blanking q) : s.tickBlanking cause = s := by
  unfold State.tickBlanking Timer.blanking
  cases hchange : s.timer.change with
  | blanking q => exact absurd hchange (h q)
  | _ => exact if_neg (by simp)

end

/-! ## SET-TIMING at its execution (R135), and its completion (R137) -/

section

variable {s : State} {q : Half} {source : Byte} {p : Nat}

theorem sourceOf_eq_none (h : source ≠ 1#8 ∧ source ≠ 2#8) : sourceOf source = none := by
  unfold sourceOf
  rw [if_neg h.1, if_neg h.2]

theorem sourceOf_eq_some (h : ¬ (source ≠ 1#8 ∧ source ≠ 2#8)) :
    sourceOf source = some (if source = 1#8 then .internal else .external) := by
  unfold sourceOf
  split
  · rfl
  · next h1 => exact if_pos (by_contra fun h2 => h ⟨h1, h2⟩)

/-- The fields of a SET-TIMING that is refused BAD-ORDER (R135). -/
def BadTiming (source : Byte) (p : Nat) : Prop :=
  (source ≠ 1#8 ∧ source ≠ 2#8) ∨ p < 5000 ∨ 40000 < p

theorem doSetTiming_bad (h : BadTiming source p) :
    s.doSetTiming q source p = s.finish (orderCompletion q .badOrder .none []) := by
  unfold State.doSetTiming
  split
  · rfl
  · next hsource =>
    have hperiod := h.resolve_left fun hbad => by
      rw [sourceOf_eq_none hbad] at hsource
      cases hsource
    exact if_pos (by simpa using hperiod)

/-- The fields pass: the timing change decides (R135). -/
theorem doSetTiming_good (h : ¬ BadTiming source p) : s.doSetTiming q source p =
    match s.timer.change with
    | .none => (s.setTimer { s.timer with
        change := .armed q (if source = 1#8 then .internal else .external) p }).endExecution
    | _ => s.finish (orderCompletion q .busy .none []) := by
  unfold BadTiming at h
  rw [not_or] at h
  unfold State.doSetTiming
  rw [sourceOf_eq_some h.1]
  dsimp only
  rw [if_neg (by simpa using h.2)]
  cases s.timer.change <;> rfl

theorem doSetTiming_busy (h : ¬ BadTiming source p) (hchange : s.timer.change ≠ .none) :
    s.doSetTiming q source p = s.finish (orderCompletion q .busy .none []) := by
  rw [doSetTiming_good h]
  cases hc : s.timer.change with
  | none => exact absurd hc hchange
  | _ => rfl

theorem doSetTiming_arms (h : ¬ BadTiming source p) (hchange : s.timer.change = .none) :
    s.doSetTiming q source p = (s.setTimer { s.timer with
      change := .armed q (if source = 1#8 then .internal else .external) p }).endExecution := by
  rw [doSetTiming_good h, hchange]

/-- The return of a fetch with a SET-TIMING carries the order out (R166). -/
theorem exec_setTiming {i : Nat} (h : s.FetchAt i q) (t : Instant) (source : Byte) (period : Word) :
    exec (.setTiming t source period) s =
      .next ((s.afterFetch t i).doSetTiming q source period.toNat).settle :=
  next_settle (returnOrder_of_fetchAt h t _)

theorem afterFetch_timer (s : State) (t : Instant) (i : Nat) :
    (s.afterFetch t i).timer = s.timer := by
  obtain ⟨g, y, x, w, h⟩ := afterFetch_only s t i
  rw [h]

theorem writeTimingDone_room (h : s.timer.change = .waiting q) (hroom : s.engine.room = true) :
    s.writeTimingDone = State.writeCompletion { s with timer := { s.timer with change := .none } }
      .timer false (orderCompletion q .done .none []) := by
  unfold State.writeTimingDone
  rw [h]
  exact if_pos hroom

theorem writeTimingDone_full (hroom : ¬ s.engine.room = true) : s.writeTimingDone = s := by
  unfold State.writeTimingDone
  split
  · exact if_neg hroom
  all_goals rfl

end

/-- Settles O40: SET-TIMING by its fields and the change, the two ticks of a change by the state in which
they fall, and the completion by the ring's room. -/
theorem timingChanges : Obligations.TimingChanges := by
  refine ⟨?_, ?_, ?_⟩
  · intro s t i q source period hfetch w bad
    have hexec := exec_setTiming hfetch t source period
    have htimer : w.timer = s.timer := afterFetch_timer s t i
    refine ⟨fun hbad => hexec.trans (next_settle (doSetTiming_bad hbad)),
      fun hgood hbusy => hexec.trans (next_settle (doSetTiming_busy hgood (by rwa [htimer]))),
      fun hgood hnone => hexec.trans (next_settle
        ((doSetTiming_arms hgood (by rwa [htimer])).trans ?_))⟩
    rw [htimer]
    rfl
  · intro s cause e htick htaken n event ages ticked
    obtain ⟨g, q', w, hevent, hfallen⟩ := timerEvent_falls htick
    have htakes := takesTick_of_tickAt htick htaken
    have hexec : exec event s = .next (s.timerEvent cause).settle := by
      rw [← exec_eventOf]
      cases cause <;> rfl
    have htimer := tick_timer (s := fallState s cause e g q' w) (e := e) htaken
    have hticked : ticked ((fallState s cause e g q' w).tick e) := by
      have hcounts := tick_counts (s := fallState s cause e g q' w) (e := e) htaken
      have hengine := tick_engine (s := fallState s cause e g q' w) (e := e) htaken
      refine ⟨by rw [hcounts]; rfl, by rw [hcounts]; rfl, by rw [hcounts]; rfl,
        by rw [hcounts]; exact htick.1, fun hidle => ?_, fun p hpass => ?_, tick_waiting htaken,
        tick_mailboxes htaken, tick_directory htaken, ?_, fun hquiet => ?_⟩
      · rw [hcounts]
        exact ⟨if_pos hidle, if_pos hidle⟩
      · have hbusy : s.timer.pass ≠ none := by simp [hpass]
        rw [hcounts]
        exact ⟨(if_neg hbusy).trans hpass, if_neg hbusy⟩
      · have hg : { s.engine with
            backlog := ((fallState s cause e g q' w).tick e).engine.backlog
            completionProducer := ((fallState s cause e g q' w).tick e).engine.completionProducer }
            = g := by
          rw [hengine]
          exact hfallen.engine.symm
        rw [hg]
        exact tick_only htaken
      · exact hengine.trans (hfallen.quiet hquiet)
    rw [← hevent] at htimer hticked
    refine ⟨fun q src p harmed => ?_, fun q hblank => ?_, fun h => ?_, fun h => ?_⟩
    · have hset := htimer.trans (changeAtTick_armed (x := counted (fired cause e s.timer) e) harmed)
      have harm : exec (.timingChangeTakeEffect cause) s = .next (s.timerEvent cause).settle :=
        next_settle (tickArmed_eq htakes harmed)
      refine ⟨harm.trans hexec.symm, _, harm, hticked, ?_⟩
      rw [hset]
      exact ⟨rfl, rfl, rfl, rfl, rfl⟩
    · have hset :=
        htimer.trans (changeAtTick_blanking (x := counted (fired cause e s.timer) e) hblank)
      have hend : exec (.blankingEnd cause) s = .next (s.timerEvent cause).settle :=
        next_settle (tickBlanking_eq htakes hblank)
      refine ⟨hend.trans hexec.symm, _, hend, hticked, ?_⟩
      rw [hset]
      exact ⟨rfl, rfl, rfl, rfl, rfl⟩
    · exact next_settle (tickArmed_idle h)
    · exact next_settle (tickBlanking_idle h)
  · intro s t q hwaiting
    exact ⟨fun hroom => next_settle (writeTimingDone_room (s := s.atInstant t) hwaiting
        ((Draining.room_iff s.engine).2 hroom)),
      fun hfull => next_settle (writeTimingDone_full (s := s.atInstant t) fun h =>
        Nat.not_lt.2 hfull ((Draining.room_iff s.engine).1 h))⟩

end Sys2Proof.Ticks

namespace Sys2Proof.Scanning

-- Theorems that wait in parallel for the kernel each hold a thread's stack.
set_option Elab.async false

open Sys2Proof Sys2Proof.Machine Sys2Proof.Laws

/-! ## The order of a pass (R129) -/

section

variable {s : State}

/-- An entry that a step of a pass asked for waits for a place (R129). -/
abbrev Waits (p : Port) : Prop := ∃ w ∈ p.waiters, ∃ b es, w = .entries b true es

theorem passWaits_iff (p : Port) : p.passWaits = true ↔ Waits p := by
  unfold Port.passWaits
  rw [List.any_eq_true]
  refine exists_congr fun w => and_congr_right fun _ => ?_
  cases w with
  | entries b byPass es => cases byPass <;> simp
  | reportWrite => simp

theorem not_passWaits {p : Port} (h : ¬ Waits p) : ¬ p.passWaits = true :=
  fun hwaits => h ((passWaits_iff p).1 hwaits)

theorem isOpen_iff (x : Call) : x.isOpen = true ↔ x.state = .opened := by
  unfold Call.isOpen
  cases x.state <;> simp

/-- The call is OPEN and stands above the one last visited (R129). -/
abbrev Above (s : State) (last : Option CallNo) (c : CallNo) : Prop :=
  s.calls[c].state = .opened ∧ ∀ l, last = some l → l < c

/-- The first element found in an ascending list is the least that passes. -/
theorem find?_eq_some_iff_least {n : Nat} {l : List (Fin n)} (hl : l.Pairwise (· < ·))
    (p : Fin n → Bool) (a : Fin n) :
    l.find? p = some a ↔ (a ∈ l ∧ p a = true) ∧ ∀ b, b ∈ l ∧ p b = true → a ≤ b := by
  induction l with
  | nil => simp
  | cons x xs ih =>
    obtain ⟨hx, hxs⟩ := List.pairwise_cons.1 hl
    by_cases hpx : p x = true
    · rw [List.find?_cons_of_pos hpx, Option.some.injEq]
      constructor
      · rintro rfl
        exact ⟨⟨List.mem_cons_self, hpx⟩, fun b ⟨hb, _⟩ =>
          (List.mem_cons.1 hb).elim (fun h => h ▸ le_rfl) fun h => (hx b h).le⟩
      · rintro ⟨⟨ha, -⟩, hleast⟩
        have hax := hleast x ⟨List.mem_cons_self, hpx⟩
        exact (List.mem_cons.1 ha).elim Eq.symm fun h => absurd (hx a h) (not_lt.2 hax)
    · have hmem : ∀ b, b ∈ x :: xs ∧ p b = true ↔ b ∈ xs ∧ p b = true := fun b =>
        and_congr_left fun hb => by
          rw [List.mem_cons, or_iff_right]
          rintro rfl
          exact hpx hb
      rw [List.find?_cons_of_neg hpx, ih hxs]
      simp only [hmem]

/-- The search's test of a number: it is above the call last visited. -/
def numberAbove (last : Option CallNo) (c : CallNo) : Bool :=
  match last with
  | none => true
  | some l => decide (l < c)

theorem numberAbove_iff (last : Option CallNo) (c : CallNo) :
    numberAbove last c = true ↔ ∀ l, last = some l → l < c := by
  cases last <;> simp [numberAbove]

theorem nextCall_eq (s : State) (last : Option CallNo) :
    s.nextCall last = (tabIdxs Call.isOpen s.calls).find? (numberAbove last) := rfl

theorem above_iff (last : Option CallNo) (c : CallNo) :
    (c ∈ tabIdxs Call.isOpen s.calls ∧ numberAbove last c = true) ↔ Above s last c := by
  rw [mem_tabIdxs, isOpen_iff, numberAbove_iff]

theorem nextCall_eq_some_iff (last : Option CallNo) (c : CallNo) : s.nextCall last = some c ↔
    Above s last c ∧ ∀ c', Above s last c' → c ≤ c' := by
  rw [nextCall_eq, find?_eq_some_iff_least (tabIdxs_sorted _ _)]
  simp only [above_iff]

theorem nextCall_eq_none_iff (last : Option CallNo) :
    s.nextCall last = none ↔ ∀ c, ¬ Above s last c := by
  rw [nextCall_eq, List.find?_eq_none]
  refine forall_congr' fun c => ?_
  rw [← above_iff, not_and]

theorem dueVisit_iff (p : Pass) (c : CallNo) : s.dueVisit = some (p, c) ↔
    ¬ Waits s.port ∧ s.timer.pass = some p
      ∧ ∃ last, p.pos = .calls last ∧ Above s last c ∧ ∀ c', Above s last c' → c ≤ c' := by
  constructor
  · intro h
    unfold State.dueVisit at h
    split at h
    · cases h
    next hwaits =>
    split at h
    · cases h
    next hpass =>
    split at h
    · cases h
    next last hpos =>
    obtain ⟨c', hnext, heq⟩ := Option.map_eq_some_iff.1 h
    cases heq
    exact ⟨fun hw => hwaits ((passWaits_iff _).2 hw), hpass, last, hpos,
      (nextCall_eq_some_iff last c).1 hnext⟩
  · rintro ⟨hwaits, hpass, last, hpos, hleast⟩
    unfold State.dueVisit
    simp only [if_neg (not_passWaits hwaits), hpass, hpos, (nextCall_eq_some_iff last c).2 hleast,
      Option.map_some]

theorem dueCheck_iff (p : Pass) (m : MboxNo) : s.dueCheck = some (p, m) ↔
    ¬ Waits s.port ∧ s.timer.pass = some p
      ∧ (p.pos = .slots m.val ∨ m = 0 ∧ ∃ last, p.pos = .calls last ∧ ∀ c, ¬ Above s last c) := by
  constructor
  · intro h
    unfold State.dueCheck at h
    split at h
    · cases h
    next hwaits =>
    split at h
    · cases h
    next hpass =>
    refine ⟨fun hw => hwaits ((passWaits_iff _).2 hw), ?_⟩
    split at h
    next n hpos =>
      split at h
      · cases h
        exact ⟨hpass, .inl hpos⟩
      · cases h
    next last hpos =>
      split at h
      · cases h
      next hnone =>
      cases h
      exact ⟨hpass, .inr ⟨rfl, last, hpos,
        (nextCall_eq_none_iff last).1 (Option.not_isSome_iff_eq_none.1 hnone)⟩⟩
  · rintro ⟨hwaits, hpass, hpos | ⟨rfl, last, hpos, hnone⟩⟩
    · unfold State.dueCheck
      simp only [if_neg (not_passWaits hwaits), hpass, hpos]
      exact dif_pos m.isLt
    · unfold State.dueCheck
      simp only [if_neg (not_passWaits hwaits), hpass, hpos, (nextCall_eq_none_iff last).2 hnone]
      rfl

/-! ## The end of a pass (R129) -/

theorem endPass_next {p : Pass} {n : Nat} (hwaits : ¬ Waits s.port) (hpass : s.timer.pass = some p)
    (hpos : p.pos = .slots n) (hn : 32 ≤ n) : s.endPass = { s with timer := { s.timer with
      pass := s.timer.pendingTick.map fun k => { number := k, pos := .calls none }
      pendingTick := none } } := by
  unfold State.endPass
  simp only [if_neg (not_passWaits hwaits), hpass, hpos, if_neg (Nat.not_lt.2 hn)]
  split
  · next hpending => simp only [hpending, Option.map_none]; rfl
  · next k hpending => rw [hpending]; rfl

theorem endPass_idle (h : Waits s.port ∨ s.timer.pass = none
    ∨ (∃ p last, s.timer.pass = some p ∧ p.pos = .calls last)
    ∨ ∃ p n, s.timer.pass = some p ∧ p.pos = .slots n ∧ n < 32) : s.endPass = s := by
  unfold State.endPass
  by_cases hwaits : s.port.passWaits = true
  · exact if_pos hwaits
  · rw [if_neg hwaits]
    rcases h with h | h | ⟨p, last, hpass, hpos⟩ | ⟨p, n, hpass, hpos, hn⟩
    · exact absurd ((passWaits_iff _).2 h) hwaits
    · rw [h]
    · simp only [hpass, hpos]
    · simp only [hpass, hpos, if_pos hn]

end

/-! ## A pass through the work of an event (log 7) -/

/-- The pass in flight and the pending tick are as they were. -/
structure SamePass (s u : State) : Prop where
  pass : u.timer.pass = s.timer.pass
  pendingTick : u.timer.pendingTick = s.timer.pendingTick

theorem SamePass.trans {s u v : State} (h : SamePass s u) (k : SamePass u v) : SamePass s v :=
  ⟨k.pass.trans h.pass, k.pendingTick.trans h.pendingTick⟩

theorem SamePass.of_timer {s u : State} (h : u.timer = s.timer) : SamePass s u := by
  constructor <;> rw [h]

theorem SamePass.of_engineOnly {s u : State} (h : EngineOnly s u) : SamePass s u := by
  obtain ⟨g, q, w, rfl⟩ := h
  exact ⟨rfl, rfl⟩

theorem endClose_timer (s : State) (c : CallNo) : (s.endClose c).timer = s.timer := by
  unfold State.endClose
  split
  · exact (congrArg State.timer (CloseOrders.freeCall_freed s c).only :)
  · rfl

theorem endCloses_timer (cs : List CallNo) (s : State) : (s.endCloses cs).timer = s.timer := by
  induction cs generalizing s with
  | nil => rfl
  | cons c cs ih => exact (ih _).trans (endClose_timer s c)

theorem writeTimingDone_samePass (s : State) : SamePass s s.writeTimingDone := by
  unfold State.writeTimingDone
  split
  · split
    · exact SamePass.trans (u := s.setTimer { s.timer with change := .none }) ⟨rfl, rfl⟩
        (.of_engineOnly (writeCompletion_only _ _ _ _ _))
    · exact ⟨rfl, rfl⟩
  all_goals exact ⟨rfl, rfl⟩

/-- The state on which an event's work ends a pass (log 7). -/
def beforeEndPass (s : State) : State :=
  let u := s.placeWaiting.deliver.writeHeld
  (u.endCloses (tabIdxs Call.isClosing u.calls)).writeTimingDone.endDraining.startFetch

theorem settleRings_eq (s : State) : s.settleRings = (beforeEndPass s).endPass := rfl

theorem beforeEndPass_samePass (s : State) : SamePass s (beforeEndPass s) :=
  (((((SamePass.of_engineOnly (placeWaiting_only s)).trans
    (.of_engineOnly (deliver_only _))).trans (.of_engineOnly (writeHeld_only _))).trans
    (.of_timer (endCloses_timer _ _))).trans (writeTimingDone_samePass _)).trans
    ((SamePass.of_engineOnly (endDraining_only _)).trans (.of_engineOnly (startFetch_only _)))

theorem endPass_port (s : State) : s.endPass.port = s.port :=
  (congrArg State.port (Bounds.endPass_only s) :)

theorem settleLanes_timer (s : State) : s.settleLanes.timer = s.timer := by
  have hupkeep := congrArg State.timer (voiceUpkeep_lanesOnly s.retestArrival).1
  have hgranted := congrArg State.timer (grantAll_lanesOnly s.retestArrival.voiceUpkeep).1
  have hfirst := congrArg State.timer (retestArrival_only s)
  have hlast := congrArg State.timer (retestArrival_only s.retestArrival.voiceUpkeep.grantAll)
  exact hlast.trans (hgranted.trans (hupkeep.trans hfirst))

theorem retestArrival_waiters (s : State) : s.retestArrival.port.waiters = s.port.waiters :=
  (congrArg (fun u : State => u.port.waiters) (retestArrival_only s) :)

theorem lanesOnly_waiters {s u : State} (h : LanesOnly s u) : u.port.waiters = s.port.waiters :=
  (congrArg (fun u : State => u.port.waiters) h.1 :)

theorem settleLanes_waiters (s : State) : s.settleLanes.port.waiters = s.port.waiters :=
  (retestArrival_waiters _).trans ((lanesOnly_waiters (grantAll_lanesOnly _)).trans
    ((lanesOnly_waiters (voiceUpkeep_lanesOnly _)).trans (retestArrival_waiters s)))

theorem settle_timer (s : State) : s.settle.timer = (beforeEndPass s).endPass.timer := by
  unfold State.settle
  dsimp only
  rw [settleLanes_timer, settleRings_eq]

theorem settle_waiters (s : State) : (beforeEndPass s).port.waiters = s.settle.port.waiters := by
  unfold State.settle
  dsimp only
  rw [settleLanes_waiters, settleRings_eq, endPass_port]

end Sys2Proof.Scanning

namespace Sys2Proof.Scanning

-- Theorems that wait in parallel for the kernel each hold a thread's stack.
set_option Elab.async false

open Sys2Proof Sys2Proof.Machine Sys2Proof.Laws Sys2Proof.Restart Sys2Proof.Ticks

/-! ## The expiry of a slot (R133, R142, R146, R156) -/

section

/-- The slot carries a deadline that the pass number has reached (R133). -/
abbrev Expired (x : Mbox) (n : Word) : Prop :=
  (x.state = .claimed ∨ x.state = .challenged ∨ x.state = .decided)
    ∧ ∃ d, x.deadline = some d ∧ (n - d).toNat < 2147483648

theorem expired_iff (x : Mbox) (n : Word) : x.expired n = true ↔ Expired x n := by
  unfold Mbox.expired deadlineReached
  cases hstate : x.state <;> cases hdeadline : x.deadline <;>
    simp [Expired, hstate, hdeadline, -BitVec.toNat_sub]

variable (s : State) (m : MboxNo)

/-- The state in which a CHALLENGED slot's expiry has counted as a failure (R142). -/
def failed : State :=
  if s.mailboxes[m].state = .challenged then s.countSlotFailure m else s

theorem failed_only : failed s m = { s with directory := (failed s m).directory } := by
  unfold failed State.countSlotFailure
  split
  · split <;> rfl
  · rfl

variable {s m}

theorem failed_none (h : s.mailboxes[m].state ≠ .challenged ∨ s.mailboxes[m].entry = none) :
    failed s m = s := by
  unfold failed State.countSlotFailure
  split
  · next hstate => rw [h.resolve_left (not_not.2 hstate)]
  · rfl

theorem failed_entry {d : EntryNo} (hstate : s.mailboxes[m].state = .challenged)
    (hd : s.mailboxes[m].entry = some d) : failed s m = s.countFailure d := by
  unfold failed State.countSlotFailure
  rw [if_pos hstate, hd]

variable (s m)

/-- The state in which an expired slot is FREE, its self-writes not placed yet. -/
def expiredState : State := (failed s m).freeSlot m

theorem expiredState_only : expiredState s m = { s with
    mailboxes := s.mailboxes.set m s.mailboxes[m].freed
    endpoints := (expiredState s m).endpoints, directory := (failed s m).directory } := by
  have honly := failed_only s m
  unfold expiredState
  generalize failed s m = u at honly ⊢
  obtain ⟨v, hv⟩ := clearSlotOf_only u u.mailboxes[m].owner
  rw [freeSlot_eq, hv]
  generalize u.directory = x at honly
  subst honly
  rfl

theorem expiredState_endpoints :
    (expiredState s m).endpoints = (clearSlotOf s s.mailboxes[m].owner).endpoints := by
  have honly := failed_only s m
  unfold expiredState
  generalize failed s m = u at honly ⊢
  generalize u.directory = x at honly
  subst honly
  rw [freeSlot_eq]
  cases s.mailboxes[m].owner <;> rfl

/-- The self-writes of a slot's expiry (R146). -/
def expiryWrites : List SelfEntry :=
  (if s.mailboxes[m].state = .decided then []
    else [selfWrite (s.thePlan.mailboxBase / 4 + 16 * m.val + 7) [9#32, 0#32] (.verdict m)])
    ++ freedWrites s m

/-- A FREE slot's mirror carries no state and no flag (10.6). -/
theorem expiredState_mirrorWrite : (expiredState s m).mirrorWrite m =
    selfWrite (s.thePlan.mailboxBase / 4 + 16 * m.val + 5) [0#32] (.mirror m) := by
  rw [← mirrorWord_free, expiredState_only]
  unfold State.mirrorWrite
  simp only [Fin.getElem_fin, Vector.getElem_set_self]
  rfl

theorem expiredState_mboxWord (k : Nat) : (expiredState s m).mboxWord m k = s.mboxWord m k := by
  rw [expiredState_only]
  rfl

theorem expireSlot_eq :
    s.expireSlot m = (expiredState s m).place .admission true (expiryWrites s m) := by
  have hplaced : s.expireSlot m = (expiredState s m).place .admission true
      ((if decide (s.mailboxes[m].state ≠ .decided) then
          [(expiredState s m).verdictWrite m (verdict0 .timeout)] else [])
        ++ [(expiredState s m).claimClearWrite m, (expiredState s m).mirrorWrite m]) := rfl
  rw [hplaced, expiredState_mirrorWrite]
  unfold State.verdictWrite State.claimClearWrite expiryWrites
  simp only [expiredState_mboxWord, decide_eq_true_iff, ite_not]
  rfl

end

/-! ## The check of a slot as a command (R129, R133, log 4) -/

section

variable {s : State} {p : Pass} {m : MboxNo}

/-- The state in which a pass checks a slot (R129). -/
def checked (s : State) (t : Instant) (p : Pass) (m : MboxNo) : State :=
  (s.atInstant t).setTimer { s.timer with pass := some { p with pos := .slots (m.val + 1) } }

theorem exec_slotCheck (t : Instant) (h : s.dueCheck = some (p, m)) : exec (.slotCheck t) s =
    .next (if s.mailboxes[m].expired p.number then (checked s t p m).expireSlot m
      else checked s t p m).settle := by
  have hnext : (s.atInstant t).checkNext = (checked s t p m).checkSlot m p.number := by
    have h' : (s.atInstant t).dueCheck = some (p, m) := h
    unfold State.checkNext
    rw [h']
    rfl
  exact next_settle hnext

theorem exec_slotDeadlineExpiry (t : Instant) (h : s.dueCheck = some (p, m)) :
    exec (.slotDeadlineExpiry t) s =
      if s.mailboxes[m].expired p.number then exec (.slotCheck t) s
      else .next (s.atInstant t).settle := by
  have hexpiry : (s.atInstant t).checkExpiry =
      if s.mailboxes[m].expired p.number then (s.atInstant t).checkNext else s.atInstant t := by
    have h' : (s.atInstant t).dueCheck = some (p, m) := h
    unfold State.checkExpiry State.checkNext
    rw [h']
    rfl
  rw [show exec (.slotDeadlineExpiry t) s = .next (s.atInstant t).checkExpiry.settle from rfl,
    hexpiry, show exec (.slotCheck t) s = .next (s.atInstant t).checkNext.settle from rfl]
  split <;> rfl

theorem exec_visit_idle (t : Instant) (h : s.dueVisit = none) :
    exec (.visit t) s = .next (s.atInstant t).settle
    ∧ exec (.rekeyCountdownExpiry t) s = .next (s.atInstant t).settle := by
  have h' : (s.atInstant t).dueVisit = none := h
  have hvisit : (s.atInstant t).visitNext = s.atInstant t := by
    unfold State.visitNext
    rw [h']
  have hrekey : (s.atInstant t).visitRekey = s.atInstant t := by
    unfold State.visitRekey
    rw [h']
  exact ⟨next_settle hvisit, next_settle hrekey⟩

theorem exec_slotCheck_idle (t : Instant) (h : s.dueCheck = none) :
    exec (.slotCheck t) s = .next (s.atInstant t).settle
    ∧ exec (.slotDeadlineExpiry t) s = .next (s.atInstant t).settle := by
  have h' : (s.atInstant t).dueCheck = none := h
  have hcheck : (s.atInstant t).checkNext = s.atInstant t := by
    unfold State.checkNext
    rw [h']
  have hexpiry : (s.atInstant t).checkExpiry = s.atInstant t := by
    unfold State.checkExpiry
    rw [h']
  exact ⟨next_settle hcheck, next_settle hexpiry⟩

end

/-- Settles O42: the order of the steps by the search for the next call, the end of a pass through the
stages of the work after an event, and a check by whether the slot has expired. -/
theorem slotsChecked : Obligations.SlotsChecked := by
  refine ⟨?_, fun s => ?_, ?_⟩
  · intro s t waits above
    exact ⟨dueVisit_iff, dueCheck_iff, exec_visit_idle t, exec_slotCheck_idle t,
      fun p n hpass hpos hn hwaits => endPass_next hwaits hpass hpos hn, endPass_idle⟩
  · have hsame := beforeEndPass_samePass s
    exact ⟨s.settle, beforeEndPass s, rfl, settle_timer s, hsame.pass, hsame.pendingTick,
      settle_waiters s⟩
  · intro s t p m x hdue hx area timer expired
    subst hx
    have hcheck := exec_slotCheck t hdue
    have hexpiry := exec_slotDeadlineExpiry t hdue
    refine ⟨fun h => ?_, fun h => ?_⟩
    · rw [if_neg (mt (expired_iff _ _).1 h)] at hcheck hexpiry
      exact ⟨hcheck, hexpiry⟩
    · rw [if_pos ((expired_iff _ _).2 h)] at hcheck hexpiry
      have hendpoints := expiredState_endpoints (checked s t p m) m
      have hdirectory : (expiredState (checked s t p m) m).directory =
          (failed (checked s t p m) m).directory := by
        rw [expiredState_only]
      refine ⟨expiredState (checked s t p m) m, ?_, fun e he => ?_, fun hnone => ?_,
        fun hnone => ?_, fun d hstate hd => ?_, ?_, hexpiry⟩
      · have honly := expiredState_only (checked s t p m) m
        rw [← hdirectory] at honly
        exact honly
      · have howner : (checked s t p m).mailboxes[m].owner = some e := he
        rw [hendpoints, howner]
        rfl
      · have howner : (checked s t p m).mailboxes[m].owner = none := hnone
        rw [hendpoints, howner]
        rfl
      · rw [hdirectory, failed_none (s := checked s t p m) hnone]
        rfl
      · rw [hdirectory, failed_entry (s := checked s t p m) hstate hd]
        rfl
      · rw [hcheck, expireSlot_eq]
        rfl

end Sys2Proof.Scanning

namespace Sys2Proof.Holders

-- Theorems that wait in parallel for the kernel each hold a thread's stack.
set_option Elab.async false

open Sys2Proof Sys2Proof.Machine Sys2Proof.Laws Sys2Proof.Steps Sys2Proof.Pairs

/-! ## Reservations and mailbox slots, and what keeps each well-formed (R143, R145) -/

/-- The monitor and the reservation fields name each other, and the monitor keeps to its places. -/
def Reserved (s : State) : Prop := s.ReservationsAgree ∧ s.MonitorBounded

/-- An operation that keeps the slots' deadlines and owners in line with their states, and the
reservations in agreement; each on its own. -/
structure Kept (s u : State) : Prop where
  slots : s.SlotsWellFormed → u.SlotsWellFormed := by exact fun h => h
  reservations : Reserved s → Reserved u := by exact fun h => h

theorem Kept.refl (s : State) : Kept s s := {}

theorem Kept.trans {s u v : State} (h : Kept s u) (k : Kept u v) : Kept s v :=
  ⟨k.slots ∘ h.slots, k.reservations ∘ h.reservations⟩

theorem reserved_of_same {s u : State} (h : Reserved s) (hmonitor : u.monitor = s.monitor)
    (hfield : ∀ e : EpNo, u.endpoints[e].reservation = s.endpoints[e].reservation) :
    Reserved u := by
  obtain ⟨⟨hnodup, hagree⟩, hbound⟩ := h
  refine ⟨⟨hmonitor ▸ hnodup, fun e w => ?_⟩, ?_⟩
  · rw [hfield, hmonitor]; exact hagree e w
  · rw [State.MonitorBounded, hmonitor]; exact hbound

/-- An operation that leaves the slots, the monitor and the reservation fields alone. -/
theorem Kept.of_same {s u : State} (hslots : u.mailboxes = s.mailboxes)
    (hmonitor : u.monitor = s.monitor)
    (hfield : ∀ e : EpNo, u.endpoints[e].reservation = s.endpoints[e].reservation) : Kept s u where
  slots h := by rw [State.SlotsWellFormed, hslots]; exact h
  reservations h := reserved_of_same h hmonitor hfield

section

variable (s : State)

/-! ### Updates of one record -/

theorem setEp_kept (e : EpNo) (x : EndpointRec)
    (h : x.reservation = s.endpoints[e].reservation := by rfl) : Kept s (s.setEp e x) :=
  .of_same rfl rfl (field_set EndpointRec.reservation s.endpoints e x h)

theorem setMbox_kept (m : MboxNo) (x : Mbox) (h : SlotOk s.mailboxes[m] → SlotOk x := by exact id) :
    Kept s (s.setMbox m x) where
  slots hs := setMbox_wellFormed hs m (h (hs m))

theorem setEntry_kept (d : EntryNo) (x : DirEntry) : Kept s (s.setEntry d x) := {}
theorem setRing_kept (r : RingNo) (x : Ring) : Kept s (s.setRing r x) := {}
theorem setCall_kept (c : CallNo) (x : Call) : Kept s (s.setCall c x) := {}
theorem setLane_kept (l : LaneNo) (x : Lane) : Kept s (s.setLane l x) := {}
theorem setWaiting_kept (w : List ActRequest) : Kept s (s.setWaiting w) := {}
theorem setTimer_kept (x : Timer) : Kept s (s.setTimer x) := {}
theorem setEngine_kept (g : Engine) : Kept s (s.setEngine g) := {}
theorem setPort_kept (p : Port) : Kept s (s.setPort p) := {}
theorem atInstant_kept (t : Instant) : Kept s (s.atInstant t) := {}
theorem place_kept (b : Block) (p : Bool) (es : List SelfEntry) : Kept s (s.place b p es) := {}
theorem respond_kept (id : Nat) (r : Response) : Kept s (s.respond id r) := {}

theorem writeCompletion_kept (b : Block) (p : Bool) (c : Completion) (r : Bool) :
    Kept s (s.writeCompletion b p c r) := {}

/-! ### What other parts leave alone -/

theorem engineOnly_kept {s u : State} (h : EngineOnly s u) : Kept s u := by
  obtain ⟨g, q, w, rfl⟩ := h
  exact {}

theorem settles_kept {s u : State} (h : Settling.Settles s u) : Kept s u :=
  .of_same (congrArg State.mailboxes h.only :) (congrArg State.monitor h.only :)
    fun e => (congrArg EndpointRec.reservation (h.endpoint e) :)

theorem raise_kept (k : CompKind) (x : CompSubject) (d : List Byte) : Kept s (s.raise k x d) :=
  engineOnly_kept (raise_only s k x d)

theorem finish_kept (c : Completion) : Kept s (s.finish c) := engineOnly_kept (finish_only s c)

/-! ### Reservations (R39, R143, R144) -/

/-- An endpoint has at most one reservation (R140). -/
theorem eq_of_sameHolder {s : State} (h : s.ReservationsAgree) {x y : Reservation}
    (hx : x ∈ s.monitor) (hy : y ∈ s.monitor) (hep : x.ep = y.ep) : x = y := by
  obtain ⟨-, hagree⟩ := h
  have hfield := (hagree x.ep x.word).2 hx
  rw [hep, (hagree y.ep y.word).2 hy] at hfield
  cases x
  cases y
  cases hep
  cases hfield
  rfl

theorem removeReservations_kept (p : Reservation → Bool) : Kept s (s.removeReservations p) := by
  obtain ⟨hmonitor, hep, honly⟩ := removeReservations_spec s p
  refine ⟨by rw [honly]; exact id, fun ⟨hagree, hbound⟩ => ⟨⟨?_, fun e w => ?_⟩, ?_⟩⟩
  · obtain ⟨hnodup, -⟩ := hagree
    rw [hmonitor]
    exact hnodup.filter _
  · have hholds : e ∈ (s.monitor.filter p).map Reservation.ep ↔
        ∃ x ∈ s.monitor, p x ∧ x.ep = e := by
      simp [and_assoc]
    rw [hep, hmonitor, List.mem_filter]
    split
    · rename_i hmem
      obtain ⟨x, hx, hpx, rfl⟩ := hholds.1 hmem
      refine iff_of_false nofun fun ⟨hmem, hp⟩ => ?_
      rw [← eq_of_sameHolder hagree hx hmem rfl, hpx] at hp
      cases hp
    · rename_i hmem
      refine (hagree.2 e w).trans (iff_self_and.2 fun hx => ?_)
      rw [Bool.not_eq_true', ← Bool.not_eq_true]
      exact fun hp => hmem (hholds.2 ⟨_, hx, hp, rfl⟩)
  · rw [State.MonitorBounded, hmonitor]
    exact (List.length_filter_le _ _).trans hbound

/-- With a place free after it, the monitor has lost at most its oldest reservation (R143). -/
theorem withPlace_reserved (h : Reserved s) :
    Reserved (Reserving.withPlace s) ∧ (Reserving.withPlace s).monitor.length < 16 := by
  unfold Reserving.withPlace
  split
  · exact ⟨h, by assumption⟩
  · split
    · rename_i hroom _ hnil
      exact absurd (by rw [hnil]; decide) hroom
    · rename_i old rest hm
      obtain ⟨hagree, hbound⟩ := h
      rw [State.MonitorBounded, hm, List.length_cons] at hbound
      obtain ⟨hold, hrest⟩ := List.nodup_cons.1 (hm ▸ hagree.1)
      have hmem : ∀ x, x ∈ s.monitor ↔ x = old ∨ x ∈ rest := fun x => by rw [hm, List.mem_cons]
      refine ⟨⟨⟨hrest, fun e w => ?_⟩, Nat.le_of_lt hbound⟩, hbound⟩
      rw [State.clearReservationField, setEp_get]
      show _ ↔ _ ∈ rest
      split
      · rename_i he
        refine iff_of_false nofun fun hx => hold ?_
        rwa [← eq_of_sameHolder hagree ((hmem _).2 (.inr hx)) ((hmem old).2 (.inl rfl)) he]
      · rename_i he
        exact (hagree.2 e w).trans ((hmem _).trans
          (or_iff_right fun hx => he (congrArg Reservation.ep hx)))

/-- An endpoint that held none sets a reservation where a place is free (R143). -/
theorem addReservation_reserved (h : Reserved s) {e : EpNo} (w : Nat)
    (hnone : s.endpoints[e].reservation = none) (hroom : s.monitor.length < 16) :
    Reserved (State.setEp { s with monitor := s.monitor ++ [{ ep := e, word := w }] } e
      { s.endpoints[e] with reservation := some w }) := by
  obtain ⟨⟨hnodup, hagree⟩, -⟩ := h
  have hfree : ∀ w', { ep := e, word := w' } ∉ s.monitor := fun w' hx => by
    rw [(hagree e w').2 hx] at hnone
    cases hnone
  refine ⟨⟨?_, fun e' w' => ?_⟩, ?_⟩
  · exact hnodup.append (List.nodup_singleton _) (List.disjoint_singleton.2 (hfree w))
  · rw [setEp_get]
    refine Iff.trans ?_ List.mem_append.symm
    rw [List.mem_singleton]
    split
    · rename_i he
      subst he
      simp [hfree, eq_comm]
    · rename_i he
      rw [or_iff_left fun hx => he (congrArg Reservation.ep hx)]
      exact hagree e' w'
  · show (s.monitor ++ [_]).length ≤ 16
    rw [List.length_append, List.length_singleton]
    exact hroom

theorem reserve_kept (e : EpNo) (w : Nat) : Kept s (s.reserve e w) := by
  obtain ⟨m, es, honly⟩ := (Reserving.reserve_spec s e w).2.2.2
  refine ⟨by rw [honly]; exact id, fun h => ?_⟩
  have hown := (removeReservations_kept s fun r => decide (r.ep = e)).reservations h
  have hnone : (s.removeReservations fun r => decide (r.ep = e)).endpoints[e].reservation
      = none := by
    obtain ⟨⟨-, hagree⟩, -⟩ := hown
    by_contra hne
    obtain ⟨w', hw'⟩ := Option.ne_none_iff_exists'.1 hne
    have hmem := (hagree e w').1 hw'
    rw [Reserving.removeOwn_monitor] at hmem
    obtain ⟨-, hother⟩ := List.mem_filter.1 hmem
    simp at hother
  rw [Reserving.reserve_eq s e w _ rfl]
  obtain ⟨hplace, hroom⟩ := withPlace_reserved _ hown
  refine addReservation_reserved _ hplace w ?_ hroom
  rw [(Reserving.withPlace_spec _).2.1 e]
  split
  · exact hnone
  · rfl

/-! ### The ports (chapter 2) -/

theorem send_kept (r : DsRequest) (src : DsSource) : Kept s (s.send r src) := by
  unfold State.send
  split
  · exact (removeReservations_kept s _).trans (setPort_kept _ _)
  · exact setPort_kept s _

theorem refuse_kept (a : Accepted) (v : Violation) : Kept s (s.refuse a v) :=
  (setEp_kept s _ _ (by cases v <;> rfl)).trans (respond_kept _ _ _)

theorem takeOut_kept (a : Accepted) : Kept s (s.takeOut a) := {}

theorem offer_kept (r : Request) : Kept s (s.offer r) := by
  unfold State.offer State.arrive
  split
  · split
    · exact (setPort_kept s _).trans (refuse_kept _ _ _)
    · exact {}
  · exact {}

theorem returnResponse_kept (e : EpNo) : Kept s (s.returnResponse e) := by
  unfold State.returnResponse
  split
  · exact {}
  · split <;> exact {}

theorem monitorAt_kept (a : Accepted) : Kept s (s.monitorAt a) := by
  unfold State.monitorAt
  split
  · split
    · exact reserve_kept s _ _
    · exact {}
  · exact removeReservations_kept s _
  all_goals exact {}

theorem recordMark_kept (o : Option (MboxNo × Mark)) : Kept s (s.recordMark o) := by
  cases o with
  | none => exact {}
  | some x => exact setMbox_kept s x.1 _

theorem grantMailbox_kept (a : Accepted) : Kept s (s.grantMailbox a).1 := by
  have hmon := monitorAt_kept s a
  unfold State.grantMailbox
  dsimp only
  split
  · exact hmon.trans (refuse_kept _ _ _)
  · exact hmon.trans (respond_kept _ _ _)
  · exact (hmon.trans (recordMark_kept _ _)).trans (send_kept _ _ _)

theorem grantForwarded_kept (c : Candidate) : Kept s (s.grantForwarded c).1 := by
  unfold State.grantForwarded
  split
  · dsimp only
    split
    · exact (takeOut_kept s _).trans (grantMailbox_kept _ _)
    · exact (takeOut_kept s _).trans (send_kept _ _ _)
  · exact (setPort_kept s _).trans (send_kept _ _ _)

theorem grantSelf_kept : Kept s s.grantSelf := by
  unfold State.grantSelf
  split
  · exact {}
  · exact ((setPort_kept s _).trans (send_kept _ _ _)).trans (setPort_kept _ _)

theorem grantDownN_kept (n : Nat) (s : State) : Kept s (s.grantDownN n) := by
  induction n generalizing s with
  | zero => exact {}
  | succ n ih =>
    unfold State.grantDownN
    dsimp only
    split
    · split
      · exact grantSelf_kept s
      · exact {}
    · rename_i c _
      have hgrant := grantForwarded_kept s c
      split
      · exact grantSelf_kept s
      · split
        · rename_i hu
          rw [hu] at hgrant
          exact hgrant.trans (setPort_kept _ _)
        · rename_i hu
          rw [hu] at hgrant
          exact hgrant.trans (ih _)

theorem grantDown_kept : Kept s s.grantDown := by
  unfold State.grantDown
  split
  · exact {}
  · exact grantDownN_kept _ s

/-! ### The transform unit (chapter 3) -/

theorem raiseCounts_kept (tk : Ticket) : Kept s (s.raiseCounts tk) := {}

theorem stampLane_kept (l : LaneNo) : Kept s (s.stampLane l) := {}

theorem enterNonMember_kept (a : Accepted) : Kept s (s.enterNonMember a) := by
  unfold State.enterNonMember
  split
  · exact {}
  all_goals exact refuse_kept s a _

theorem enter_kept (a : Accepted) : Kept s (s.enter a) := by
  unfold State.enter
  split
  · exact refuse_kept s a _
  · split
    · exact enterNonMember_kept s a
    · split
      · exact {}
      · split
        · unfold State.enterRead
          dsimp only
          split
          · exact (respond_kept s _ _).trans (stampLane_kept _ _)
          · exact (setPort_kept s _).trans (raiseCounts_kept _ _)
        · unfold State.enterWrite
          split
          · exact (refuse_kept s _ _).trans (stampLane_kept _ _)
          · exact (setPort_kept s _).trans (raiseCounts_kept _ _)
        all_goals exact enterNonMember_kept s a

theorem transformNext_kept : Kept s s.transformNext := by
  unfold State.transformNext
  split
  · exact {}
  · exact (takeOut_kept s _).trans (enter_kept _ _)

theorem endRingDrain_kept (r : RingNo) : Kept s (s.endRingDrain r) := by
  rw [Bounds.endRingDrain_rings]
  exact {}

theorem leaveCounts_kept (tk : Ticket) : Kept s (s.leaveCounts tk) :=
  (((setRing_kept s tk.ring _).trans (setLane_kept _ _ _)).trans
    (stampLane_kept _ _)).trans (endRingDrain_kept _ _)

theorem fillByAnswer_kept (x : Xform) (no : Nat) (a : Answer) : Kept s (s.fillByAnswer x no a) := by
  unfold State.fillByAnswer State.setFill
  split
  · split
    · split <;> exact {}
    · exact {}
  · exact {}

theorem leaveTransform_kept (x : Xform) (r : Response) : Kept s (s.leaveTransform x r) := by
  unfold State.leaveTransform
  dsimp only
  split
  · exact {}
  · exact ((setPort_kept s _).trans (leaveCounts_kept _ _)).trans (respond_kept _ _ _)

theorem pieceAnswer_kept (id no : Nat) (a : Answer) : Kept s (s.pieceAnswer id no a) := by
  unfold State.pieceAnswer
  split
  · exact {}
  · dsimp only
    split
    · exact (fillByAnswer_kept s _ _ _).trans (leaveTransform_kept _ _ _)
    · exact (fillByAnswer_kept s _ _ _).trans (setPort_kept _ _)

end

end Sys2Proof.Holders

namespace Sys2Proof.Holders

-- Theorems that wait in parallel for the kernel each hold a thread's stack.
set_option Elab.async false

open Sys2Proof Sys2Proof.Machine Sys2Proof.Laws Sys2Proof.Steps Sys2Proof.Pairs

section

variable (s : State)

/-! ### Mailbox slots (R145, R146) -/

/-- A slot outside FREE goes to another such state with its owner. -/
theorem moveSlot_kept {m : MboxNo} {x : Mbox}
    (hbusy : s.SlotsWellFormed → s.mailboxes[m].state ≠ .free)
    (howner : x.owner = s.mailboxes[m].owner := by rfl)
    (hstate : x.state ≠ .free := by exact nofun)
    (hdeadline : x.deadline.isSome = true ↔
      x.state = .claimed ∨ x.state = .challenged ∨ x.state = .decided := by simp) :
    Kept s (s.setMbox m x) where
  slots hs := setMbox_wellFormed hs m ⟨hdeadline, by
    obtain ⟨-, hold⟩ := hs m
    rw [howner]
    exact iff_of_true (hold.2 (hbusy hs)) hstate⟩

theorem freed_slotOk (x : Mbox) : SlotOk x.freed := by
  constructor <;> simp [Mbox.freed, Mbox.free]

theorem clearOwner_kept (m : MboxNo) : Kept s (s.clearOwner m) := by
  unfold State.clearOwner
  split
  · exact {}
  · exact setEp_kept s _ _

theorem freeSlot_kept (m : MboxNo) : Kept s (s.freeSlot m) :=
  (clearOwner_kept s m).trans (setMbox_kept _ m _ fun _ => freed_slotOk _)

theorem decideSlot_kept {m : MboxNo} (hbusy : s.mailboxes[m].state ≠ .free) (v : Verdict) :
    Kept s (s.decideSlot m v) :=
  (moveSlot_kept s fun _ => hbusy).trans (place_kept _ _ _ _)

theorem clearMark_kept (m : MboxNo) : Kept s (s.clearMark m) := setMbox_kept s m _

theorem ageSlot_kept (m : MboxNo) : Kept s (s.ageSlot m) :=
  (setMbox_kept s m _).trans (place_kept _ _ _ _)

theorem ageSlots_kept (ms : List MboxNo) (s : State) : Kept s (s.ageSlots ms) := by
  induction ms generalizing s with
  | nil => exact {}
  | cons m ms ih => exact (ageSlot_kept s m).trans (ih _)

theorem ageRequests_kept : Kept s s.ageRequests :=
  (setWaiting_kept s _).trans (ageSlots_kept _ _)

theorem askCheck_kept (m : MboxNo) : Kept s (s.askCheck m) := by
  unfold State.askCheck
  split
  · exact {}
  · split
    · dsimp only
      split
      · exact (setWaiting_kept s _).trans (ageSlot_kept _ m)
      · exact {}
    · exact {}

theorem countSlotFailure_kept (m : MboxNo) : Kept s (s.countSlotFailure m) := by
  unfold State.countSlotFailure
  split <;> exact {}

theorem deadmit_kept (e : EpNo) (r : Reason) : Kept s (s.deadmit e r) := by
  unfold State.deadmit
  split
  · exact {}
  · exact ((setEp_kept s e _).trans (setEntry_kept _ _ _)).trans (raise_kept _ _ _ _)

/-! ### The slot events (R148 to R150) -/

theorem claimEvent_kept (m : MboxNo) (k : Mark) : Kept s (s.claimEvent m k) := by
  have hclaimed : ∀ (o : Option EpNo) (w : Word), o.isSome → SlotOk { Mbox.free with
      state := .claimed, owner := o, deadline := some w, selfRead := s.mailboxes[m].selfRead } :=
    fun o w ho => ⟨by simp, by simpa using ho⟩
  unfold State.claimEvent
  split
  · exact ((setMbox_kept s m _ fun _ => hclaimed _ _ rfl).trans (setEp_kept _ _ _)).trans
      (place_kept _ _ _ _)
  · exact {}

theorem releaseEvent_kept (m : MboxNo) : Kept s (s.releaseEvent m) := by
  unfold State.releaseEvent
  dsimp only
  split
  · exact ((countSlotFailure_kept s m).trans (freeSlot_kept _ m)).trans (place_kept _ _ _ _)
  · exact (freeSlot_kept s m).trans (place_kept _ _ _ _)

theorem goRequestEvent_kept {m : MboxNo}
    (hbusy : s.SlotsWellFormed → s.mailboxes[m].state ≠ .free) (g : GoCode) :
    Kept s (s.goRequestEvent m g) :=
  (moveSlot_kept s hbusy).trans (place_kept _ _ _ _)

theorem goAnswerEvent_kept {m : MboxNo}
    (hbusy : s.SlotsWellFormed → s.mailboxes[m].state ≠ .free) :
    Kept s (s.goAnswerEvent m) :=
  ((moveSlot_kept s hbusy).trans (place_kept _ _ _ _)).trans (askCheck_kept _ m)

theorem mailboxEvent_kept (m : MboxNo) : Kept s (s.mailboxEvent m) := by
  have hclear := clearMark_kept s m
  unfold State.mailboxEvent
  split
  · exact {}
  · dsimp only
    generalize s.clearMark m = u at hclear ⊢
    split
    · exact hclear.trans (claimEvent_kept _ m _)
    all_goals
      split
      case isFalse => exact hclear
      rename_i hstands
      have hbusy : u.SlotsWellFormed → u.mailboxes[m].state ≠ .free := fun hu =>
        busy_of_owner hu (of_decide_eq_true (Bool.and_eq_true_iff.1 hstands).2)
    · exact hclear.trans (releaseEvent_kept _ m)
    · exact hclear.trans (goRequestEvent_kept _ hbusy _)
    · exact hclear.trans (goRequestEvent_kept _ hbusy _)
    · exact hclear.trans (goAnswerEvent_kept _ hbusy)

/-! ### The self-reads, the comparison and the slot checks (R133, R151 to R156) -/

theorem decideResign_kept {m : MboxNo} (hbusy : s.mailboxes[m].state ≠ .free) (e : EpNo) :
    Kept s (s.decideResign m e) := by
  unfold State.decideResign
  split
  · exact decideSlot_kept s hbusy _
  · refine (deadmit_kept s e .resigned).trans (decideSlot_kept _ ?_ _)
    rwa [(deadmit_spec s e .resigned).1]

theorem challengeSlot_kept {m : MboxNo} (hbusy : s.mailboxes[m].state ≠ .free) (d : EntryNo)
    (r : RequestWords) : Kept s (s.challengeSlot m d r) := by
  have hcounted : Kept s { s with challengeCtr := s.challengeCtr + 1#16 } := {}
  exact (hcounted.trans (moveSlot_kept _ fun _ => hbusy)).trans (place_kept _ _ _ _)

theorem decideAdmit_kept {m : MboxNo} (hbusy : s.mailboxes[m].state ≠ .free) (e : EpNo)
    (r : RequestWords) : Kept s (s.decideAdmit m e r) := by
  unfold State.decideAdmit
  split
  · exact decideSlot_kept s hbusy _
  · dsimp only
    split
    · exact decideSlot_kept s hbusy _
    · split
      · exact decideSlot_kept s hbusy _
      · split
        · exact (setEntry_kept s _ _).trans (decideSlot_kept (s.setEntry _ _) hbusy _)
        · exact (setEntry_kept s _ _).trans (challengeSlot_kept (s.setEntry _ _) hbusy _ _)

theorem requestReturn_kept (m : MboxNo) (a : Answer) : Kept s (s.requestReturn m a) := by
  have hread := setMbox_kept s m { s.mailboxes[m] with selfRead := false }
  unfold State.requestReturn
  generalize s.setMbox m { s.mailboxes[m] with selfRead := false } = u at hread ⊢
  dsimp only
  split
  · exact hread
  · rename_i hreq
    have hbusy : u.mailboxes[m].state ≠ .free := by rw [not_not.1 hreq]; nofun
    split
    · exact hread.trans (decideResign_kept u hbusy _)
    · exact hread.trans (decideAdmit_kept u hbusy _ _)
    · exact hread
    · exact hread.trans (decideSlot_kept u hbusy _)
    · exact hread

theorem answerReturn_kept (m : MboxNo) (a : Answer) : Kept s (s.answerReturn m a) := by
  have hread := setMbox_kept s m { s.mailboxes[m] with selfRead := false }
  unfold State.answerReturn
  generalize s.setMbox m { s.mailboxes[m] with selfRead := false } = u at hread ⊢
  dsimp only
  split
  · exact hread
  · rename_i hans
    have hbusy : u.mailboxes[m].state ≠ .free := by rw [not_not.1 hans]; nofun
    split
    · split
      · exact hread.trans (setMbox_kept u m _)
      · exact (hread.trans (setMbox_kept u m _)).trans (askCheck_kept _ m)
    · have hdropped : Kept u ((u.withdrawSlot m).dropFromExpansions m) := {}
      exact (hread.trans hdropped).trans
        (decideSlot_kept ((u.withdrawSlot m).dropFromExpansions m) hbusy _)
    · exact hread

theorem movedState_kept (d : EntryNo) (e : EpNo) : Kept s (movedState s d e) := by
  unfold movedState
  split
  · exact {}
  · split
    · exact {}
    · exact deadmit_kept s _ _

theorem admitOwner_kept {m : MboxNo} (hbusy : s.mailboxes[m].state ≠ .free) (d : EntryNo)
    (e : EpNo) : Kept s (s.admitOwner m d e) := by
  have hmoved := movedState_kept s d e
  have hslot : (movedState s d e).mailboxes[m].state ≠ .free := by rwa [movedState_mailboxes]
  rw [admitOwner_eq]
  generalize movedState s d e = u at hmoved hslot ⊢
  exact (((hmoved.trans (decideSlot_kept u hslot _)).trans (setEp_kept _ e _)).trans
    (setEntry_kept _ d _)).trans (raise_kept _ _ _ _)

theorem compareSlot_kept (d : EntryNo) (m : MboxNo) : Kept s (s.compareSlot d m) := by
  unfold State.compareSlot
  dsimp only
  split
  · rename_i hstate _ _ _ _
    have hbusy : s.mailboxes[m].state ≠ .free := by rw [hstate]; nofun
    split
    · exact decideSlot_kept s hbusy _
    · split
      · exact decideSlot_kept s hbusy _
      · refine (setEntry_kept s d (s.directory[d].dropEnded s.timer.counter)).trans ?_
        have hdropped : (s.setEntry d (s.directory[d].dropEnded s.timer.counter)).mailboxes[m].state
            ≠ .free := hbusy
        generalize s.setEntry d (s.directory[d].dropEnded s.timer.counter) = u at hdropped ⊢
        split
        · have hfail : Kept u (u.countFailure d) := {}
          split <;> exact hfail.trans (decideSlot_kept (u.countFailure d) hdropped _)
        · split
          · exact decideSlot_kept u hdropped _
          · exact admitOwner_kept u hdropped d _
  · exact {}

theorem compareSlots_kept (d : EntryNo) (ms : List MboxNo) (s : State) :
    Kept s (s.compareSlots d ms) := by
  induction ms generalizing s with
  | nil => exact {}
  | cons m ms ih => exact (compareSlot_kept s d m).trans (ih _)

theorem completeEntryLane_kept (l : LaneNo) : Kept s (s.completeEntryLane l) := by
  unfold State.completeEntryLane
  split
  · exact ((atInstant_kept s _).trans (compareSlots_kept _ _ _)).trans (setLane_kept _ _ _)
  · exact {}

theorem checkSlot_kept (m : MboxNo) (n : Word) : Kept s (s.checkSlot m n) := by
  unfold State.checkSlot
  split
  · unfold State.expireSlot
    dsimp only
    split
    · exact ((countSlotFailure_kept s m).trans (freeSlot_kept _ m)).trans (place_kept _ _ _ _)
    · exact (freeSlot_kept s m).trans (place_kept _ _ _ _)
  · exact {}

theorem passCheck_kept (x : Pass) (m : MboxNo) : Kept s (s.passCheck x m) :=
  (setTimer_kept s _).trans (checkSlot_kept _ m _)

theorem checkNext_kept : Kept s s.checkNext := by
  unfold State.checkNext
  split
  · exact {}
  · exact passCheck_kept s _ _

theorem checkExpiry_kept : Kept s s.checkExpiry := by
  unfold State.checkExpiry
  split
  · exact {}
  · split
    · exact passCheck_kept s _ _
    · exact {}

/-! ### Ticks (R122 to R128) -/

theorem tick_kept (e : Instant) : Kept s (s.tick e) := by
  unfold State.tick
  split
  · exact (setTimer_kept s _).trans (raise_kept _ _ _ _)
  · exact { (setTimer_kept s _).trans (ageRequests_kept _) with }

theorem edge_kept : Kept s s.edge := by
  unfold State.edge
  split
  · dsimp only
    split
    · exact {}
    · exact (setTimer_kept s _).trans (tick_kept _ _)
    · split
      · exact ((setTimer_kept s _).trans (raise_kept _ _ _ _)).trans (tick_kept _ _)
      · exact (setTimer_kept s _).trans (raise_kept _ _ _ _)
  · exact {}

theorem internalExpiry_kept : Kept s s.internalExpiry := by
  unfold State.internalExpiry
  split
  · exact {}
  · exact ((atInstant_kept s _).trans (setTimer_kept _ _)).trans (tick_kept _ _)

theorem guardExpiry_kept : Kept s s.guardExpiry := by
  unfold State.guardExpiry
  split
  · exact {}
  · exact (((atInstant_kept s _).trans (setTimer_kept _ _)).trans (raise_kept _ _ _ _)).trans
      (tick_kept _ _)

theorem timerEvent_kept (cause : TickCause) : Kept s (s.timerEvent cause) := by
  cases cause with
  | internalExpiry => exact internalExpiry_kept s
  | guardExpiry => exact guardExpiry_kept s
  | fsyncEdge t => exact (atInstant_kept s t).trans (edge_kept _)

theorem tickArmed_kept (cause : TickCause) : Kept s (s.tickArmed cause) := by
  unfold State.tickArmed
  split
  · exact timerEvent_kept s cause
  · exact {}

theorem tickBlanking_kept (cause : TickCause) : Kept s (s.tickBlanking cause) := by
  unfold State.tickBlanking
  split
  · exact timerEvent_kept s cause
  · exact {}

end

end Sys2Proof.Holders

namespace Sys2Proof.Holders

-- Theorems that wait in parallel for the kernel each hold a thread's stack.
set_option Elab.async false

open Sys2Proof Sys2Proof.Machine Sys2Proof.Laws Sys2Proof.Steps Sys2Proof.Pairs

section

variable (s : State)

/-! ### The plan and the watched words (chapter 1, R165, R169) -/

theorem demoted_reservation (e : EndpointRec) : e.demoted.reservation = e.reservation := by
  unfold EndpointRec.demoted
  split <;> rfl

theorem takenState_kept (p : Plan) : Kept s (takenState s p) :=
  .of_same rfl rfl fun e =>
    (congrArg EndpointRec.reservation (mapTab_get EndpointRec.demoted s.endpoints e)).trans
      (demoted_reservation _)

theorem makeControls_kept (es : List EpNo) (s : State) : Kept s (s.makeControls es) := by
  induction es generalizing s with
  | nil => exact {}
  | cons e es ih => exact ((setEp_kept s e _).trans (deadmit_kept _ e .role)).trans (ih _)

theorem takePlan_kept (p : Plan) : Kept s (s.takePlan p) := by
  rw [takePlan_eq]
  exact (((takenState_kept s p).trans (removeReservations_kept _ _)).trans
    (engineOnly_kept (deliver_only _))).trans (makeControls_kept _ _)

theorem applyOutcome_kept (a : Answer) (o : PlanOutcome) : Kept s (s.applyOutcome a o) := by
  unfold State.applyOutcome
  split
  · exact takePlan_kept s _
  · exact {}

theorem endValidation_kept (a : Answer) : Kept s (s.endValidation a) := by
  have hrestart : ∀ u : State, Kept u u.restartValidation := fun u => by
    unfold State.restartValidation
    split <;> exact {}
  have hended : Kept s { s with validator :=
    { s.validator with inFlight := false, count := s.validator.count + 1#16 } } := {}
  exact ((hended.trans (applyOutcome_kept _ _ _)).trans (place_kept _ _ _ _)).trans (hrestart _)

theorem watchEvent_kept (w : Watch) : Kept s (s.watchEvent w) := by
  cases w with
  | signature =>
    show Kept s s.signatureEvent
    unfold State.signatureEvent
    split <;> exact {}
  | orderCount v =>
    show Kept s (s.orderCountEvent v)
    unfold State.orderCountEvent
    split <;> exact {}
  | completionCount v =>
    show Kept s (s.completionCountEvent v)
    unfold State.completionCountEvent
    split <;> exact {}
  | mailbox m => exact mailboxEvent_kept s m

theorem watchFailed_kept (w : Watch) : Kept s (s.watchFailed w) := by
  cases w with
  | mailbox m => exact clearMark_kept s m
  | _ => exact {}

theorem watchAnswered_kept (w : Option Watch) (a : Answer) : Kept s (s.watchAnswered w a) := by
  unfold State.watchAnswered
  split
  · exact {}
  · exact watchEvent_kept s _
  · exact watchFailed_kept s _
  · exact watchFailed_kept s _

theorem selfWriteAnswer_kept (src : SelfSource) (a : Answer) :
    Kept s (s.selfWriteAnswer src a) := by
  unfold State.selfWriteAnswer State.selfWriteFault
  split
  · exact {}
  · exact {}
  · split
    · exact {}
    · exact raise_kept s _ _ _

/-- No reservation stands once the part has entered UNPLANNED (R10). -/
theorem enterUnplanned_kept : Kept s s.enterUnplanned where
  reservations _ := by
    refine ⟨⟨List.nodup_nil, fun e w => ?_⟩, Nat.zero_le _⟩
    rw [show s.enterUnplanned.endpoints[e] = _ from mapTab_get EndpointRec.unplanned s.endpoints e]
    exact iff_of_false nofun List.not_mem_nil

/-! ### Calls (chapters 6 and 7) -/

theorem goClosing_kept (c : CallNo) : Kept s (s.goClosing c) := {}

theorem closeIfEmptied_kept (c : CallNo) : Kept s (s.closeIfEmptied c) := by
  unfold State.closeIfEmptied
  split
  · exact (goClosing_kept s c).trans (raise_kept _ _ _ _)
  · exact {}

theorem leave_kept (c : CallNo) (e : EpNo) (r : RingNo) : Kept s (s.leave c e r) :=
  (((setCall_kept s c _).trans (setEp_kept _ e _)).trans (setRing_kept _ r _)).trans
    (endRingDrain_kept _ r)

theorem removeMember_kept (c : CallNo) (e : EpNo) : Kept s (s.removeMember c e) := by
  unfold State.removeMember
  split
  · exact {}
  · exact (leave_kept s c e _).trans (closeIfEmptied_kept _ c)

theorem join_kept (c : CallNo) (e : EpNo) (r : RingNo) : Kept s (s.join c e r) :=
  ((setCall_kept s c _).trans (setEp_kept _ e _)).trans (setRing_kept _ r _)

theorem joinAll_kept (c : CallNo) (ms : List (EpNo × RingNo)) (s : State) :
    Kept s (s.joinAll c ms) := by
  induction ms generalizing s with
  | nil => exact {}
  | cons m ms ih => exact (join_kept s c m.1 m.2).trans (ih _)

theorem applyAdd_kept (c : CallNo) (w : Switch) : Kept s (s.applyAdd c w) := by
  unfold State.applyAdd
  split
  · exact (join_kept s c w.ep _).trans (writeCompletion_kept _ _ _ _ _)
  · exact writeCompletion_kept s _ _ _ _
  · exact writeCompletion_kept s _ _ _ _

theorem applyDrop_kept (c : CallNo) (w : Switch) : Kept s (s.applyDrop c w) := by
  unfold State.applyDrop
  split
  · exact writeCompletion_kept s _ _ _ _
  · exact ((leave_kept s c w.ep _).trans (writeCompletion_kept _ _ _ _ _)).trans
      (closeIfEmptied_kept _ c)

theorem applySwitches_kept (ws : List Switch) (c : CallNo) (s : State) :
    Kept s (State.applySwitches ws c s) := by
  induction ws generalizing s with
  | nil => exact {}
  | cons w ws ih =>
    unfold State.applySwitches
    split
    · have hset := setCall_kept s c { s.calls[c] with switches := ws }
      dsimp only
      split
      · exact (hset.trans (applyAdd_kept _ c w)).trans (ih _)
      · exact (hset.trans (applyDrop_kept _ c w)).trans (ih _)
    · exact {}

theorem syncLane_kept (c : CallNo) : Kept s (s.syncLane c) := by
  unfold State.syncLane
  split <;> exact {}

theorem openSlots_kept (f : Word) (n : Half) (ms : List Member) (s : State) :
    Kept s (s.openSlots f n ms) := by
  induction ms generalizing s with
  | nil => exact {}
  | cons m ms ih => exact (setRing_kept s _ _).trans (ih _)

theorem examine_kept (f : Word) (ms : List Member) (s : State) : Kept s (s.examine f ms) := by
  induction ms generalizing s with
  | nil => exact {}
  | cons m ms ih =>
    unfold State.examine
    split
    · exact (setEp_kept s _ _).trans (ih _)
    · exact ih s

theorem askRekey_kept (c : CallNo) : Kept s (s.askRekey c) := by
  unfold State.askRekey
  dsimp only
  split
  · exact {}
  · split <;> exact {}

theorem rekeyWork_kept (c : CallNo) (advanced : Bool) : Kept s (s.rekeyWork c advanced) := by
  have hask : ∀ x : Call, Kept s (if x.rekeyDue && x.next.isNone then
      ((s.setCall c x).setCall c { x with debt := satSucc 8 x.debt }).askRekey c
    else s.setCall c x) := fun x => by
    split
    · exact ((setCall_kept s c x).trans (setCall_kept _ c _)).trans (askRekey_kept _ c)
    · exact setCall_kept s c x
  unfold State.rekeyWork
  cases advanced
  · exact hask _
  · exact hask _

theorem visitCall_kept (c : CallNo) : Kept s (s.visitCall c) := by
  unfold State.visitCall
  have hadvanced := (setCall_kept s c (s.calls[c].step12 s.thePlan.rekeyInterval)).trans
    (syncLane_kept _ c)
  dsimp only
  generalize (s.setCall c (s.calls[c].step12 s.thePlan.rekeyInterval)).syncLane c = u
    at hadvanced ⊢
  have hexamined := (hadvanced.trans (openSlots_kept u.calls[c].frame u.calls[c].epoch
    u.calls[c].members u)).trans (examine_kept (u.calls[c].frame - 2#32) u.calls[c].members _)
  split
  · exact (hexamined.trans (applySwitches_kept _ c _)).trans (rekeyWork_kept _ c _)
  · exact hexamined.trans (applySwitches_kept _ c _)

theorem passVisit_kept (x : Pass) (c : CallNo) : Kept s (s.passVisit x c) :=
  (setTimer_kept s _).trans (visitCall_kept _ c)

theorem visitNext_kept : Kept s s.visitNext := by
  unfold State.visitNext
  split
  · exact {}
  · exact passVisit_kept s _ _

theorem visitRekey_kept : Kept s s.visitRekey := by
  unfold State.visitRekey
  split
  · exact {}
  · split
    · exact passVisit_kept s _ _
    · exact {}

theorem completeCall_kept (l : LaneNo) (x : Expansion) : Kept s (s.completeCall l x) := by
  have hderive : ∀ c : CallNo, Kept s (s.derive_ c) := fun c => by
    unfold State.derive_
    split <;> exact {}
  unfold State.completeCall
  split
  · exact {}
  · exact {}
  · dsimp only
    split
    · exact (hderive _).trans (setLane_kept _ l _)
    · exact {}

theorem completeCallLane_kept (l : LaneNo) : Kept s (s.completeCallLane l) := by
  unfold State.completeCallLane
  split
  · exact (atInstant_kept s _).trans (completeCall_kept _ _ _)
  · exact (atInstant_kept s _).trans (completeCall_kept _ _ _)
  · exact {}

theorem expireLocks_kept : Kept s s.expireLocks := {}

theorem leaveWindow_kept : Kept s s.leaveWindow := by
  unfold State.leaveWindow
  split
  · split <;> exact {}
  · exact {}

/-! ### Orders (chapter 9) -/

theorem doOpenCall_kept (q : Half) (c : CallNo) (es : List EpNo) (key : Key) (level : Fin 8) :
    Kept s (s.doOpenCall q c es key level) := by
  unfold State.doOpenCall
  split
  · exact finish_kept s _
  · exact ((setCall_kept s c _).trans (joinAll_kept c _ _)).trans (finish_kept _ _)

theorem doSwitch_kept (q : Half) (b : Bool) (c : CallNo) (e : EpNo) :
    Kept s (s.doSwitch q b c e) := by
  unfold State.doSwitch
  split
  · exact finish_kept s _
  · split
    · exact finish_kept s _
    · exact {}

theorem doCloseCall_kept (q : Half) (c : CallNo) : Kept s (s.doCloseCall q c) := by
  unfold State.doCloseCall
  split
  · exact finish_kept s _
  · exact ((setCall_kept s c _).trans (goClosing_kept _ c)).trans (setEngine_kept _ _)

theorem doRekeyNow_kept (q : Half) (c : CallNo) (level : Option (Fin 8)) :
    Kept s (s.doRekeyNow q c level) := by
  unfold State.doRekeyNow
  split
  · exact finish_kept s _
  · exact (setCall_kept s c _).trans (finish_kept _ _)

theorem doSetTiming_kept (q : Half) (code : Byte) (period : Nat) :
    Kept s (s.doSetTiming q code period) := by
  unfold State.doSetTiming
  split
  · exact finish_kept s _
  · split
    · exact finish_kept s _
    · split
      · exact {}
      all_goals exact finish_kept s _

theorem doSetEndpoint_kept (q n : Half) (role : Role) (bigEndian : Bool) :
    Kept s (s.doSetEndpoint q n role bigEndian) := by
  unfold State.doSetEndpoint
  dsimp only
  split
  · exact finish_kept s _
  · split
    · exact finish_kept s _
    · split
      · exact finish_kept s _
      · split
        · exact finish_kept s _
        · generalize (if role = .trunk then bigEndian else _) = order
          split
          · exact ((setEp_kept s _ _).trans (deadmit_kept _ _ _)).trans (finish_kept _ _)
          · exact finish_kept s _

theorem doSetDirectory_kept (q n : Half) (enabled : Bool) (number : Nat) (secret : Key) :
    Kept s (s.doSetDirectory q n enabled number secret) := by
  unfold State.doSetDirectory
  dsimp only
  split
  · exact finish_kept s _
  · split
    · exact finish_kept s _
    · split
      · exact finish_kept s _
      · split
        · exact (setEntry_kept s _ _).trans (finish_kept _ _)
        · exact ((setEntry_kept s _ _).trans (deadmit_kept _ _ _)).trans (finish_kept _ _)

theorem doRevoke_kept (q n : Half) : Kept s (s.doRevoke q n) := by
  unfold State.doRevoke
  dsimp only
  split
  · exact finish_kept s _
  · split
    · exact (deadmit_kept s _ _).trans (finish_kept _ _)
    · exact ((deadmit_kept s _ _).trans (removeMember_kept _ _ _)).trans (finish_kept _ _)

theorem doUnlock_kept (q n : Half) : Kept s (s.doUnlock q n) := by
  unfold State.doUnlock
  dsimp only
  split
  · exact finish_kept s _
  · exact (setEntry_kept s _ _).trans (finish_kept _ _)

theorem doReport_kept (q : Half) (code : Byte) (first count buffer : Nat) :
    Kept s (s.doReport q code first count buffer) := by
  unfold State.doReport
  split
  · exact finish_kept s _
  · split
    · exact (setEngine_kept s _).trans (engineOnly_kept (placeReport_only _))
    · exact finish_kept s _

/-- RESTART frees every slot and leaves the reservations (R8). -/
theorem doRestart_kept (q : Half) : Kept s (s.doRestart q) where
  slots h m := by
    show SlotOk (s.doRestart q).mailboxes[m]
    rw [Restart.doRestart_mailbox]
    unfold Restart.restartedSlot
    split
    · exact h m
    · exact ⟨by simp [Mbox.free], by simp [Mbox.free]⟩
  reservations h := by
    obtain ⟨k, b, v, w, l, p, honly⟩ := Restart.doRestart_only s q
    refine reserved_of_same h (congrArg State.monitor honly :) fun e => ?_
    obtain ⟨hyes, hno⟩ := Restart.doRestart_endpoint s q e
    by_cases hbusy : Restart.ownsBusy s (List.finRange 32) e
    · rw [hyes hbusy]
    · rw [hno hbusy]

theorem execute_kept (q : Half) (o : Order) : Kept s (s.execute q o) := by
  have hbad : Kept s (s.badOrder q) := finish_kept s _
  cases o with
  | unknown kind => exact hbad
  | openCall call count level e0 e1 e2 e3 key =>
    simp only [State.execute]
    split
    · exact hbad
    · exact doOpenCall_kept s q _ _ _ _
  | addMember call ep =>
    simp only [State.execute]
    split
    · exact doSwitch_kept s q true _ _
    · exact hbad
  | dropMember call ep =>
    simp only [State.execute]
    split
    · exact doSwitch_kept s q false _ _
    · exact hbad
  | closeCall call =>
    simp only [State.execute]
    split
    · exact doCloseCall_kept s q _
    · exact hbad
  | rekeyNow call level =>
    simp only [State.execute]
    split
    · exact doRekeyNow_kept s q _ _
    · exact hbad
  | setTiming source period => exact doSetTiming_kept s q source period.toNat
  | setEndpoint ep role order =>
    simp only [State.execute]
    split
    · exact hbad
    · split
      · exact hbad
      · exact doSetEndpoint_kept s q ep _ _
  | setDirectory index enabled number secret =>
    simp only [State.execute]
    split
    · exact hbad
    · exact doSetDirectory_kept s q index _ _ secret
  | revoke ep => exact doRevoke_kept s q ep
  | unlock index => exact doUnlock_kept s q index
  | report kind first count buffer =>
    exact doReport_kept s q kind first.toNat count.toNat buffer.toNat
  | restart => exact doRestart_kept s q

theorem fetchReturn_kept (o : Order) : Kept s (s.fetchReturn o) := by
  unfold State.fetchReturn
  split
  · exact {}
  · exact (engineOnly_kept (countConsumed_only s)).trans (execute_kept _ _ o)

theorem returnOrder_kept (o : Order) : Kept s (s.returnOrder o) := by
  unfold State.returnOrder
  split
  · exact {}
  · exact (setPort_kept s _).trans (fetchReturn_kept _ o)

theorem returnUnknown_kept (kind : Byte) : Kept s (s.returnUnknown kind) := by
  unfold State.returnUnknown
  split
  · exact {}
  · exact returnOrder_kept s _

/-! ### Memory's answers (R36) -/

theorem selfAnswer_kept (src : SelfSource) (a : Answer) : Kept s (s.selfAnswer src a) := by
  cases src with
  | anchorRead => exact endValidation_kept s a
  | orderFetch =>
    cases a with
    | ok ws => exact fetchReturn_kept s _
    | notReserved => exact {}
    | fault =>
      show Kept s s.fetchFault
      unfold State.fetchFault
      split
      · exact {}
      · exact (engineOnly_kept (countConsumed_only s)).trans (finish_kept _ _)
  | completionEntry kind restart =>
    show Kept s (s.entryAnswer kind restart a)
    unfold State.entryAnswer
    split
    · exact enterUnplanned_kept s
    · split
      · exact {}
      · exact selfWriteAnswer_kept s _ a
  | report => exact engineOnly_kept (reportAnswer_only s _)
  | requestRead m => exact requestReturn_kept s m a
  | answerRead m => exact answerReturn_kept s m a
  | _ => exact selfWriteAnswer_kept s _ a

theorem answerAt_kept (i : Nat) (a : Answer) : Kept s (s.answerAt i a) := by
  unfold State.answerAt
  split
  · exact {}
  · split
    · unfold State.answerWith
      dsimp only
      split
      · exact ((setPort_kept s _).trans (respond_kept _ _ _)).trans (watchAnswered_kept _ _ a)
      · exact (setPort_kept s _).trans (pieceAnswer_kept _ _ _ a)
      · exact (setPort_kept s _).trans (selfAnswer_kept _ _ a)
    · exact {}

theorem answerSelf_kept (src : SelfSource) (a : Answer) : Kept s (s.answerSelf src a) := by
  unfold State.answerSelf
  split
  · exact {}
  · exact answerAt_kept s _ a

theorem answerRestart_kept (a : Answer) : Kept s (s.answerRestart a) := by
  unfold State.answerRestart
  split
  · exact {}
  · exact answerAt_kept s _ a

theorem answerMark_kept (i : Nat) (k : MarkKind) : Kept s (s.answerMark i k) := by
  unfold State.answerMark
  split
  · exact answerAt_kept s i _
  · exact {}

theorem answerSignature_kept (i : Nat) : Kept s (s.answerSignature i) := by
  unfold State.answerSignature
  split
  · exact answerAt_kept s i _
  · exact {}

theorem answerOrderCount_kept (i : Nat) : Kept s (s.answerOrderCount i) := by
  unfold State.answerOrderCount
  split
  · exact answerAt_kept s i _
  all_goals exact {}

theorem answerCompletionCount_kept (i : Nat) : Kept s (s.answerCompletionCount i) := by
  unfold State.answerCompletionCount
  split
  · exact answerAt_kept s i _
  all_goals exact {}

theorem Kept.settled {s u : State} (h : Kept s u) : Kept s u.settle :=
  h.trans (settles_kept (Settling.settle_settles u))

/-- An event at an instant, and the work it brings about. -/
theorem Kept.event {s u : State} {t : Instant} (h : Kept (s.atInstant t) u) : Kept s u.settle :=
  ((atInstant_kept s t).trans h).settled

end

/-! ### Commands -/

/-- Every command but those of the reset pin keeps the slots and the reservations. -/
theorem exec_kept {c : Instr} (hc : resets c = false) (s : State) :
    ∃ u, exec c s = .next u ∧ Kept s u := by
  cases c with
  | hardReset => cases hc
  | resetNRise a b => cases hc
  | read t ep addr len => exact ⟨_, rfl, (offer_kept _ _).event⟩
  | write t ep addr data => exact ⟨_, rfl, (offer_kept _ _).event⟩
  | readReserve t ep addr len => exact ⟨_, rfl, (offer_kept _ _).event⟩
  | writeIfReserved t ep addr data => exact ⟨_, rfl, (offer_kept _ _).event⟩
  | transformEntry t => exact ⟨_, rfl, (transformNext_kept _).event⟩
  | downstreamGrant t => exact ⟨_, rfl, (grantDown_kept _).event⟩
  | memoryAnswer t i a => exact ⟨_, rfl, (answerAt_kept _ i a).event⟩
  | responseReturn t ep => exact ⟨_, rfl, (atInstant_kept s t).trans (returnResponse_kept _ ep)⟩
  | selfTrafficPlacement t => exact ⟨_, rfl, (engineOnly_kept (placeWaiting_only _)).event⟩
  | ringDrainEnd t r => exact ⟨_, rfl, (endRingDrain_kept _ r).event⟩
  | signatureWrite t i => exact ⟨_, rfl, (answerSignature_kept _ i).event⟩
  | anchorSelfReadReturn t a => exact ⟨_, rfl, (answerSelf_kept _ _ a).event⟩
  | orderProducerCountWrite t i => exact ⟨_, rfl, (answerOrderCount_kept _ i).event⟩
  | completionConsumerCountWrite t i => exact ⟨_, rfl, (answerCompletionCount_kept _ i).event⟩
  | claim t i => exact ⟨_, rfl, (answerMark_kept _ i _).event⟩
  | release t i => exact ⟨_, rfl, (answerMark_kept _ i _).event⟩
  | goAdmit t i => exact ⟨_, rfl, (answerMark_kept _ i _).event⟩
  | goResign t i => exact ⟨_, rfl, (answerMark_kept _ i _).event⟩
  | goAnswer t i => exact ⟨_, rfl, (answerMark_kept _ i _).event⟩
  | requestSelfReadReturn t m a => exact ⟨_, rfl, (answerSelf_kept _ _ a).event⟩
  | answerSelfReadReturn t m a => exact ⟨_, rfl, (answerSelf_kept _ _ a).event⟩
  | orderFetchStart t => exact ⟨_, rfl, (engineOnly_kept (startFetch_only _)).event⟩
  | orderFetchFault t => exact ⟨_, rfl, (answerSelf_kept _ _ _).event⟩
  | badOrderKind t kind => exact ⟨_, rfl, (returnUnknown_kept _ kind).event⟩
  | reportCompletion t => exact ⟨_, rfl, (engineOnly_kept (finishReport_only _)).event⟩
  | drainingEnd t => exact ⟨_, rfl, (engineOnly_kept (endDraining_only _)).event⟩
  | unplannedEntry t a => exact ⟨_, rfl, (answerRestart_kept _ a).event⟩
  | noticeDelivery t => exact ⟨_, rfl, (engineOnly_kept (deliver_only _)).event⟩
  | heldCompletionWrite t => exact ⟨_, rfl, (engineOnly_kept (writeHeld_only _)).event⟩
  | internalExpiry => exact ⟨_, rfl, (internalExpiry_kept s).settled⟩
  | guardExpiry => exact ⟨_, rfl, (guardExpiry_kept s).settled⟩
  | fsyncEdge t => exact ⟨_, rfl, (edge_kept _).event⟩
  | admitAging t => exact ⟨_, rfl, (ageRequests_kept _).event⟩
  | lockExpiry t => exact ⟨_, rfl, (expireLocks_kept _).event⟩
  | timingChangeTakeEffect cause => exact ⟨_, rfl, (tickArmed_kept s cause).settled⟩
  | blankingEnd cause => exact ⟨_, rfl, (tickBlanking_kept s cause).settled⟩
  | timingChangeCompletion t =>
    exact ⟨_, rfl, (settles_kept (Settling.writeTimingDone_settles _)).event⟩
  | visit t => exact ⟨_, rfl, (visitNext_kept _).event⟩
  | rekeyCountdownExpiry t => exact ⟨_, rfl, (visitRekey_kept _).event⟩
  | slotCheck t => exact ⟨_, rfl, (checkNext_kept _).event⟩
  | slotDeadlineExpiry t => exact ⟨_, rfl, (checkExpiry_kept _).event⟩
  | callCloseEnd t call => exact ⟨_, rfl, (settles_kept (Settling.endClose_settles _ call)).event⟩
  | activationWindowLeave => exact ⟨_, rfl, (leaveWindow_kept s).settled⟩
  | callActivationCompletion lane => exact ⟨_, rfl, (completeCallLane_kept s lane).settled⟩
  | entryActivationCompletion lane => exact ⟨_, rfl, (completeEntryLane_kept s lane).settled⟩
  | _ => exact ⟨_, rfl, (returnOrder_kept _ _).event⟩

/-- Reset leaves every slot FREE and no reservation; every other command keeps them. -/
theorem kept_of_exec {c : Instr} {s u : State} (h : exec c s = .next u) : Kept s u := by
  cases hc : resets c with
  | false =>
    obtain ⟨v, hv, hkept⟩ := exec_kept hc s
    rw [hv] at h
    cases h
    exact hkept
  | true =>
    have hfresh : u.Fresh := by
      cases c with
      | hardReset => cases h; exact Reset.hardReset_fresh s
      | resetNRise a b => cases h; exact Reset.riseReset_fresh s a b
      | _ => cases hc
    exact ⟨fun _ => Reset.slotsWellFormed_of_fresh hfresh,
      fun _ => ⟨Reset.reservationsAgree_of_fresh hfresh, Reset.monitorBounded_of_fresh hfresh⟩⟩

theorem step_kept {s u : State} (h : step s = .next u) : Kept s u := by
  unfold step at h
  split at h
  · cases h; exact Kept.refl s
  · rename_i c rest _
    have hkept := kept_of_exec (s := { s with pending := rest }) h
    exact ⟨hkept.slots, hkept.reservations⟩

/-- Settles O56: reset leaves no reservation, and every other command keeps them in agreement. -/
theorem reservationsKept : Obligations.ReservationsKept := fun _ _ hagree hbound h =>
  (step_kept h).reservations ⟨hagree, hbound⟩

/-- Settles O58: reset leaves every slot FREE, and every other command keeps the slots
well-formed. -/
theorem slotsKept : Obligations.SlotsKept := fun _ _ hs h => (step_kept h).slots hs

end Sys2Proof.Holders

namespace Sys2Proof.SlotWords

-- Theorems that wait in parallel for the kernel each hold a thread's stack.
set_option Elab.async false

open Sys2Proof Sys2Proof.Machine

/-! ## The judgement of each mailbox word (R147, R149, R150) -/

section

variable (x : Mbox) (e : EpNo) (w : WriteWord)

/-- A write of 0 to the claim word is judged by the slot's state, then its owner, then what is in
flight on it (R149). -/
theorem judgeRelease_of_zero (hen : w.en = 0xF#4) (hdata : w.data = 0#32) :
    judgeRelease x e w = if x.state = .free then some .mailbox
      else if x.owner ≠ some e then some .foreign
      else if x.inFlight = none ∧ (x.state = .claimed ∨ x.state = .challenged ∨ x.state = .decided)
        then none
      else some .mailbox := by
  unfold judgeRelease
  rw [if_neg (by simp [hen, hdata])]
  cases x.state <;> cases x.inFlight <;> rfl

theorem judgeRelease_of_other (h : ¬ (w.en = 0xF#4 ∧ w.data = 0#32)) :
    judgeRelease x e w = some .mailbox := by
  unfold judgeRelease
  rw [if_pos (by simpa [or_iff_not_imp_left] using h)]

theorem judgeRelease_none_iff : judgeRelease x e w = none ↔ w.en = 0xF#4 ∧ w.data = 0#32
    ∧ x.owner = some e ∧ x.inFlight = none
    ∧ (x.state = .claimed ∨ x.state = .challenged ∨ x.state = .decided) := by
  by_cases hzero : w.en = 0xF#4 ∧ w.data = 0#32
  · obtain ⟨hen, hdata⟩ := hzero
    rw [judgeRelease_of_zero x e w hen hdata, and_iff_right hen, and_iff_right hdata]
    split
    · rename_i hfree
      exact iff_of_false nofun fun ⟨_, _, hstate⟩ => by simp [hfree] at hstate
    · split
      · rename_i howner
        exact iff_of_false nofun fun ⟨h, _⟩ => howner h
      · rename_i howner
        rw [and_iff_right (not_not.1 howner)]
        split
        · exact iff_of_true rfl ‹_›
        · exact iff_of_false nofun ‹_›
  · rw [judgeRelease_of_other x e w hzero]
    exact iff_of_false nofun fun ⟨hen, hdata, _⟩ => hzero ⟨hen, hdata⟩

theorem judgeRelease_foreign_iff : judgeRelease x e w = some .foreign ↔ w.en = 0xF#4
    ∧ w.data = 0#32 ∧ x.state ≠ .free ∧ x.owner ≠ some e := by
  by_cases hzero : w.en = 0xF#4 ∧ w.data = 0#32
  · obtain ⟨hen, hdata⟩ := hzero
    rw [judgeRelease_of_zero x e w hen hdata]
    split
    · simp [*]
    · split
      · simp [*]
      · split <;> simp [*]
  · rw [judgeRelease_of_other x e w hzero]
    exact iff_of_false nofun fun ⟨hen, hdata, _⟩ => hzero ⟨hen, hdata⟩

theorem judgeRelease_kind {v : Violation} (h : judgeRelease x e w = some v) :
    v = .foreign ∨ v = .mailbox := by
  by_cases hzero : w.en = 0xF#4 ∧ w.data = 0#32
  · obtain ⟨hen, hdata⟩ := hzero
    rw [judgeRelease_of_zero x e w hen hdata] at h
    split at h
    · exact .inr (Option.some.inj h).symm
    · split at h
      · exact .inl (Option.some.inj h).symm
      · split at h
        · cases h
        · exact .inr (Option.some.inj h).symm
  · rw [judgeRelease_of_other x e w hzero] at h
    exact .inr (Option.some.inj h).symm

/-- Each value of the go word that names a code names its own (10.1). -/
theorem goMark_iff (v : Word) : (goMark v = some .goAdmit ↔ v = 1#32)
    ∧ (goMark v = some .goResign ↔ v = 2#32) ∧ (goMark v = some .goAnswer ↔ v = 3#32) := by
  unfold goMark
  split
  · simp [*]
  · split
    · simp [*]
    · split <;> simp [*]

theorem judgeGo_none_iff : judgeGo x e w = none ↔ x.owner = some e ∧ x.inFlight = none
    ∧ w.en = 0xF#4 ∧ (((w.data = 1#32 ∨ w.data = 2#32) ∧ x.state = .claimed)
      ∨ (w.data = 3#32 ∧ x.state = .challenged)) := by
  obtain ⟨hadmit, hresign, hanswer⟩ := goMark_iff w.data
  rw [← hadmit, ← hresign, ← hanswer]
  unfold judgeGo
  split
  · rename_i hbar
    refine iff_of_false nofun fun ⟨howner, hidle, hen, _⟩ => ?_
    simp [howner, hidle, hen] at hbar
  · rename_i hfit
    simp only [Bool.or_eq_true, decide_eq_true_eq, not_or, not_not, Option.not_isSome_iff_eq_none]
      at hfit
    obtain ⟨⟨howner, hidle⟩, hen⟩ := hfit
    rw [← and_assoc, ← and_assoc, and_iff_right ⟨⟨howner, hidle⟩, hen⟩]
    split
    · exact iff_of_true rfl (.inl ⟨.inl ‹_›, ‹_›⟩)
    · exact iff_of_true rfl (.inl ⟨.inr ‹_›, ‹_›⟩)
    · exact iff_of_true rfl (.inr ⟨‹_›, ‹_›⟩)
    · rename_i hadmit hresign hanswer
      refine iff_of_false nofun ?_
      rintro (⟨hcode | hcode, hstate⟩ | ⟨hcode, hstate⟩)
      · exact hadmit hcode hstate
      · exact hresign hcode hstate
      · exact hanswer hcode hstate

theorem judgeGo_kind {v : Violation} (h : judgeGo x e w = some v) : v = .mailbox := by
  unfold judgeGo at h
  split at h
  · exact (Option.some.inj h).symm
  · split at h
    · cases h
    · cases h
    · cases h
    · exact (Option.some.inj h).symm

/-- The request words, and those beyond the verdict, belong to a CLAIMED slot's owner (R147). -/
theorem judgeWord_request {k : Nat} (hk : k ∈ [2, 3, 9, 10, 11, 12, 13, 14, 15]) :
    judgeWord x e k w =
      if x.owner = some e ∧ x.state = .claimed ∧ x.inFlight = none then none
      else some .mailbox := by
  have hwords : k ≠ 0 ∧ k ≠ 1 ∧ k ≠ 4 ∧ ¬ (k = 5 ∨ k = 6 ∨ k = 7 ∨ k = 8) := by
    simp only [List.mem_cons, List.not_mem_nil, or_false] at hk
    omega
  obtain ⟨hclaim, hgo, hanswer, hpart⟩ := hwords
  unfold judgeWord
  rw [if_neg hclaim, if_neg hgo, if_neg hanswer, if_neg (by simpa [or_assoc] using hpart)]
  simp [and_assoc]

theorem judgeWord_answer : judgeWord x e 4 w =
    if x.owner = some e ∧ x.state = .challenged ∧ x.inFlight = none then none
    else some .mailbox := by
  simp [judgeWord, and_assoc]

/-- No endpoint writes the part's own words (R147). -/
theorem judgeWord_part {k : Nat} (hk : k ∈ [5, 6, 7, 8]) : judgeWord x e k w = some .mailbox := by
  simp only [List.mem_cons, List.not_mem_nil, or_false] at hk
  rcases hk with rfl | rfl | rfl | rfl <;> rfl

theorem judgeWord_kind {k : Nat} {v : Violation} (hk : k ≠ 0) (h : judgeWord x e k w = some v) :
    v = .mailbox := by
  unfold judgeWord at h
  rw [if_neg hk] at h
  split at h
  · exact judgeGo_kind x e w h
  · split at h
    · split at h
      · cases h
      · exact (Option.some.inj h).symm
    · split at h
      · exact (Option.some.inj h).symm
      · split at h
        · cases h
        · exact (Option.some.inj h).symm

end

/-- Settles O21, word by word of the slot's area. -/
theorem mailboxWordsJudged : Obligations.MailboxWordsJudged := by
  intro x e w
  refine ⟨judgeRelease_none_iff x e w, judgeRelease_foreign_iff x e w, judgeGo_none_iff x e w,
    fun k hk => ?_, ?_, fun k hk => judgeWord_part x e w hk, fun k v hk => judgeWord_kind x e w hk,
    fun v => judgeRelease_kind x e w⟩
  · rw [judgeWord_request x e w hk]
    simp
  · rw [judgeWord_answer]
    simp

end Sys2Proof.SlotWords

namespace Sys2Proof.AdmissionOrders

-- Theorems that wait in parallel for the kernel each hold a thread's stack.
set_option Elab.async false

open Sys2Proof Sys2Proof.Machine Sys2Proof.Laws Sys2Proof.Restart Sys2Proof.CallOrders
open Sys2Proof.Ticks (next_settle)

/-! ## Codes and numbers of the admission orders (10.1, 10.4) -/

theorem roleOf_iff (code : Byte) (role : Role) : roleOf code = some role ↔
    (code, role) ∈ [(0#8, Role.unused), (1#8, .station), (2#8, .trunk), (3#8, .control)] := by
  simp only [List.mem_cons, List.not_mem_nil, or_false, Prod.mk.injEq]
  unfold roleOf
  split
  · subst code; simp [eq_comm]
  · split
    · subst code; simp [eq_comm]
    · split
      · subst code; simp [eq_comm]
      · split
        · subst code; simp [eq_comm]
        · simp [*]

theorem orderOf_trunk_iff (code : Byte) (be : Bool) : orderOf .trunk code = some be ↔
    (code, be) ∈ [(0#8, false), (1#8, true)] := by
  simp only [List.mem_cons, List.not_mem_nil, or_false, Prod.mk.injEq]
  unfold Machine.orderOf
  rw [if_pos rfl]
  split
  · subst code; simp [eq_comm]
  · split
    · subst code; simp [eq_comm]
    · simp [*]

/-- The byte order is read only for TRUNK (R178). -/
theorem orderOf_of_not_trunk {role : Role} (h : role ≠ .trunk) (code : Byte) :
    orderOf role code = some false := if_neg h

theorem enabledOf_flag {flag : Byte} (h : flag = 0#8 ∨ flag = 1#8) :
    enabledOf flag = some (decide (flag = 1#8)) := by
  rcases h with rfl | rfl <;> rfl

theorem epOf_above {n : Half} (h : 512 ≤ n.toNat) : epOf n = none := dif_neg (Nat.not_lt.2 h)

theorem entryOf_above {n : Nat} (h : 1024 ≤ n) : entryOf n = none := dif_neg (Nat.not_lt.2 h)

theorem entryOf_val {n : Nat} {d : EntryNo} (h : d.val = n) : entryOf n = some d := by
  subst h
  exact dif_pos d.isLt

/-! ## Going OUT (R141) -/

section

variable {s : State} {e : EpNo} {d : EntryNo} {q n : Half}

theorem deadmit_out (h : s.endpoints[e].admitted = none) (r : Reason) : s.deadmit e r = s := by
  unfold State.deadmit
  rw [h]

theorem deadmit_admitted (h : s.endpoints[e].admitted = some d) (r : Reason) :
    s.deadmit e r = (Pairs.outState s e d).raiseDeadmitted e r := by
  unfold State.deadmit
  rw [h]
  rfl

theorem claimInFlight_iff (s : State) (e : EpNo) : s.claimInFlight e = true ↔
    ∃ (m : MboxNo) (k : Mark), s.mailboxes[m].inFlight = some k ∧ k.kind = .claim ∧ k.ep = e := by
  rw [← Bool.not_eq_false, Judging.claimInFlight_false_iff]
  push Not
  rfl

/-! ## SET-ENDPOINT (R158) -/

/-- The return of a fetch with a well-formed SET-ENDPOINT carries the order out (R166, R178). -/
theorem exec_setEndpoint {i : Nat} (h : s.FetchAt i q) (t : Instant) {rc oc : Byte} {role : Role}
    {be : Bool} (hrole : roleOf rc = some role) (horder : orderOf role oc = some be) :
    exec (.setEndpoint t n rc oc) s =
      .next ((s.afterFetch t i).doSetEndpoint q n role be).settle := by
  show Host.Outcome.next ((s.atInstant t).returnOrder (.setEndpoint n rc oc)).settle = _
  simp only [returnOrder_of_fetchAt h, State.execute, hrole, horder]

variable {role : Role} {be : Bool}

theorem doSetEndpoint_above (h : 512 ≤ n.toNat) : s.doSetEndpoint q n role be =
    s.finish (orderCompletion q .badOrder (.endpoint n) []) := by
  unfold State.doSetEndpoint
  rw [epOf_above h]

/-- The refusals of SET-ENDPOINT in their order, and what passes them. -/
theorem doSetEndpoint_ep (he : n.toNat = e.val) : s.doSetEndpoint q n role be =
    if role = .control || s.endpoints[e].role = .control then
      s.finish (orderCompletion q .badOrder (.endpoint n) [])
    else if s.endpoints[e].call.isSome then s.finish (orderCompletion q .inCall (.endpoint n) [])
    else if s.endpoints[e].slot.isSome || s.claimInFlight e then
      s.finish (orderCompletion q .busy (.endpoint n) [])
    else (if role ≠ s.endpoints[e].role
        || (if role = .trunk then be else s.endpoints[e].bigEndian) ≠ s.endpoints[e].bigEndian then
          (s.setEp e { s.endpoints[e] with
            role := role
            bigEndian := if role = .trunk then be else s.endpoints[e].bigEndian }).deadmit e .role
        else s).finish (orderCompletion q .done (.endpoint n) []) := by
  unfold State.doSetEndpoint
  rw [epOf_of_toNat he]

theorem doSetEndpoint_control (he : n.toNat = e.val)
    (h : role = .control ∨ s.endpoints[e].role = .control) : s.doSetEndpoint q n role be =
      s.finish (orderCompletion q .badOrder (.endpoint n) []) :=
  (doSetEndpoint_ep he).trans (if_pos (by simpa using h))

theorem doSetEndpoint_inCall (he : n.toNat = e.val) (hrole : role ≠ .control)
    (hwas : s.endpoints[e].role ≠ .control) (hcall : s.endpoints[e].call ≠ none) :
    s.doSetEndpoint q n role be = s.finish (orderCompletion q .inCall (.endpoint n) []) := by
  rw [doSetEndpoint_ep he, if_neg (by simp [hrole, hwas, -Fin.getElem_fin]),
    if_pos (Option.isSome_iff_ne_none.2 hcall)]

theorem doSetEndpoint_busy (he : n.toNat = e.val) (hrole : role ≠ .control)
    (hwas : s.endpoints[e].role ≠ .control) (hcall : s.endpoints[e].call = none)
    (hbusy : s.endpoints[e].slot ≠ none ∨ s.claimInFlight e = true) :
    s.doSetEndpoint q n role be = s.finish (orderCompletion q .busy (.endpoint n) []) := by
  rw [doSetEndpoint_ep he, if_neg (by simp [hrole, hwas, -Fin.getElem_fin]),
    if_neg (by simp [hcall, -Fin.getElem_fin]),
    if_pos (by simpa [Option.isSome_iff_ne_none, -Fin.getElem_fin] using hbusy)]

theorem doSetEndpoint_passes (he : n.toNat = e.val) (hrole : role ≠ .control)
    (hwas : s.endpoints[e].role ≠ .control) (hcall : s.endpoints[e].call = none)
    (hslot : s.endpoints[e].slot = none) (hclaim : s.claimInFlight e = false) :
    s.doSetEndpoint q n role be = (if role ≠ s.endpoints[e].role
        || (if role = .trunk then be else s.endpoints[e].bigEndian) ≠ s.endpoints[e].bigEndian then
          (s.setEp e { s.endpoints[e] with
            role := role
            bigEndian := if role = .trunk then be else s.endpoints[e].bigEndian }).deadmit e .role
        else s).finish (orderCompletion q .done (.endpoint n) []) := by
  rw [doSetEndpoint_ep he, if_neg (by simp [hrole, hwas, -Fin.getElem_fin]),
    if_neg (by simp [hcall, -Fin.getElem_fin]),
    if_neg (by simp [hslot, hclaim, -Fin.getElem_fin])]

/-! ## SET-DIRECTORY (R159) -/

/-- The return of a fetch with a well-formed SET-DIRECTORY carries the order out (R166, R178). -/
theorem exec_setDirectory {i : Nat} (h : s.FetchAt i q) (t : Instant) {flag : Byte}
    (hflag : flag = 0#8 ∨ flag = 1#8) (number : Word) (key : Key) :
    exec (.setDirectory t n flag number key) s = .next
      ((s.afterFetch t i).doSetDirectory q n (decide (flag = 1#8)) number.toNat key).settle := by
  show Host.Outcome.next ((s.atInstant t).returnOrder (.setDirectory n flag number key)).settle = _
  simp only [returnOrder_of_fetchAt h, State.execute, enabledOf_flag hflag]

variable {on : Bool} {number : Nat} {key : Key}

theorem doSetDirectory_bad (h : 1024 ≤ n.toNat ∨ 99999999 < number) :
    s.doSetDirectory q n on number key = s.finish (orderCompletion q .badOrder (.entry n) []) := by
  unfold State.doSetDirectory
  split
  · rfl
  · rename_i d hd
    exact if_pos (h.resolve_left fun hn => by rw [entryOf_above hn] at hd; cases hd)

theorem doSetDirectory_inCall (hd : d.val = n.toNat) (hnumber : number ≤ 99999999)
    (he : s.directory[d].admittedEp = some e) (hcall : s.endpoints[e].call ≠ none) :
    s.doSetDirectory q n on number key = s.finish (orderCompletion q .inCall (.entry n) []) := by
  unfold State.doSetDirectory State.entryInCall
  simp only [entryOf_val hd, he]
  rw [if_neg (Nat.not_lt.2 hnumber), if_pos (Option.isSome_iff_ne_none.2 hcall)]

theorem doSetDirectory_vacant (hd : d.val = n.toNat) (hnumber : number ≤ 99999999)
    (he : s.directory[d].admittedEp = none) : s.doSetDirectory q n on number key =
      (s.setEntry d { s.directory[d] with
        enabled := on, number := number, secret := key }).finish
          (orderCompletion q .done (.entry n) []) := by
  unfold State.doSetDirectory State.entryInCall
  simp only [entryOf_val hd, he]
  rw [if_neg (Nat.not_lt.2 hnumber), if_neg Bool.false_ne_true]

theorem doSetDirectory_admitted (hd : d.val = n.toNat) (hnumber : number ≤ 99999999)
    (he : s.directory[d].admittedEp = some e) (hcall : s.endpoints[e].call = none) :
    s.doSetDirectory q n on number key = ((s.setEntry d { s.directory[d] with
      enabled := on, number := number, secret := key }).deadmit e .directory).finish
        (orderCompletion q .done (.entry n) []) := by
  unfold State.doSetDirectory State.entryInCall
  simp only [entryOf_val hd, he]
  rw [if_neg (Nat.not_lt.2 hnumber), if_neg (by simp [hcall, -Fin.getElem_fin])]

/-! ## UNLOCK (R161) -/

theorem exec_unlock {i : Nat} (h : s.FetchAt i q) (t : Instant) :
    exec (.unlock t n) s = .next ((s.afterFetch t i).doUnlock q n).settle :=
  next_settle (returnOrder_of_fetchAt h t _)

theorem doUnlock_above (h : 1024 ≤ n.toNat) :
    s.doUnlock q n = s.finish (orderCompletion q .badOrder (.entry n) []) := by
  unfold State.doUnlock
  rw [entryOf_above h]

theorem doUnlock_entry (hd : d.val = n.toNat) : s.doUnlock q n =
    (s.setEntry d { s.directory[d] with lock := none, fails := 0 }).finish
      (orderCompletion q .done (.entry n) []) := by
  unfold State.doUnlock
  rw [entryOf_val hd]

end

/-- Settles O43: the codes, the endpoint that goes OUT, and each order by its checks in turn. -/
theorem admissionOrders : Obligations.AdmissionOrders := by
  refine ⟨⟨by decide, roleOf_iff, orderOf_trunk_iff, fun code role h => ?_⟩,
    fun s e r => ⟨fun h => deadmit_out h r, fun d h => deadmit_admitted h r⟩,
    fun s t i q n rc oc role be hfetch hrole horder => ?_,
    fun s t i q n flag number key hfetch hflag => ?_, fun s t i q n hfetch => ?_⟩
  · rw [orderOf_of_not_trunk h]; rfl
  · intro w done
    have hexec : ∀ v : State, w.doSetEndpoint q n role be = v →
        exec (.setEndpoint t n rc oc) s = .next v.settle := fun v hv =>
      (exec_setEndpoint hfetch t hrole horder).trans (next_settle hv)
    refine ⟨fun h => hexec _ (doSetEndpoint_above h), fun e he => ?_⟩
    replace he := he.symm
    refine ⟨fun h => hexec _ (doSetEndpoint_control (s := w) he h),
      fun hnew hold => ⟨fun hcall => hexec _ (doSetEndpoint_inCall (s := w) he hnew hold hcall),
        fun hcall => ⟨fun hbusy => hexec _ (doSetEndpoint_busy (s := w) he hnew hold hcall
          (hbusy.imp_right (claimInFlight_iff s e).2)), fun hslot hclaim => ?_⟩⟩⟩
    have hpasses := doSetEndpoint_passes (s := w) (q := q) (be := be) he hnew hold hcall hslot
      ((Judging.claimInFlight_false_iff s e).2 hclaim)
    refine ⟨fun ⟨hsame, horder⟩ => hexec _ (hpasses.trans ?_), fun h => hexec _ (hpasses.trans ?_)⟩
    · rw [if_neg]
      simp only [Bool.or_eq_true, decide_eq_true_eq, not_or, not_not]
      exact ⟨hsame, horder⟩
    · rw [if_pos]
      · rfl
      · simp only [Bool.or_eq_true, decide_eq_true_eq]
        exact h
  · intro w done
    have hexec : ∀ v : State, w.doSetDirectory q n (decide (flag = 1#8)) number.toNat key = v →
        exec (.setDirectory t n flag number key) s = .next v.settle := fun v hv =>
      (exec_setDirectory hfetch t hflag number key).trans (next_settle hv)
    exact ⟨fun h => hexec _ (doSetDirectory_bad h), fun d hd hnumber =>
      ⟨fun he => hexec _ (doSetDirectory_vacant (s := w) hd hnumber he), fun e he =>
        ⟨fun hcall => hexec _ (doSetDirectory_inCall (s := w) hd hnumber he hcall),
          fun hcall => hexec _ (doSetDirectory_admitted (s := w) hd hnumber he hcall)⟩⟩⟩
  · exact ⟨fun h => (exec_unlock hfetch t).trans (next_settle (doUnlock_above h)),
      fun d hd => (exec_unlock hfetch t).trans (next_settle (doUnlock_entry hd))⟩

end Sys2Proof.AdmissionOrders

namespace Sys2Proof.Revoking

-- Theorems that wait in parallel for the kernel each hold a thread's stack.
set_option Elab.async false

open Sys2Proof Sys2Proof.Machine Sys2Proof.Laws Sys2Proof.Restart Sys2Proof.CallOrders
open Sys2Proof.AdmissionOrders (epOf_above)
open Sys2Proof.Ticks (next_settle)

/-! ## REVOKE, and the call it may empty (R107 to R110, R160) -/

section

variable {s : State} {c : CallNo} {e : EpNo} {q n : Half}

theorem closeIfEmptied_empty (hopen : s.calls[c].state = .opened)
    (hempty : s.calls[c].members = []) :
    s.closeIfEmptied c = (s.goClosing c).raise .callEmptied (callSubject c) [] :=
  if_pos (by rw [hopen, hempty]; rfl)

theorem closeIfEmptied_other (h : s.calls[c].state ≠ .opened ∨ s.calls[c].members ≠ []) :
    s.closeIfEmptied c = s := by
  refine if_neg fun hempty => ?_
  obtain ⟨hopen, hmembers⟩ := Bool.and_eq_true_iff.1 hempty
  rcases h with hclosed | hmember
  · exact hclosed (of_decide_eq_true hopen)
  · exact hmember (List.isEmpty_iff.1 hmembers)

/-- A member leaves: it is struck from the list, its call field is cleared and its ring drains (R43,
R107). -/
theorem leave_drains (s : State) (c : CallNo) (e : EpNo) (r : RingNo) : s.leave c e r = { s with
    calls := s.calls.set c { s.calls[c] with
      members := s.calls[c].members.filter fun z => z.ep ≠ e }
    endpoints := s.endpoints.set e { s.endpoints[e] with call := none }
    rings := s.rings.set r (drainedRing c s.rings[r]) } := by
  unfold State.leave
  dsimp only
  rw [drainRing_eq]
  rfl

/-- With distinct members, a revoked member leaves with its own ring (R108). -/
theorem removeMember_member (hnodup : (s.calls[c].members.map Member.ep).Nodup) {y : Member}
    (hy : y ∈ s.calls[c].members) :
    s.removeMember c y.ep = (s.leave c y.ep y.ring).closeIfEmptied c := by
  unfold State.removeMember
  rw [ringOf_member hnodup hy]

theorem exec_revoke {i : Nat} (h : s.FetchAt i q) (t : Instant) :
    exec (.revoke t n) s = .next ((s.afterFetch t i).doRevoke q n).settle :=
  next_settle (returnOrder_of_fetchAt h t _)

theorem doRevoke_above (h : 512 ≤ n.toNat) :
    s.doRevoke q n = s.finish (orderCompletion q .badOrder (.endpoint n) []) := by
  unfold State.doRevoke
  rw [epOf_above h]

/-- Going OUT leaves an endpoint its call (R141). -/
theorem deadmit_call (s : State) (e : EpNo) (r : Reason) :
    (s.deadmit e r).endpoints[e].call = s.endpoints[e].call :=
  (Pairs.deadmit_spec s e r).2.2.2 e

theorem doRevoke_noCall (he : e.val = n.toNat) (hcall : s.endpoints[e].call = none) :
    s.doRevoke q n = (s.deadmit e .revoked).finish (orderCompletion q .done (.endpoint n) []) := by
  rw [← deadmit_call s e .revoked] at hcall
  unfold State.doRevoke
  simp only [epOf_of_toNat he.symm, hcall]

theorem doRevoke_member (he : e.val = n.toNat) (hcall : s.endpoints[e].call = some c) :
    s.doRevoke q n = ((s.deadmit e .revoked).removeMember c e).finish
      (orderCompletion q .done (.endpoint n) []) := by
  rw [← deadmit_call s e .revoked] at hcall
  unfold State.doRevoke
  simp only [epOf_of_toNat he.symm, hcall]

end

/-- Settles O44: a close by the call's state and members, and REVOKE by the endpoint's call. -/
theorem revokeOrders : Obligations.RevokeOrders := by
  refine ⟨fun s c => ⟨closeIfEmptied_empty, closeIfEmptied_other⟩, fun s t i q n hfetch => ?_⟩
  intro w done
  have hexec : ∀ v : State, w.doRevoke q n = v → exec (.revoke t n) s = .next v.settle :=
    fun v hv => (exec_revoke hfetch t).trans (next_settle hv)
  refine ⟨fun h => hexec _ (doRevoke_above h), fun e he =>
    ⟨fun hcall => hexec _ (doRevoke_noCall (s := w) he hcall), fun c y hcall hnodup hy hep => ?_⟩⟩
  subst hep
  have honly : w.deadmit y.ep .revoked = _ := deadmit_only w y.ep .revoked
  have hcalls : (w.deadmit y.ep .revoked).calls = s.calls := (congrArg State.calls honly :)
  have hrings : (w.deadmit y.ep .revoked).rings = s.rings := (congrArg State.rings honly :)
  have hout : (w.deadmit y.ep .revoked).endpoints[y.ep].admitted = none := by
    rw [Pairs.deadmit_admitted, if_pos rfl]
  have hrevoked := hexec _ (doRevoke_member (s := w) he hcall)
  generalize w.deadmit y.ep .revoked = o at hcalls hrings hout hrevoked ⊢
  refine ⟨o.leave c y.ep y.ring, o, rfl, ?_, ?_, hout⟩
  · rwa [removeMember_member (by rwa [hcalls]) (by rwa [hcalls])] at hrevoked
  · rw [leave_drains, hcalls, hrings]
    rfl

end Sys2Proof.Revoking

namespace Sys2Proof.SlotEvents

-- Theorems that wait in parallel for the kernel each hold a thread's stack.
set_option Elab.async false

open Sys2Proof Sys2Proof.Machine Sys2Proof.Laws Sys2Proof.Pairs Sys2Proof.Restart
open Sys2Proof.Scanning (failed expiredState)
open Sys2Proof.Ticks (next_settle)

/-! ## The event of a mailbox write in flight (R148 to R150) -/

/-- A slot is still as the write in flight was judged, for the same owner, and RESTART has not
voided the write. -/
abbrev Stands (x : Mbox) (k : Mark) : Prop :=
  x.state = k.judged ∧ k.voided = false ∧ x.owner = some k.ep

/-- What a write of the mark's kind does to its slot. -/
def effect (s : State) (m : MboxNo) (k : Mark) : State :=
  match k.kind with
  | .claim => s.claimEvent m k
  | .release => s.releaseEvent m
  | .goAdmit => s.goRequestEvent m .admit_
  | .goResign => s.goRequestEvent m .resign
  | .goAnswer => s.goAnswerEvent m

section

variable {s : State} {m : MboxNo} {k : Mark}

theorem effect_claim (h : k.kind = .claim) : effect s m k = s.claimEvent m k := by
  unfold effect
  rw [h]

theorem effect_release (h : k.kind = .release) : effect s m k = s.releaseEvent m := by
  unfold effect
  rw [h]

theorem effect_goAdmit (h : k.kind = .goAdmit) : effect s m k = s.goRequestEvent m .admit_ := by
  unfold effect
  rw [h]

theorem effect_goResign (h : k.kind = .goResign) : effect s m k = s.goRequestEvent m .resign := by
  unfold effect
  rw [h]

theorem effect_goAnswer (h : k.kind = .goAnswer) : effect s m k = s.goAnswerEvent m := by
  unfold effect
  rw [h]

theorem clearMark_mailbox (s : State) (m : MboxNo) :
    (s.clearMark m).mailboxes[m] = { s.mailboxes[m] with inFlight := none } :=
  setMbox_get_self s m _

theorem stands_iff : (decide ((s.clearMark m).mailboxes[m].state = k.judged) && !k.voided
    && decide ((s.clearMark m).mailboxes[m].owner = some k.ep)) = true ↔
      Stands s.mailboxes[m] k := by
  rw [clearMark_state, clearMark_owner]
  simp [Stands, and_assoc]

/-- A claim, and any other write whose slot stands as it was judged, takes its effect. -/
theorem mailboxEvent_effect (hk : s.mailboxes[m].inFlight = some k)
    (h : k.kind = .claim ∨ Stands s.mailboxes[m] k) :
    s.mailboxEvent m = effect (s.clearMark m) m k := by
  unfold State.mailboxEvent effect
  rw [hk]
  dsimp only
  cases hkind : k.kind with
  | claim => rfl
  | _ => exact if_pos (stands_iff.2 (h.resolve_left (by rw [hkind]; nofun)))

/-- A write other than a claim whose slot does not stand as it was judged only leaves the slot. -/
theorem mailboxEvent_only (hk : s.mailboxes[m].inFlight = some k) (hkind : k.kind ≠ .claim)
    (h : ¬ Stands s.mailboxes[m] k) : s.mailboxEvent m = s.clearMark m := by
  unfold State.mailboxEvent
  rw [hk]
  dsimp only
  cases hkind' : k.kind with
  | claim => exact absurd hkind' hkind
  | _ => exact if_neg (h ∘ stands_iff.1)

/-! ### Claims and releases (R148, R149) -/

theorem mirrorWrite_of_mailbox {x : Mbox} (h : s.mailboxes[m] = x) :
    s.mirrorWrite m = selfWrite (s.mboxWord m 5) [mirrorWord x.state x.aged] (.mirror m) := by
  unfold State.mirrorWrite
  rw [h]

theorem mirrorWord_claimed : mirrorWord .claimed false = 1#32 := by decide

theorem claimEvent_takes (hfree : s.mailboxes[m].state = .free) (hvoid : k.voided = false) :
    (s.clearMark m).claimEvent m k = (claimedState s m k).place .admission false
      [selfWrite (s.mboxWord m 5) [1#32] (.mirror m)] := by
  have hmirror : (claimedState s m k).mirrorWrite m =
      selfWrite (s.mboxWord m 5) [1#32] (.mirror m) := by
    rw [mirrorWrite_of_mailbox (claimedState_mailbox s m k), ← mirrorWord_claimed]
    rfl
  unfold State.claimEvent
  rw [if_pos (by rw [clearMark_state, hfree, hvoid]; rfl)]
  exact congrArg (fun e => (claimedState s m k).place .admission false [e]) hmirror

theorem claimEvent_void (h : s.mailboxes[m].state ≠ .free ∨ k.voided = true) :
    (s.clearMark m).claimEvent m k = s.clearMark m := by
  unfold State.claimEvent
  rw [clearMark_state, if_neg]
  intro htakes
  obtain ⟨hfree, hvoid⟩ := Bool.and_eq_true_iff.1 htakes
  rcases h with hbusy | hvoided
  · exact hbusy (of_decide_eq_true hfree)
  · rw [hvoided] at hvoid
    cases hvoid

theorem claimedState_eq (s : State) (m : MboxNo) (k : Mark) : claimedState s m k = { s with
    mailboxes := s.mailboxes.set m { Mbox.free with
      state := .claimed, owner := some k.ep,
      deadline := some (s.timer.counter + wordN s.thePlan.challengeLimit),
      selfRead := s.mailboxes[m].selfRead }
    endpoints := s.endpoints.set k.ep { s.endpoints[k.ep] with slot := some m } } := by
  unfold claimedState
  rw [clearMark_mailbox, State.clearMark, setMbox_setMbox]
  rfl

/-- A release frees the slot as an expiry does, but writes the mirror alone (R146, R149). -/
theorem releaseEvent_eq (s : State) (m : MboxNo) : s.releaseEvent m =
    (expiredState s m).place .admission false [selfWrite (s.mboxWord m 5) [0#32] (.mirror m)] := by
  exact congrArg (fun e => (expiredState s m).place .admission false [e])
    (Scanning.expiredState_mirrorWrite s m)

/-- A slot released by its owner is FREE, and the owner's slot field is cleared (R145). -/
theorem released_eq (howner : s.mailboxes[m].owner = some k.ep) :
    expiredState (s.clearMark m) m = { s with
      mailboxes := s.mailboxes.set m { Mbox.free with selfRead := s.mailboxes[m].selfRead }
      endpoints := s.endpoints.set k.ep { s.endpoints[k.ep] with slot := none }
      directory := (expiredState (s.clearMark m) m).directory } := by
  have hendpoints := Scanning.expiredState_endpoints (s.clearMark m) m
  rw [clearMark_owner, howner] at hendpoints
  have honly := Scanning.expiredState_only (s.clearMark m) m
  have hboxes : (s.clearMark m).mailboxes.set m (s.clearMark m).mailboxes[m].freed =
      s.mailboxes.set m { Mbox.free with selfRead := s.mailboxes[m].selfRead } := by
    rw [clearMark_mailbox]
    exact congrArg State.mailboxes (setMbox_setMbox s m _ _)
  rw [hendpoints, hboxes] at honly
  rw [honly]
  rfl

theorem released_directory (s : State) (m : MboxNo) :
    (expiredState (s.clearMark m) m).directory = (failed (s.clearMark m) m).directory :=
  (congrArg State.directory (Scanning.expiredState_only (s.clearMark m) m) :)

theorem released_unfailed (h : s.mailboxes[m].state ≠ .challenged ∨ s.mailboxes[m].entry = none) :
    (expiredState (s.clearMark m) m).directory = s.directory := by
  rw [released_directory, Scanning.failed_none (by rw [clearMark_mailbox]; exact h)]
  rfl

theorem released_failed {d : EntryNo} (hstate : s.mailboxes[m].state = .challenged)
    (hd : s.mailboxes[m].entry = some d) : (expiredState (s.clearMark m) m).directory =
      s.directory.set d (s.directory[d].fail s.timer.counter s.thePlan.lockout) := by
  rw [released_directory, Scanning.failed_entry (d := d) (by rw [clearMark_mailbox]; exact hstate)
    (by rw [clearMark_mailbox]; exact hd)]
  rfl

/-! ### Go codes (R150) -/

theorem goRequestEvent_eq (s : State) (m : MboxNo) (g : GoCode) :
    (s.clearMark m).goRequestEvent m g = (s.setMbox m { s.mailboxes[m] with
      state := .requested, goCode := some g, deadline := none, inFlight := none,
      selfRead := true }).place .admission false
        [selfWrite (s.mboxWord m 5) [mirrorWord .requested s.mailboxes[m].aged] (.mirror m),
          selfRead (s.mboxWord m 2) 2 (.requestRead m)] := by
  unfold State.goRequestEvent
  dsimp only
  rw [clearMark_mailbox, State.clearMark, setMbox_setMbox,
    mirrorWrite_of_mailbox (setMbox_get_self s m _)]
  rfl

theorem goAnswerEvent_eq (s : State) (m : MboxNo) :
    (s.clearMark m).goAnswerEvent m = ((s.setMbox m { s.mailboxes[m] with
      state := .answered, deadline := none, inFlight := none, selfRead := true }).place
        .admission false
        [selfWrite (s.mboxWord m 5) [mirrorWord .answered s.mailboxes[m].aged] (.mirror m),
          selfRead (s.mboxWord m 4) 1 (.answerRead m)]).askCheck m := by
  unfold State.goAnswerEvent
  dsimp only
  rw [clearMark_mailbox, State.clearMark, setMbox_setMbox,
    mirrorWrite_of_mailbox (setMbox_get_self s m _)]
  rfl

/-- Memory answers a mailbox write OK under the command of its kind: its event follows (R13). -/
theorem answerMark_of_writeAt {i : Nat} {r : DsRequest} {a : Accepted} {g : MarkKind}
    (h : s.WriteAt i r a (.mailbox m)) (hk : s.mailboxes[m].inFlight = some k)
    (hkind : k.kind = g) (t : Instant) :
    (s.atInstant t).answerMark i g = (s.afterWrite t i a).mailboxEvent m := by
  have hmark : (s.atInstant t).awaitedMark i = some g := by
    unfold State.awaitedMark
    rw [Answers.awaitedWatch_of_writeAt h t]
    exact congrArg (Option.map Mark.kind) hk |>.trans (congrArg some hkind)
  unfold State.answerMark
  rw [if_pos hmark, Answers.answerOk_of_writeAt h t]
  rfl

end

/-- Settles O29: the event by its kind and by whether the slot stands as it was judged. -/
theorem mailboxEvents : Obligations.MailboxEvents := by
  intro s t i r a m k x h hx hk w area stands only
  subst hx
  have hw : w.mailboxes[m].inFlight = some k := hk
  have hevent : ∀ g, k.kind = g → ∀ v, w.mailboxEvent m = v →
      (Host.Outcome.next ((s.atInstant t).answerMark i g).settle
        : Host.Outcome State Fault Refusal) = .next v.settle := fun g hg v hv =>
    next_settle ((answerMark_of_writeAt h hk hg t).trans hv)
  have hvoid : ∀ g, k.kind = g → g ≠ .claim → ¬ stands →
      (Host.Outcome.next ((s.atInstant t).answerMark i g).settle
        : Host.Outcome State Fault Refusal) = only := fun g hg hne hnot =>
    hevent g hg _ (mailboxEvent_only hw (hg ▸ hne) hnot)
  have heffect : ∀ g, k.kind = g → g = .claim ∨ stands → ∀ v, effect (w.clearMark m) m k = v →
      (Host.Outcome.next ((s.atInstant t).answerMark i g).settle
        : Host.Outcome State Fault Refusal) = .next v.settle := fun g hg hst v hv =>
    hevent g hg v ((mailboxEvent_effect hw (hst.imp_left hg.trans)).trans hv)
  refine ⟨fun hg hfree hstanding => heffect _ hg (.inl rfl) _ ?_,
    fun hg hnot => heffect _ hg (.inl rfl) _ ?_, fun hg hst => ?_, fun hg => hvoid _ hg nofun,
    fun hg hst => heffect _ hg (.inr hst) _ ?_, fun hg => hvoid _ hg nofun,
    fun hg hst => heffect _ hg (.inr hst) _ ?_, fun hg => hvoid _ hg nofun,
    fun hg hst => heffect _ hg (.inr hst) _ ?_, fun hg => hvoid _ hg nofun⟩
  · rw [effect_claim hg, claimEvent_takes (s := w) hfree hstanding, claimedState_eq]
    rfl
  · rw [effect_claim hg]
    exact claimEvent_void (s := w) hnot
  · have ⟨_, _, howner⟩ := hst
    refine ⟨expiredState (w.clearMark m) m, heffect _ hg (.inr hst) _ ?_, ?_, ?_, ?_⟩
    · rw [effect_release hg, releaseEvent_eq]
      rfl
    · exact (released_eq (s := w) howner).trans rfl
    · exact fun h => released_unfailed (s := w) h
    · exact fun d hstate hd => released_failed (s := w) hstate hd
  · rw [effect_goAdmit hg]
    exact goRequestEvent_eq w m .admit_
  · rw [effect_goResign hg]
    exact goRequestEvent_eq w m .resign
  · rw [effect_goAnswer hg]
    exact goAnswerEvent_eq w m

end Sys2Proof.SlotEvents

namespace Sys2Proof.SelfReads

-- Theorems that wait in parallel for the kernel each hold a thread's stack.
set_option Elab.async false

open Sys2Proof Sys2Proof.Machine Sys2Proof.Laws Sys2Proof.Answers
open Sys2Proof.Comparison (unlocked)
open Sys2Proof.SlotEvents (mirrorWrite_of_mailbox)
open Sys2Proof.Ticks (next_settle)

/-! ## The returns of a slot's self-reads (R151 to R154, R157) -/

section

variable {s : State} {m : MboxNo} {e : EpNo} {d : EntryNo}

theorem mirrorWord_decided : mirrorWord .decided false = 5#32 := by decide

/-- A slot decided: its verdict words in one write, then its mirror (R146). -/
theorem decideSlot_eq (s : State) (m : MboxNo) (v : Verdict) : s.decideSlot m v =
    (s.setMbox m { s.mailboxes[m] with
      state := .decided, verdict := some v, aged := false,
      deadline := some (s.timer.counter + wordN s.thePlan.challengeLimit) }).place .admission false
        [selfWrite (s.mboxWord m 7) [v.code.code, v.detail] (.verdict m),
          selfWrite (s.mboxWord m 5) [5#32] (.mirror m)] := by
  unfold State.decideSlot
  dsimp only
  rw [mirrorWrite_of_mailbox (setMbox_get_self s m _), ← mirrorWord_decided]
  rfl

/-! ### The request words (R151, R152) -/

/-- The state in which a slot's self-read has returned (R157). -/
def readBack (s : State) (m : MboxNo) : State :=
  s.setMbox m { s.mailboxes[m] with selfRead := false }

theorem readBack_mailbox (s : State) (m : MboxNo) :
    (readBack s m).mailboxes[m] = { s.mailboxes[m] with selfRead := false } :=
  setMbox_get_self s m _

theorem requestReturn_left (h : s.mailboxes[m].state ≠ .requested) (a : Answer) :
    s.requestReturn m a = readBack s m := by
  unfold State.requestReturn
  dsimp only
  rw [setMbox_get_self, if_pos h]
  rfl

theorem requestReturn_fault (h : s.mailboxes[m].state = .requested) :
    s.requestReturn m .fault = (readBack s m).decideSlot m (verdict0 .fault) := by
  unfold State.requestReturn
  dsimp only
  rw [setMbox_get_self, if_neg (not_not.2 h)]
  rfl

theorem requestReturn_resign (h : s.mailboxes[m].state = .requested)
    (howner : s.mailboxes[m].owner = some e) (hgo : s.mailboxes[m].goCode = some .resign)
    (ws : List Word) : s.requestReturn m (.ok ws) = (readBack s m).decideResign m e := by
  unfold State.requestReturn
  dsimp only
  rw [← readBack, if_neg (by rw [readBack_mailbox]; exact not_not.2 h),
    show (readBack s m).mailboxes[m].owner = some e by rw [readBack_mailbox, howner],
    show (readBack s m).mailboxes[m].goCode = some _ by rw [readBack_mailbox, hgo]]

theorem requestReturn_admit (h : s.mailboxes[m].state = .requested)
    (howner : s.mailboxes[m].owner = some e) (hgo : s.mailboxes[m].goCode = some .admit_)
    (ws : List Word) : s.requestReturn m (.ok ws) =
      (readBack s m).decideAdmit m e (requestWords ws) := by
  unfold State.requestReturn
  dsimp only
  rw [← readBack, if_neg (by rw [readBack_mailbox]; exact not_not.2 h),
    show (readBack s m).mailboxes[m].owner = some e by rw [readBack_mailbox, howner],
    show (readBack s m).mailboxes[m].goCode = some _ by rw [readBack_mailbox, hgo]]

theorem decideResign_inCall {c : CallNo} (h : s.endpoints[e].call = some c) :
    s.decideResign m e = s.decideSlot m { code := .inCall, detail := wordN c.val } := by
  unfold State.decideResign
  rw [h]

theorem decideResign_out (h : s.endpoints[e].call = none) :
    s.decideResign m e = (s.deadmit e .resigned).decideSlot m (verdict0 .resigned) := by
  unfold State.decideResign
  rw [h]

variable {r : RequestWords}

theorem decideAdmit_above (h : 1024 ≤ r.index) :
    s.decideAdmit m e r = s.decideSlot m (verdict0 .noEntry) := by
  unfold State.decideAdmit
  rw [AdmissionOrders.entryOf_above h]

theorem decideAdmit_noEntry (hd : d.val = r.index)
    (h : s.directory[d].enabled = false ∨ s.directory[d].number ≠ r.number) :
    s.decideAdmit m e r = s.decideSlot m (verdict0 .noEntry) := by
  unfold State.decideAdmit
  rw [AdmissionOrders.entryOf_val hd]
  exact if_pos (by simpa using h)

theorem decideAdmit_locked (hd : d.val = r.index) (hon : s.directory[d].enabled = true)
    (hnumber : s.directory[d].number = r.number) {u : Word} (hlock : s.directory[d].lock = some u)
    (hle : 2147483648 ≤ (s.timer.counter - u).toNat) : s.decideAdmit m e r =
      s.decideSlot m { code := .locked, detail := u - s.timer.counter } := by
  have hticks : s.directory[d].ticksLeft s.timer.counter = u - s.timer.counter := by
    unfold DirEntry.ticksLeft
    rw [hlock]
  unfold State.decideAdmit
  rw [AdmissionOrders.entryOf_val hd, ← hticks]
  dsimp only
  rw [if_neg (by rw [hon, hnumber]; simp), if_pos (Checks.lockInForce_iff.2 ⟨u, hlock, hle⟩)]

/-- Without a lock in force the owner's own admission decides (R151, R152). -/
theorem decideAdmit_unlocked (hd : d.val = r.index) (hon : s.directory[d].enabled = true)
    (hnumber : s.directory[d].number = r.number)
    (hlock : s.directory[d].lockInForce s.timer.counter = false) : s.decideAdmit m e r =
      s.endpoints[e].admitted.elim ((unlocked s d).challengeSlot m d r) fun d' =>
        (unlocked s d).decideSlot m { code := .already, detail := wordN d'.val } := by
  unfold State.decideAdmit
  rw [AdmissionOrders.entryOf_val hd]
  dsimp only
  rw [if_neg (by rw [hon, hnumber]; simp), hlock, if_neg Bool.false_ne_true,
    Comparison.dropEnded_eq hlock]
  show _ = Option.elim (unlocked s d).endpoints[e].admitted _ _
  cases (unlocked s d).endpoints[e].admitted <;> rfl

theorem decideAdmit_already (hd : d.val = r.index) (hon : s.directory[d].enabled = true)
    (hnumber : s.directory[d].number = r.number)
    (hlock : s.directory[d].lockInForce s.timer.counter = false) {d' : EntryNo}
    (hin : s.endpoints[e].admitted = some d') : s.decideAdmit m e r =
      (unlocked s d).decideSlot m { code := .already, detail := wordN d'.val } := by
  rw [decideAdmit_unlocked hd hon hnumber hlock, hin, Option.elim_some]

theorem decideAdmit_challenged (hd : d.val = r.index) (hon : s.directory[d].enabled = true)
    (hnumber : s.directory[d].number = r.number)
    (hlock : s.directory[d].lockInForce s.timer.counter = false)
    (hout : s.endpoints[e].admitted = none) : s.decideAdmit m e r =
      (unlocked s d).challengeSlot m d r := by
  rw [decideAdmit_unlocked hd hon hnumber hlock, hout, Option.elim_none]

theorem challengeSlot_eq (s : State) (m : MboxNo) (d : EntryNo) (r : RequestWords) :
    s.challengeSlot m d r = State.place { s with
      challengeCtr := s.challengeCtr + 1#16
      mailboxes := s.mailboxes.set m { s.mailboxes[m] with
        state := .challenged, entry := some d, number := some r.number,
        bigEndian := some r.bigEndian, challenge := some s.challengeCtr,
        deadline := some (s.timer.counter + wordN s.thePlan.challengeLimit) } }
      .admission false
      [selfWrite (s.mboxWord m 6) [wordOfHalves s.challengeCtr 0#16] (.challenge m),
        selfWrite (s.mboxWord m 5) [mirrorWord .challenged s.mailboxes[m].aged] (.mirror m)] := by
  unfold State.challengeSlot
  dsimp only
  rw [mirrorWrite_of_mailbox (setMbox_get_self _ m _)]
  rfl

/-! ### The answer words (R154) -/

theorem slotListed_iff (s : State) (m : MboxNo) : s.slotListed m = true ↔
    (∃ q ∈ s.waiting, m ∈ q.slots)
      ∨ ∃ (l : LaneNo) (x : Expansion), s.lanes[l].expansion = some x ∧ m ∈ x.slots := by
  unfold State.slotListed
  rw [Bool.or_eq_true, List.any_eq_true, List.any_eq_true]
  refine or_congr (by simp) (exists_congr fun l => ?_)
  cases s.lanes[l].expansion <;> simp [List.mem_finRange]

/-- A request that still lists a slot, or asks for a call, waits on. -/
theorem mem_withdrawSlot (s : State) (m : MboxNo) (q : ActRequest) :
    q ∈ (s.withdrawSlot m).waiting ↔
      (∃ q' ∈ s.waiting, q = { q' with slots := q'.slots.filter (· ≠ m) })
        ∧ ((∃ c, q.subject = .call c) ∨ q.slots ≠ []) := by
  unfold State.withdrawSlot
  rw [setWaiting_waiting, List.mem_filter, List.mem_map]
  refine and_congr (exists_congr fun q' => and_congr_right fun _ => eq_comm) ?_
  cases q.subject <;> simp

theorem dropFromExpansions_lane (s : State) (m : MboxNo) (l : LaneNo) :
    (s.dropFromExpansions m).lanes[l] = s.lanes[l].withoutSlot m := mapTab_get _ _ l

theorem answerReturn_left (h : s.mailboxes[m].state ≠ .answered) (a : Answer) :
    s.answerReturn m a = readBack s m := by
  unfold State.answerReturn
  dsimp only
  rw [setMbox_get_self, if_pos h]
  rfl

theorem answerReturn_fault (h : s.mailboxes[m].state = .answered) : s.answerReturn m .fault =
    (((readBack s m).withdrawSlot m).dropFromExpansions m).decideSlot m (verdict0 .fault) := by
  unfold State.answerReturn
  dsimp only
  rw [setMbox_get_self, if_neg (not_not.2 h)]
  rfl

/-- The answer words are stored, and a check is asked for where the slot is in no list (R154). -/
theorem answerReturn_ok (h : s.mailboxes[m].state = .answered) (ws : List Word) :
    s.answerReturn m (.ok ws) =
      if s.slotListed m then (readBack s m).setMbox m { s.mailboxes[m] with
        selfRead := false, answer := some (loHalf (wordAt ws 0), hiHalf (wordAt ws 0)) }
      else ((readBack s m).setMbox m { s.mailboxes[m] with
        selfRead := false, answer := some (loHalf (wordAt ws 0), hiHalf (wordAt ws 0)) }).askCheck
          m := by
  unfold State.answerReturn
  dsimp only
  rw [setMbox_get_self, if_neg (not_not.2 h)]
  rfl

/-! ### The commands -/

theorem exec_requestReturn {i : Nat} {q : DsRequest} (h : s.SelfAt i q (.requestRead m))
    (t : Instant) {a : Answer} (hfits : q.fits a = true) : exec (.requestSelfReadReturn t m a) s =
      .next ((s.afterAnswer t i).requestReturn m a).settle :=
  next_settle (answerSelf_of_selfAt h t hfits)

theorem exec_answerReturn {i : Nat} {q : DsRequest} (h : s.SelfAt i q (.answerRead m))
    (t : Instant) {a : Answer} (hfits : q.fits a = true) : exec (.answerSelfReadReturn t m a) s =
      .next ((s.afterAnswer t i).answerReturn m a).settle :=
  next_settle (answerSelf_of_selfAt h t hfits)

end

/-- Settles O30: the slot decided, then each self-read's return by the slot's state, the answer and
the checks. -/
theorem slotSelfReadsReturn : Obligations.SlotSelfReadsReturn := by
  refine ⟨by decide, decideSlot_eq, fun s t i q m x hself hkind hlen hx => ?_, fun s m =>
    ⟨slotListed_iff s m, _, rfl, mem_withdrawSlot s m, dropFromExpansions_lane (s.withdrawSlot m) m,
      rfl⟩, fun s t i q m x hself hkind hlen hx => ?_⟩
  · intro w
    subst hx
    have hexec : ∀ a, q.fits a = true → ∀ v, (s.afterAnswer t i).requestReturn m a = v →
        exec (.requestSelfReadReturn t m a) s = .next v.settle := fun a ha v hv =>
      (exec_requestReturn hself t ha).trans (next_settle hv)
    have hok : ∀ ws : List Word, ws.length = 2 → q.fits (.ok ws) = true := fun ws hws =>
      fits_ok_of_read hkind (hws.trans hlen.symm)
    refine ⟨fun ws hws hleft => hexec _ (hok ws hws) _
        (requestReturn_left (s := s.afterAnswer t i) hleft _),
      fun hleft => hexec _ rfl _ (requestReturn_left (s := s.afterAnswer t i) hleft _),
      fun hreq => hexec _ rfl _ (requestReturn_fault (s := s.afterAnswer t i) hreq),
      fun ws e hws hreq howner hgo => ?_, fun w0 w1 e hreq howner hgo => ?_⟩
    · have hresign := hexec _ (hok ws hws) _
        (requestReturn_resign (s := s.afterAnswer t i) hreq howner hgo ws)
      exact ⟨fun c hcall => hresign.trans (next_settle (decideResign_inCall (s := w) hcall)),
        fun hcall => hresign.trans (next_settle (decideResign_out (s := w) hcall))⟩
    · intro n ans
      have hadmit : ∀ v, w.decideAdmit m e (requestWords [w0, w1]) = v → ans = .next v.settle :=
        fun v hv => (hexec _ (hok [w0, w1] rfl) _
          (requestReturn_admit (s := s.afterAnswer t i) hreq howner hgo _)).trans (next_settle hv)
      refine ⟨fun h => hadmit _ (decideAdmit_above h), fun d hd => ?_⟩
      have hindex : d.val = (requestWords [w0, w1]).index := hd
      refine ⟨fun h => hadmit _ (decideAdmit_noEntry (s := w) hindex h), fun hon hnum => ?_⟩
      have hnumber : w.directory[d].number = (requestWords [w0, w1]).number := hnum
      refine ⟨fun u hu hle => hadmit _ (decideAdmit_locked (s := w) hindex hon hnumber hu hle),
        fun hlock => ?_⟩
      have hfree : w.directory[d].lockInForce w.timer.counter = false :=
        Checks.not_lockInForce hlock
      refine ⟨fun d' hin => hadmit _ (decideAdmit_already (s := w) hindex hon hnumber hfree hin),
        fun hout => hadmit _
          ((decideAdmit_challenged (s := w) hindex hon hnumber hfree hout).trans ?_)⟩
      have hbox : (unlocked w d).mailboxes[m] = { s.mailboxes[m] with selfRead := false } :=
        readBack_mailbox (s.afterAnswer t i) m
      have hset : ∀ y, (unlocked w d).mailboxes.set m y = s.mailboxes.set m y := fun y =>
        congrArg State.mailboxes (Restart.setMbox_setMbox (s.afterAnswer t i) m _ y)
      rw [challengeSlot_eq, hbox, hset]
      rfl
  · intro w
    subst hx
    have hexec : ∀ a, q.fits a = true → ∀ v, (s.afterAnswer t i).answerReturn m a = v →
        exec (.answerSelfReadReturn t m a) s = .next v.settle := fun a ha v hv =>
      (exec_answerReturn hself t ha).trans (next_settle hv)
    have hok : ∀ w0 : Word, q.fits (.ok [w0]) = true := fun w0 => fits_ok_of_read hkind hlen.symm
    exact ⟨fun w0 hleft => hexec _ (hok w0) _ (answerReturn_left (s := s.afterAnswer t i) hleft _),
      fun hleft => hexec _ rfl _ (answerReturn_left (s := s.afterAnswer t i) hleft _),
      fun w0 hans hlisted => hexec _ (hok w0) _
        ((answerReturn_ok (s := s.afterAnswer t i) hans [w0]).trans (if_pos hlisted)),
      fun w0 hans hlisted => hexec _ (hok w0) _
        ((answerReturn_ok (s := s.afterAnswer t i) hans [w0]).trans
          (if_neg (Bool.eq_false_iff.1 hlisted))),
      fun hans => hexec _ rfl _ (answerReturn_fault (s := s.afterAnswer t i) hans)⟩

end Sys2Proof.SelfReads

namespace Sys2Proof.AlertLevel

-- Theorems that wait in parallel for the kernel each hold a thread's stack.
set_option Elab.async false

open Sys2Proof Sys2Proof.Machine

/-! ## The level of ALERT (R173) -/

theorem alertLevel_iff (s : State) : s.alertLevel = true ↔
    (s.part = .planned ∨ s.part = .quiescing)
      ∧ (s.engine.completionProducer ≠ s.engine.completionConsumer ∨ s.engine.backlog ≠ []) := by
  have hplan : s.hasPlan = true ↔ s.part = .planned ∨ s.part = .quiescing := by
    unfold State.hasPlan
    cases s.part <;> simp
  simp [State.alertLevel, hplan]

theorem alertRight_iff (s : State) : s.AlertRight ↔ s.alert = s.alertLevel := by
  rw [Bool.eq_iff_iff, alertLevel_iff]
  rfl

/-- The level does not depend on ALERT itself. -/
theorem setAlert_alertRight (s : State) : State.AlertRight { s with alert := s.alertLevel } :=
  (alertRight_iff _).2 rfl

/-- The work after an event ends with ALERT set to its level (log 7). -/
theorem settle_alertRight (s : State) : s.settle.AlertRight :=
  setAlert_alertRight s.settleRings.settleLanes

/-- The return of a response touches the ports alone (R19). -/
theorem returnResponse_only (s : State) (e : EpNo) : ∃ p, s.returnResponse e = s.setPort p := by
  unfold State.returnResponse
  split
  · exact ⟨s.port, rfl⟩
  · split
    · exact ⟨s.port, rfl⟩
    · exact ⟨_, rfl⟩

theorem returnResponse_alertRight {s : State} (h : s.AlertRight) (t : Instant) (e : EpNo) :
    ((s.atInstant t).returnResponse e).AlertRight := by
  obtain ⟨p, hp⟩ := returnResponse_only (s.atInstant t) e
  rw [hp]
  exact h

/-- A command whose event ends with the work of settle: all but the reset pin's and the return of a
response. -/
def settles : Instr → Bool
  | .hardReset => false
  | .resetNRise _ _ => false
  | .responseReturn _ _ => false
  | _ => true

theorem exec_settles {c : Instr} (hc : settles c = true) (s : State) :
    ∃ v, exec c s = .next (State.settle v) := by
  cases c with
  | hardReset => cases hc
  | resetNRise a b => cases hc
  | responseReturn t e => cases hc
  | _ => exact ⟨_, rfl⟩

/-- Reset leaves ALERT deasserted with nothing to report, the return of a response leaves its level
as it was, and every other command ends with the work that sets it. -/
theorem exec_alertRight {c : Instr} {s u : State} (hs : s.AlertRight) (h : exec c s = .next u) :
    u.AlertRight := by
  cases hc : settles c with
  | true =>
    obtain ⟨v, hv⟩ := exec_settles hc s
    have hu : v.settle = u := Host.Outcome.next.inj (hv.symm.trans h)
    exact hu ▸ settle_alertRight v
  | false =>
    cases c with
    | hardReset => cases h; exact Reset.alertRight_of_fresh (Reset.hardReset_fresh s)
    | resetNRise a b => cases h; exact Reset.alertRight_of_fresh (Reset.riseReset_fresh s a b)
    | responseReturn t e => cases h; exact returnResponse_alertRight hs t e
    | _ => cases hc

/-- Settles O55: the queue's rest plays no part in the level, and every command keeps it. -/
theorem alertKept : Obligations.AlertKept := by
  intro s u hs hstep
  unfold step at hstep
  split at hstep
  · cases hstep; exact hs
  · next c rest _ => exact exec_alertRight (s := { s with pending := rest }) hs hstep

end Sys2Proof.AlertLevel

namespace Sys2Proof.Fetching

-- Theorems that wait in parallel for the kernel each hold a thread's stack.
set_option Elab.async false

open Sys2Proof Sys2Proof.Machine Sys2Proof.Restart
open Sys2Proof.Ticks (next_settle)

/-! ## The start of a fetch (R166) -/

theorem mayFetch_iff (s : State) : s.mayFetch = true ↔
    s.part = .planned ∧ s.engine.inExec = none ∧ s.engine.held = none
      ∧ s.engine.orderProducer ≠ s.engine.orderConsumed := by
  simp [State.mayFetch, and_assoc]

theorem startFetch_due {s : State} (h : s.mayFetch = true) : s.startFetch =
    (s.setEngine { s.engine with
      inExec := some { seq := s.engine.orderConsumed, phase := .fetching } }).place .engine false
        [s.fetchEntry] := if_pos h

theorem startFetch_idle {s : State} (h : ¬ s.mayFetch = true) : s.startFetch = s := if_neg h

/-! ## The return of a fetch (R166, R167) -/

/-- The first request that awaits memory for a source stands at its place. -/
theorem selfAt_of_awaitingIdx {s : State} {i : Nat} {src : SelfSource}
    (h : s.awaitingIdx (Awaiting.isSelf src) = some i) : ∃ r, s.SelfAt i r src := by
  obtain ⟨hi, hself, -⟩ := List.findIdx?_eq_some_iff_getElem.1 h
  have hsrc : s.port.awaiting[i].src = .self src := of_decide_eq_true hself
  refine ⟨s.port.awaiting[i].req, h, ?_⟩
  rw [List.getElem?_eq_getElem hi, ← hsrc]

section

variable {s : State} {i : Nat} {q : Half}

theorem fetchReturn_of_fetching (h : s.engine.fetching = some q) (o : Order) :
    s.fetchReturn o = s.countConsumed.execute q o := by
  unfold State.fetchReturn
  rw [h]

theorem fetchFault_of_fetching (h : s.engine.fetching = some q) :
    s.fetchFault = s.countConsumed.finish (orderCompletion q .fault .none []) := by
  unfold State.fetchFault
  rw [h]

theorem exec_orderFetchFault (h : s.FetchAt i q) (t : Instant) : exec (.orderFetchFault t) s =
    .next ((s.afterFetch t i).finish (orderCompletion q .fault .none [])).settle := by
  obtain ⟨hidx, hfetch⟩ := h
  obtain ⟨r, hself⟩ := selfAt_of_awaitingIdx hidx
  exact next_settle ((Answers.answerSelf_of_selfAt hself t rfl).trans
    (fetchFault_of_fetching (s := s.afterAnswer t i) hfetch))

/-- A command that is the return of a fetch carries its order out on the state after the fetch. -/
theorem exec_of_returnsOrder {c : Instr} {t : Instant} {o : Order} (hc : ReturnsOrder c t o)
    (h : s.FetchAt i q) : exec c s = .next ((s.afterFetch t i).execute q o).settle := by
  cases hc with
  | unknown _ k hk =>
    refine next_settle (Eq.trans ?_ (returnOrder_of_fetchAt h t _))
    exact if_neg (Bool.eq_false_iff.1 hk)
  | _ => exact next_settle (returnOrder_of_fetchAt h t _)

end

/-! ## Malformed orders (R178) -/

theorem callOf_above {n : Half} (h : 128 ≤ n.toNat) : callOf n = none := dif_neg (Nat.not_lt.2 h)

theorem rekeyLevel_above {level : Byte} (h : 8 ≤ level.toNat) (hff : level ≠ 0xFF#8) :
    rekeyLevel level = none := (if_neg hff).trans (dif_neg (Nat.not_lt.2 h))

/-- A role code above 3 names no role (10.1). -/
theorem roleOf_above {code : Byte} (h : 3 < code.toNat) : roleOf code = none := by
  cases hrole : roleOf code with
  | none => rfl
  | some role =>
    have hcode := (AdmissionOrders.roleOf_iff code role).1 hrole
    simp only [List.mem_cons, List.not_mem_nil, or_false, Prod.mk.injEq] at hcode
    rcases hcode with ⟨rfl, -⟩ | ⟨rfl, -⟩ | ⟨rfl, -⟩ | ⟨rfl, -⟩ <;> exact absurd h (by decide)

/-- A byte order code above 1 is malformed for a TRUNK (10.1). -/
theorem orderOf_trunk_above {code : Byte} (h : 1 < code.toNat) : orderOf .trunk code = none := by
  cases horder : orderOf .trunk code with
  | none => rfl
  | some be =>
    have hcode := (AdmissionOrders.orderOf_trunk_iff code be).1 horder
    simp only [List.mem_cons, List.not_mem_nil, or_false, Prod.mk.injEq] at hcode
    rcases hcode with ⟨rfl, -⟩ | ⟨rfl, -⟩ <;> exact absurd h (by decide)

theorem enabledOf_above {code : Byte} (h : 1 < code.toNat) : enabledOf code = none := by
  have h0 : code ≠ 0#8 := by rintro rfl; exact absurd h (by decide)
  have h1 : code ≠ 1#8 := by rintro rfl; exact absurd h (by decide)
  exact (if_neg h0).trans (if_neg h1)

theorem reportOf_unknown {code : Byte} (h : code ≠ 1#8 ∧ code ≠ 2#8 ∧ code ≠ 3#8)
    (first count : Nat) : reportOf code first count = none := by
  obtain ⟨h1, h2, h3⟩ := h
  exact (if_neg h1).trans ((if_neg h2).trans (if_neg h3))

/-- Well-formed fields of an OPEN-CALL are none of R178's malformed ones. -/
theorem openCallFields_malformed {c : Half} {n l : Byte} {e0 e1 e2 e3 : Half} {k : Key}
    (h : Malformed (.openCall c n l e0 e1 e2 e3 k)) :
    openCallFields c n l [e0, e1, e2, e3] = none := by
  cases hfields : openCallFields c n l [e0, e1, e2, e3] with
  | none => rfl
  | some x =>
    obtain ⟨call, es, lv⟩ := x
    obtain ⟨hcall, hlow, hhigh, hlevel, heps⟩ := CallOrders.openCallFields_iff.1 hfields
    have hep : ∀ e ∈ [e0, e1, e2, e3].take n.toNat, e.toNat < 512 := by
      intro e he
      have hmem : e.toNat ∈ es.map Fin.val := heps ▸ List.mem_map_of_mem he
      obtain ⟨x, -, hx⟩ := List.mem_map.1 hmem
      exact hx ▸ x.isLt
    have hc := call.isLt
    have hl := lv.isLt
    simp only [Malformed] at h
    have hcount : n.toNat = 2 ∨ n.toNat = 3 ∨ n.toNat = 4 := by omega
    rcases hcount with hn | hn | hn <;> simp [hn] at hep <;> omega

/-- An order with a malformed field is completed BAD-ORDER with no subject, and does nothing more
(R167, R178). -/
theorem execute_malformed {o : Order} (h : Malformed o) (s : State) (q : Half) :
    s.execute q o = s.finish (orderCompletion q .badOrder .none []) := by
  cases o with
  | unknown k => rfl
  | openCall c n l e0 e1 e2 e3 k =>
    rw [State.execute, openCallFields_malformed h]
    rfl
  | addMember c e | dropMember c e =>
    rw [State.execute]
    rcases h with hcall | hep
    · rw [callOf_above hcall]; rfl
    · rw [AdmissionOrders.epOf_above hep]; cases callOf c <;> rfl
  | closeCall c =>
    rw [State.execute, callOf_above h]
    rfl
  | rekeyNow c l =>
    rw [State.execute]
    rcases h with hcall | ⟨hlevel, hff⟩
    · rw [callOf_above hcall]; rfl
    · rw [rekeyLevel_above hlevel hff]; cases callOf c <;> rfl
  | setEndpoint e r b =>
    rw [State.execute]
    rcases h with hrole | ⟨rfl, horder⟩
    · rw [roleOf_above hrole]; rfl
    · rw [show roleOf 2#8 = some .trunk from rfl]
      dsimp only
      rw [orderOf_trunk_above horder]; rfl
  | setDirectory i b n k =>
    rw [State.execute, enabledOf_above h]
    rfl
  | report k f n b =>
    rw [State.execute, State.doReport, reportOf_unknown h]
  | setTiming _ _ => exact h.elim
  | revoke _ | unlock _ => exact h.elim
  | restart => exact h.elim

/-- Settles O32: a fetch by R166's condition, its return by memory's answer, and a malformed order
by its kind. -/
theorem ordersFetched : Obligations.OrdersFetched := by
  refine ⟨fun s t => ⟨fun hpart hidle hheld hcounts => ?_, fun h => ?_⟩,
    fun s t i q hfetch => ⟨rfl, exec_orderFetchFault hfetch t, fun c o hc hbad => ?_⟩⟩
  · exact next_settle (startFetch_due (s := s.atInstant t)
      ((mayFetch_iff (s.atInstant t)).2 ⟨hpart, hidle, hheld, hcounts⟩))
  · refine next_settle (startFetch_idle fun hmay => ?_)
    obtain ⟨hpart, hidle, hheld, hcounts⟩ := (mayFetch_iff (s.atInstant t)).1 hmay
    rcases h with h | h | h | h
    · exact h hpart
    · exact h hidle
    · exact h hheld
    · exact hcounts h
  · exact (exec_of_returnsOrder hc hfetch).trans (next_settle (execute_malformed hbad _ q))

end Sys2Proof.Fetching

namespace Sys2Proof.OrderFormats

-- Theorems that wait in parallel for the kernel each hold a thread's stack.
set_option Elab.async false

open Sys2Proof Sys2Proof.Machine Sys2Proof.Records Sys2Proof.Fetching
open Sys2Proof.Ticks (next_settle)

/-! ## Words by their bytes and halves (10.1) -/

/-- Fields that do not overlap stand side by side: the word of a low field and one moved up above
it. -/
theorem or_shiftLeft_toNat {x y : Word} {n : Nat} (hx : x.toNat < 2 ^ n)
    (hy : y.toNat * 2 ^ n < 2 ^ 32) : (x ||| y <<< n).toNat = x.toNat + y.toNat * 2 ^ n := by
  rw [BitVec.toNat_or, BitVec.toNat_shiftLeft, Nat.shiftLeft_eq, Nat.mod_eq_of_lt hy, Nat.or_comm,
    ← Nat.shiftLeft_eq, ← Nat.shiftLeft_add_eq_or_of_lt hx, Nat.shiftLeft_eq, Nat.add_comm]

theorem setWidth_byte_toNat (b : Byte) : (b.setWidth 32).toNat = b.toNat := by
  rw [BitVec.toNat_setWidth, Nat.mod_eq_of_lt (by omega)]

theorem setWidth_half_toNat (h : Half) : (h.setWidth 32).toNat = h.toNat := by
  rw [BitVec.toNat_setWidth, Nat.mod_eq_of_lt (by omega)]

theorem wordOfHalves_toNat (x y : Half) : (wordOfHalves x y).toNat = x.toNat + 65536 * y.toNat := by
  unfold wordOfHalves
  rw [or_shiftLeft_toNat] <;> simp only [setWidth_half_toNat] <;> omega

theorem wordOfBytes_toNat (a b c d : Byte) : (wordOfBytes a b c d).toNat =
    a.toNat + 256 * b.toNat + 65536 * c.toNat + 16777216 * d.toNat := by
  have hab : (a.setWidth 32 ||| b.setWidth 32 <<< 8).toNat = a.toNat + 256 * b.toNat := by
    rw [or_shiftLeft_toNat] <;> simp only [setWidth_byte_toNat] <;> omega
  have habc : (a.setWidth 32 ||| b.setWidth 32 <<< 8 ||| c.setWidth 32 <<< 16).toNat =
      a.toNat + 256 * b.toNat + 65536 * c.toNat := by
    rw [or_shiftLeft_toNat] <;> simp only [setWidth_byte_toNat, hab] <;> omega
  unfold wordOfBytes
  rw [or_shiftLeft_toNat] <;> simp only [setWidth_byte_toNat, habc] <;> omega

theorem byteOf_toNat (w : Word) (k : Nat) : (byteOf w k).toNat = w.toNat / 2 ^ (8 * k) % 256 := by
  unfold byteOf
  rw [BitVec.toNat_setWidth, BitVec.toNat_ushiftRight, Nat.shiftRight_eq_div_pow]

theorem loByte_toNat (h : Half) : (loByte h).toNat = h.toNat % 256 := BitVec.toNat_setWidth ..

theorem hiByte_toNat (h : Half) : (hiByte h).toNat = h.toNat / 256 := by
  unfold hiByte
  rw [BitVec.toNat_setWidth, BitVec.toNat_ushiftRight, Nat.shiftRight_eq_div_pow]
  omega

theorem half_toNat (h : Half) : h.toNat = (loByte h).toNat + 256 * (hiByte h).toNat := by
  rw [loByte_toNat, hiByte_toNat]
  omega

theorem byteOf_two_wordOfBytes (b0 b1 b2 b3 : Byte) : byteOf (wordOfBytes b0 b1 b2 b3) 2 = b2 := by
  apply BitVec.eq_of_toNat_eq
  rw [byteOf_toNat, wordOfBytes_toNat]
  omega

theorem byteOf_three_wordOfBytes (b0 b1 b2 b3 : Byte) :
    byteOf (wordOfBytes b0 b1 b2 b3) 3 = b3 := by
  apply BitVec.eq_of_toNat_eq
  rw [byteOf_toNat, wordOfBytes_toNat]
  omega

/-- A half whose bytes are the lower two of a word is the word's lower half. -/
theorem loHalf_wordOfBytes (h : Half) (b2 b3 : Byte) :
    loHalf (wordOfBytes (loByte h) (hiByte h) b2 b3) = h := by
  apply BitVec.eq_of_toNat_eq
  unfold loHalf
  rw [BitVec.toNat_setWidth, wordOfBytes_toNat, loByte_toNat, hiByte_toNat]
  omega

theorem keyOf_wordOfHalves (k0 k1 k2 k3 : Half) :
    keyOf (wordOfHalves k0 k1) (wordOfHalves k2 k3) =
      { k0 := k0, k1 := k1, k2 := k2, k3 := k3 } := by
  simp only [keyOf, loHalf_wordOfHalves, hiHalf_wordOfHalves]

/-! ## Order entries (10.4) -/

/-- An entry whose kind code names no order is an unknown order (R178). -/
theorem decodeOrder_unknown {ws : List Word} {n : Byte} (hkind : byteOf (wordAt ws 0) 0 = n)
    (h : n ∉ orderKindCodes) : decodeOrder ws = .unknown n := by
  simp only [orderKindCodes, List.mem_cons, List.not_mem_nil, or_false, not_or] at h
  obtain ⟨h1, h2, h3, h4, h5, h10, h20, h21, h22, h23, h30, h3f⟩ := h
  unfold decodeOrder
  simp only [hkind, h1, h2, h3, h4, h5, h10, h20, h21, h22, h23, h30, h3f, if_false]

/-- Memory's answer to the fetch is carried out as the order that its words hold (R166, R167). -/
theorem exec_fetchAnswer {s : State} {i : Nat} {q : Half} {r : DsRequest} {ws : List Word}
    (hself : s.SelfAt i r .orderFetch) (hfetch : s.FetchAt i q)
    (hfits : r.fits (.ok ws) = true) (t : Instant) : exec (.memoryAnswer t i (.ok ws)) s =
      .next ((s.afterFetch t i).execute q (decodeOrder ws)).settle := by
  obtain ⟨-, hawait⟩ := hself
  obtain ⟨-, hfetching⟩ := hfetch
  exact next_settle ((Answers.answerAt_self hawait t hfits).trans
    (fetchReturn_of_fetching (s := s.afterAnswer t i) hfetching _))

/-- Settles O33: each kind's fields from their places, and the fetch's return by its order. -/
theorem orderEntriesDecode : Obligations.OrderEntriesDecode := by
  refine ⟨?_, fun a b c d x y =>
      ⟨wordOfBytes_toNat a b c d, wordOfHalves_toNat x y, half_toNat x⟩,
    fun s t i r q c o ws hself hfetch hkind hlen hws hc hdecode => ?_⟩
  · intro a b c n l ro by' on y z call e0 e1 e2 e3 k0 k1 k2 k3 x1 x2 period number buffer
      u1 u2 u3 u4 u5 u6 u7
    refine ⟨?_, ?_, ?_, ?_, ?_, ?_, ?_, ?_, ?_, ?_, ?_, ?_, fun hn =>
      decodeOrder_unknown (byteOf_zero_wordOfBytes n a b c) hn⟩
    all_goals
      simp [decodeOrder, wordAt, byteOf_zero_wordOfBytes, byteOf_two_wordOfBytes,
        byteOf_three_wordOfBytes, loHalf_wordOfBytes, hiHalf_wordOfBytes, loHalf_wordOfHalves,
        hiHalf_wordOfHalves, keyOf_wordOfHalves]
  · rw [exec_fetchAnswer hself hfetch (Answers.fits_ok_of_read hkind (hws.trans hlen.symm)) t,
      exec_of_returnsOrder hc hfetch, hdecode]

end Sys2Proof.OrderFormats

namespace Sys2Proof.ReportOrders

-- Theorems that wait in parallel for the kernel each hold a thread's stack.
set_option Elab.async false

open Sys2Proof Sys2Proof.Machine Sys2Proof.Restart Sys2Proof.Fetching

/-! ## The checks of a REPORT (R175) -/

/-- A buffer of n records that a REPORT may write: on a multiple of 16, within the byte space, and
apart from the five areas of the plan (R175). -/
def BufferFits (s : State) (buffer n : Nat) : Prop :=
  buffer % 16 = 0 ∧ buffer + 16 * n ≤ 4294967296
    ∧ ∀ area ∈ planAreas s.thePlan s.anchorByte,
      buffer + 16 * n ≤ area.1 ∨ area.1 + area.2 ≤ buffer

theorem bufferOk_iff (s : State) (buffer n : Nat) :
    s.bufferOk buffer n = true ↔ BufferFits s buffer n := by
  have apart : ∀ area : Nat × Nat, ¬ rangesMeet (buffer, 16 * n) area = true ↔
      buffer + 16 * n ≤ area.1 ∨ area.1 + area.2 ≤ buffer := fun area => by
    rw [Regions.rangesMeet_iff]
    omega
  simp only [State.bufferOk, BufferFits, Bool.and_eq_true, decide_eq_true_eq, Bool.not_eq_true',
    ← Bool.not_eq_true, List.any_eq_true, not_exists, not_and, apart, and_assoc]

theorem reportOf_endpoints {first count : Nat}
    (h : 1 ≤ count ∧ count ≤ 64 ∧ first + count ≤ 512) :
    reportOf 1#8 first count = some (.endpoints first count) :=
  (if_pos rfl).trans (if_neg (by simp only [Bool.or_eq_true, decide_eq_true_eq]; omega))

theorem reportOf_endpoints_range {first count : Nat}
    (h : ¬ (1 ≤ count ∧ count ≤ 64 ∧ first + count ≤ 512)) : reportOf 1#8 first count = none :=
  (if_pos rfl).trans (if_pos (by simp only [Bool.or_eq_true, decide_eq_true_eq]; omega))

theorem reportOf_call {first : Nat} {c : CallNo} (h : c.val = first) (count : Nat) :
    reportOf 2#8 first count = some (.call c) := by
  subst h
  exact dif_pos c.isLt

theorem reportOf_call_range {first : Nat} (h : 128 ≤ first) (count : Nat) :
    reportOf 2#8 first count = none := dif_neg (Nat.not_lt.2 h)

/-! ## REPORT at its execution (R175) -/

section

variable {s : State} {q : Half} {code : Byte} {first count buffer : Nat} {k : ReportKind}

/-- A REPORT just begun: no record write of it is placed yet. -/
def newJob (k : ReportKind) (buffer : Nat) : ReportJob :=
  { kind := k, buffer := buffer, placed := 0, outstanding := 0, faulted := false }

theorem doReport_range (h : reportOf code first count = none) :
    s.doReport q code first count buffer = s.finish (orderCompletion q .badOrder .none []) := by
  unfold State.doReport
  rw [h]

theorem doReport_buffer (h : reportOf code first count = some k)
    (hbuffer : ¬ BufferFits s buffer k.records) :
    s.doReport q code first count buffer = s.finish (orderCompletion q .badOrder .none []) := by
  unfold State.doReport
  rw [h]
  exact if_neg fun hok => hbuffer ((bufferOk_iff s buffer k.records).1 hok)

theorem doReport_begins (h : reportOf code first count = some k)
    (hbuffer : BufferFits s buffer k.records) : s.doReport q code first count buffer =
      (s.setEngine { s.engine with
        inExec := some { seq := q, phase := .report (newJob k buffer) } }).placeReport := by
  unfold State.doReport
  rw [h]
  exact if_pos ((bufferOk_iff s buffer k.records).2 hbuffer)

end

/-- A fetch that returns changes neither the plan nor the anchor, so no area moves. -/
theorem bufferFits_afterFetch (s : State) (t : Instant) (i buffer n : Nat) :
    BufferFits (s.afterFetch t i) buffer n ↔ BufferFits s buffer n := by
  obtain ⟨g, y, q, w, h⟩ := afterFetch_only s t i
  rw [h]
  rfl

/-- Settles O46: the operands by the kind of REPORT, then the buffer. -/
theorem reportOrders : Obligations.ReportOrders := by
  intro s t i q first count buffer hfetch w fits bad begins spans
  have hfits : ∀ n, fits n ↔ BufferFits w buffer.toNat n := fun n =>
    (bufferFits_afterFetch s t i buffer.toNat n).symm
  have hexec : ∀ {c code first' count'},
      ReturnsOrder c t (.report code first' count' buffer) → ∀ v,
      w.doReport q code first'.toNat count'.toNat buffer.toNat = v → exec c s = .next v.settle :=
    fun hc v hv => (exec_of_returnsOrder hc hfetch).trans (Ticks.next_settle hv)
  refine ⟨fun hspans hbuffer => ?_, fun h => ?_, fun c hc hbuffer => ?_, fun h => ?_,
    fun hbuffer => ?_, fun hbuffer => ?_⟩
  · exact hexec (.reportEndpoints t first count buffer) _
      (doReport_begins (reportOf_endpoints hspans) ((hfits _).1 hbuffer))
  · refine hexec (.reportEndpoints t first count buffer) _ ?_
    by_cases hspans : spans
    · exact doReport_buffer (reportOf_endpoints hspans) fun hbuffer =>
        h ⟨hspans, (hfits _).2 hbuffer⟩
    · exact doReport_range (reportOf_endpoints_range hspans)
  · exact hexec (.reportCall t first buffer) _
      (doReport_begins (reportOf_call hc _) ((hfits 4).1 hbuffer))
  · refine hexec (.reportCall t first buffer) _ ?_
    by_cases hrange : 128 ≤ first.toNat
    · exact doReport_range (reportOf_call_range hrange _)
    · exact doReport_buffer
        (reportOf_call (c := ⟨first.toNat, Nat.not_le.1 hrange⟩) rfl _) fun hbuffer =>
          h.resolve_left hrange ((hfits 4).2 hbuffer)
  · exact hexec (.reportSummary t buffer) _
      (doReport_begins (k := .summary) rfl ((hfits 3).1 hbuffer))
  · exact hexec (.reportSummary t buffer) _
      (doReport_buffer (k := .summary) rfl fun h => hbuffer ((hfits 3).2 h))

end Sys2Proof.ReportOrders

namespace Sys2Proof.Completing

-- Theorems that wait in parallel for the kernel each hold a thread's stack.
set_option Elab.async false

open Sys2Proof Sys2Proof.Machine Sys2Proof.Laws

/-! ## The writing of completions (R168, R170) -/

/-- The test of a writer of the engine: room in the ring, and no notice waiting (R170). -/
theorem mayWrite_iff (g : Engine) : (g.room && g.backlog.isEmpty) = true ↔
    (g.completionProducer - g.completionConsumer).toNat < 64 ∧ g.backlog = [] := by
  rw [Bool.and_eq_true, Draining.room_iff, List.isEmpty_iff]

theorem finish_written {s : State}
    (hroom : (s.engine.completionProducer - s.engine.completionConsumer).toNat < 64)
    (hnone : s.engine.backlog = []) (c : Completion) :
    s.finish c = s.endExecution.writeCompletion .engine false c :=
  (finish_eq s c).trans (if_pos ((mayWrite_iff _).2 ⟨hroom, hnone⟩))

theorem finish_held {s : State}
    (h : 64 ≤ (s.engine.completionProducer - s.engine.completionConsumer).toNat
      ∨ s.engine.backlog ≠ []) (c : Completion) :
    s.finish c = s.setEngine { s.engine with inExec := none, held := some c } := by
  refine (finish_eq s c).trans (if_neg fun hmay => ?_)
  obtain ⟨hroom, hnone⟩ := (mayWrite_iff _).1 hmay
  exact h.elim (Nat.not_le.2 hroom) fun hsome => hsome hnone

/-! ## The layout of a completion entry (10.5) -/

theorem compKind_code {k : CompKind} {b : Byte}
    (h : (k, b) ∈ [(CompKind.order, 0#8), (.callEmptied, 1#8), (.admitted, 2#8),
      (.deadmitted, 3#8), (.syncLost, 4#8), (.syncRegained, 5#8), (.slip, 6#8),
      (.memoryFault, 7#8)]) : k.code = b := by
  cases k <;> simp at h <;> exact h.symm

theorem status_code {x : Status} {b : Byte}
    (h : (x, b) ∈ [(Status.done, 0#8), (.badOrder, 1#8), (.noCall, 2#8), (.callTaken, 3#8),
      (.notEligible, 4#8), (.listFull, 5#8), (.callFull, 6#8), (.noRing, 7#8), (.inCall, 8#8),
      (.busy, 10#8), (.fault, 11#8)]) : x.code = b := by
  cases x <;> simp at h <;> exact h.symm

theorem subject_bytes {u : CompSubject} {p : Byte × Half}
    (h : u = .none ∧ p = (0#8, 0xFFFF#16) ∨ u = .call p.2 ∧ p.1 = 1#8
      ∨ u = .endpoint p.2 ∧ p.1 = 2#8 ∨ u = .entry p.2 ∧ p.1 = 3#8) :
    u.code = p.1 ∧ u.value = p.2 := by
  rcases h with ⟨rfl, rfl⟩ | ⟨rfl, hkind⟩ | ⟨rfl, hkind⟩ | ⟨rfl, hkind⟩
  · exact ⟨rfl, rfl⟩
  all_goals exact ⟨hkind.symm, rfl⟩

/-- Filling a list up with the default changes no element read with that default. -/
theorem getD_append_replicate {α : Type} (l : List α) (n k : Nat) (d : α) :
    (l ++ List.replicate n d).getD k d = l.getD k d := by
  by_cases hk : k < l.length
  · exact List.getD_append _ _ _ _ hk
  · rw [List.getD_append_right _ _ _ _ (Nat.not_lt.1 hk),
      List.getD_eq_default _ _ (Nat.not_lt.1 hk), List.getD_eq_getElem?_getD, List.getElem?_getD_replicate_default_eq]

theorem completionWords_eq {c : Completion} {d0 d1 d2 d3 : Byte}
    (h : c.data ++ List.replicate (4 - c.data.length) 0#8 = [d0, d1, d2, d3]) : completionWords c =
      [wordOfBytes c.kind.code c.status.code (loByte c.seq) (hiByte c.seq),
       wordOfBytes c.subject.code (BitVec.ofNat 8 c.repeats) (loByte c.subject.value)
         (hiByte c.subject.value),
       wordOfBytes d0 d1 d2 d3, wordOfBytes (BitVec.ofNat 8 c.data.length) 0#8 0#8 0#8] := by
  have hbyte : ∀ k, c.data.getD k 0#8 = [d0, d1, d2, d3].getD k 0#8 := fun k => by
    rw [← h, getD_append_replicate]
  unfold completionWords
  rw [hbyte 0, hbyte 1, hbyte 2, hbyte 3]
  rfl

/-- Settles O34: by room and backlog, and the entry byte by byte. -/
theorem completionWrittenOrHeld : Obligations.CompletionWrittenOrHeld := by
  refine ⟨fun s c => ⟨fun hroom hnone => finish_written hroom hnone c, fun h => finish_held h c⟩,
    fun s b byPass restart c => rfl,
    fun c kind status su d0 d1 d2 d3 hkind hstatus hsubject _ hdata => ?_⟩
  obtain ⟨hcode, hvalue⟩ := subject_bytes hsubject
  rw [completionWords_eq hdata, compKind_code hkind, status_code hstatus, hcode, hvalue]

end Sys2Proof.Completing

namespace Sys2Proof.Notices

-- Theorems that wait in parallel for the kernel each hold a thread's stack.
set_option Elab.async false

open Sys2Proof Sys2Proof.Machine Sys2Proof.Laws Sys2Proof.Completing
open Sys2Proof.Ticks (next_settle)

/-! ## The backlog (R171) -/

section

variable {n b : Notice} {pre : List Notice}

theorem addNotice_newest (h : ∀ x ∈ pre, x.kind ≠ n.kind) : addNotice n pre = pre ++ [n] := by
  induction pre with
  | nil => rfl
  | cons x xs ih =>
    obtain ⟨hx, hxs⟩ := List.forall_mem_cons.1 h
    rw [addNotice, if_neg hx, ih hxs, List.cons_append]

theorem addNotice_merged (h : ∀ x ∈ pre, x.kind ≠ n.kind) (hb : b.kind = n.kind)
    (post : List Notice) : addNotice n (pre ++ b :: post) =
      pre ++ { n with repeats := min 255 (b.repeats + 1) } :: post := by
  induction pre with
  | nil => rw [List.nil_append, addNotice, if_pos hb, Offers.satSucc_eq_min, List.nil_append]
  | cons x xs ih =>
    obtain ⟨hx, hxs⟩ := List.forall_mem_cons.1 h
    rw [List.cons_append, addNotice, if_neg hx, ih hxs, List.cons_append]

end

/-! ## Notices raised and delivered (R171, R172) -/

theorem raise_unplanned {s : State} (h : s.part = .unplanned) (k : CompKind) (u : CompSubject)
    (d : List Byte) : s.raise k u d = s :=
  if_neg fun hplan => (Reserving.hasPlan_iff s).1 hplan h

theorem raise_planned {s : State} (h : s.part ≠ .unplanned) (k : CompKind) (u : CompSubject)
    (d : List Byte) : s.raise k u d = (s.setEngine { s.engine with
      backlog := addNotice { kind := k, subject := u, data := d, repeats := 1 }
        s.engine.backlog }).deliver :=
  if_pos ((Reserving.hasPlan_iff s).2 h)

theorem deliver_waits {s : State} (h : s.engine.backlog = []
    ∨ 64 ≤ (s.engine.completionProducer - s.engine.completionConsumer).toNat) : s.deliver = s := by
  unfold State.deliver
  cases hbacklog : s.engine.backlog with
  | nil => rfl
  | cons n rest =>
    have hfull := h.resolve_left (hbacklog ▸ List.cons_ne_nil n rest)
    rw [List.length_cons, State.deliverN, hbacklog]
    exact if_neg fun hroom => Nat.not_lt.2 hfull ((Draining.room_iff _).1 hroom)

/-- The oldest notice taken from the backlog and written as a completion (R172). -/
def withOldest (s : State) (n : Notice) (rest : List Notice) : State :=
  (s.setEngine { s.engine with backlog := rest }).writeCompletion .engine false n.completion

theorem withOldest_backlog (s : State) (n : Notice) (rest : List Notice) :
    (withOldest s n rest).engine.backlog = rest := by
  unfold withOldest
  rw [writeCompletion_engine]
  rfl

theorem deliver_oldest {s : State} {n : Notice} {rest : List Notice}
    (h : s.engine.backlog = n :: rest)
    (hroom : (s.engine.completionProducer - s.engine.completionConsumer).toNat < 64) :
    s.deliver = (withOldest s n rest).deliver := by
  have hstep : State.deliverN (rest.length + 1) s =
      State.deliverN rest.length (withOldest s n rest) := by
    rw [State.deliverN, h]
    exact if_pos ((Draining.room_iff _).2 hroom)
  unfold State.deliver
  rw [withOldest_backlog, h]
  exact hstep

/-! ## The held completion (R170) -/

section

variable {s : State}

theorem writeHeld_written {c : Completion} (h : s.engine.held = some c)
    (hnone : s.engine.backlog = [])
    (hroom : (s.engine.completionProducer - s.engine.completionConsumer).toNat < 64) :
    s.writeHeld = (s.setEngine { s.engine with held := none }).writeCompletion .engine false c := by
  unfold State.writeHeld
  rw [h]
  exact if_pos ((mayWrite_iff _).2 ⟨hroom, hnone⟩)

theorem writeHeld_waits (h : s.engine.held = none ∨ s.engine.backlog ≠ []
    ∨ 64 ≤ (s.engine.completionProducer - s.engine.completionConsumer).toNat) :
    s.writeHeld = s := by
  unfold State.writeHeld
  split
  · rfl
  · next c hheld =>
    refine if_neg fun hmay => ?_
    obtain ⟨hroom, hnone⟩ := (mayWrite_iff _).1 hmay
    rcases h with h | h | h
    · rw [h] at hheld; cases hheld
    · exact h hnone
    · exact Nat.not_lt.2 h hroom

end

/-! ## Self-writes answered (R174) -/

section

variable {src : SelfSource} {d : List Byte}

/-- OK to a self-write changes nothing, but to the entry of the RESTART completion (R10, R174). -/
theorem selfAnswer_ok (h : src.faultData = some d) (hrestart : ∀ k, src ≠ .completionEntry k true)
    (s : State) : s.selfAnswer src (.ok []) = s := by
  cases src with
  | completionEntry k restart =>
    obtain rfl : restart = false := Bool.eq_false_iff.2 fun ht => hrestart k (ht ▸ rfl)
    exact ite_self s
  | anchorRead | orderFetch | report => cases h
  | requestRead m | answerRead m => cases h
  | _ => rfl

/-- FAULT to the entry write of a MEMORY-FAULT completion raises nothing further (R174). -/
theorem selfAnswer_fault_quiet (s : State) :
    s.selfAnswer (.completionEntry .memoryFault false) .fault = s := rfl

/-- FAULT to any other self-write raises MEMORY-FAULT with its source (R174). -/
theorem selfAnswer_fault (h : src.faultData = some d)
    (hrestart : ∀ k, src ≠ .completionEntry k true)
    (hquiet : src ≠ .completionEntry .memoryFault false) (s : State) :
    s.selfAnswer src .fault = s.raise .memoryFault .none d := by
  have hraise : s.selfWriteFault src = s.raise .memoryFault .none d := by
    unfold State.selfWriteFault
    rw [h]
  cases src with
  | completionEntry k restart =>
    obtain rfl : restart = false := Bool.eq_false_iff.2 fun ht => hrestart k (ht ▸ rfl)
    have hk : k ≠ .memoryFault := fun hk => hquiet (hk ▸ rfl)
    exact (if_neg hk).trans hraise
  | anchorRead | orderFetch | report => cases h
  | requestRead m | answerRead m => cases h
  | _ => exact hraise

/-- Memory answers a self-traffic entry. -/
theorem exec_selfAnswer {s : State} {i : Nat} {r : DsRequest}
    (h : s.port.awaiting[i]? = some { req := r, src := .self src }) (t : Instant) {a : Answer}
    (hfits : r.fits a = true) :
    exec (.memoryAnswer t i a) s = .next ((s.afterAnswer t i).selfAnswer src a).settle :=
  next_settle (Answers.answerAt_self h t hfits)

end

/-- The data of MEMORY-FAULT by source: its code, and the slot's number for a mailbox source
(10.5). -/
theorem mailbox_faultData (m : MboxNo) : ∀ x ∈ [(SelfSource.mirror m, 4#8), (.challenge m, 5#8),
    (.verdict m, 6#8), (.claimClear m, 7#8)],
    x.1.faultData = some [x.2, BitVec.ofNat 8 m.val] := by
  simp [SelfSource.faultData, byteN]

theorem read_faultData (m : MboxNo) : ∀ x ∈ [SelfSource.anchorRead, .orderFetch, .report,
    .requestRead m, .answerRead m], x.faultData = none := by
  simp [SelfSource.faultData]

/-- Settles O50: the backlog by its kinds, delivery and the held completion by room, and a
self-write's answer by its source. -/
theorem noticesDelivered : Obligations.NoticesDelivered := by
  refine ⟨fun n b pre post h => ⟨addNotice_newest h, fun hb => addNotice_merged h hb post⟩,
    fun s k u d => ⟨fun h => raise_unplanned h k u d, fun h => raise_planned h k u d⟩,
    fun s t => ⟨fun h => ⟨deliver_waits h, next_settle (deliver_waits (s := s.atInstant t) h)⟩,
      fun n rest h hroom => ⟨deliver_oldest h hroom,
        next_settle (deliver_oldest (s := s.atInstant t) h hroom)⟩⟩,
    fun s t => ⟨fun c h hnone hroom =>
        next_settle (writeHeld_written (s := s.atInstant t) h hnone hroom),
      fun h => next_settle (writeHeld_waits (s := s.atInstant t) h)⟩,
    ⟨rfl, fun _ _ => rfl, rfl, mailbox_faultData, rfl, read_faultData⟩,
    fun s t i r src d hawait hwrite hdata hrestart => ⟨?_, fun hquiet => ?_, fun hquiet => ?_⟩⟩
  · have hfits : r.fits (.ok []) = true := Answers.fits_ok_of_write (by rw [hwrite]; rfl)
    exact (exec_selfAnswer hawait t hfits).trans (next_settle (selfAnswer_ok hdata hrestart _))
  · exact (exec_selfAnswer hawait t rfl).trans
      (next_settle (selfAnswer_fault hdata hrestart hquiet _))
  · subst hquiet
    exact (exec_selfAnswer hawait t rfl).trans (next_settle (selfAnswer_fault_quiet _))

end Sys2Proof.Notices

namespace Sys2Proof.Queue

open Sys2Proof Sys2Proof.Machine

/-! ## The queue of commands (log 1) -/

theorem step_of_pending_nil {s : State} (h : s.pending = []) : step s = .next s := by
  rw [step, h]

theorem step_of_pending_cons {s : State} {c : Instr} {q : List Instr} (h : s.pending = c :: q) :
    step s = exec c { s with pending := q } := by
  rw [step, h]

/-- Settles O1, by the two shapes of the queue. -/
theorem frontCommandRuns : Obligations.FrontCommandRuns :=
  ⟨fun c s q => step_of_pending_cons (s := { s with pending := c :: q }) rfl,
    fun _ => step_of_pending_nil⟩

end Sys2Proof.Queue
